-- ==== Sys2Proof/Word.lean ====
section
/-!
DEFINITION. The words of the PG412 and its plain index types (00_scope.md, Conventions).
-/

namespace Sys2Proof

/-- One byte of a lane frame, of a transfer or of the DRAM device. -/
abbrev Byte := BitVec 8

/-- A word is 16 bits (00_scope.md, "Words and numbers"). -/
abbrev Word := BitVec 16

/-- A card number is 48 bits (00_scope.md, "Card numbers"). -/
abbrev CardNumber := BitVec 48

/-- Lanes are numbered 0 to 11. -/
abbrev Lane := Fin 12

/-- Berths are numbered 0 to 3. -/
abbrev Berth := Fin 4

/-- Departures are numbered 0 to 15. -/
abbrev DepIx := Fin 16

/-- Route classes are numbered 0 to 7. -/
abbrev RouteClass := Fin 8

/-- Fare classes are numbered 0 to 3: ADULT, CHILD, SENIOR and REDUCED, in that order. -/
abbrev FareClass := Fin 4

/-- Rate bands are numbered 0 to 5. -/
abbrev BandIx := Fin 6

/-- Watch list entries are numbered 0 to 3 (R146). -/
abbrev WatchIx := Fin 4

/-- The subject of an attention occurrence: two words (R172). -/
abbrev Subject := Word × Word

end Sys2Proof
end

