-- ==== Sys2Proof/Syntax.lean ====
section
/-!
DEFINITION. The commands of the PG412: one constructor of `Instr` for each row of spec/opcode_table.json.

The rows are "the part's steps" (95_what_each_step_holds.md). Three kinds of row:
* an EVENT from outside (a reset, a second event, a gate frame, a transfer of the station link, a
  decay of a slot) carries what the event brings;
* a DIRECT command of the link carries its operand words: it stands for the transfers of its COMMAND word
  and of them, at the arrival of the last, when its owner takes it whole (R165);
* an operation of the RECORD ENGINE (a tap decision, a commit, clearing, an ENGINE command of the
  link) carries how far the engine gets with the operation it was granted before the next command
  of the queue is taken. The operand words of an ENGINE command were collected by the link and
  taken by the engine at the grant (R153); they are in the state, not here.
-/

namespace Sys2Proof

/-- How far the record engine gets with the operation in service: to its end, or through the next
`n` of its stages (for clearing: the next `n` slot writes). Other blocks' requests can fall between
the stages of an engine operation (R142, R154, R156). -/
inductive Progress where
  | whole
  | stages (n : Nat)
deriving DecidableEq, Repr

/-- One byte received on a lane line: its value, and whether its stop bit was found (R126). -/
structure RxByte where
  value  : Byte
  framed : Bool
deriving DecidableEq, Repr

/-- The commands. Each docstring names the row's rule. -/
inductive Instr where
  /-- COLD_RESET, R186 -/
  | coldReset
  /-- WARM_RESET, R187: the reset line changes from released to asserted. -/
  | warmReset
  /-- SECOND_EVENT, R72 -/
  | secondEvent
  /-- MINUTE_EVENT, R73 -/
  | minuteEvent
  /-- PASSAGE_TIMER_EXPIRY, R113 -/
  | passageTimerExpiry (lane : Lane)
  /-- TAP, R108: a well-formed TAP frame with its card number. -/
  | tap (lane : Lane) (card : CardNumber)
  /-- PASSED, R109 -/
  | passed (lane : Lane)
  /-- WALKAWAY, R110 -/
  | walkaway (lane : Lane)
  /-- CANCEL, R111 -/
  | cancel (lane : Lane)
  /-- FRAME_DISCARD, R126: bytes received that complete no frame, start bytes among them. -/
  | frameDiscard (lane : Lane) (bytes : List RxByte)
  /-- FRAME_TIMEOUT, R126: the second second event since the start byte of the frame in reception, with the
  bytes received after that start byte. -/
  | frameTimeout (lane : Lane) (bytes : List RxByte)
  /-- FRAME_SENT, R127 -/
  | frameSent (lane : Lane)
  /-- TRANSFER_BEGIN, R160 -/
  | transferBegin
  /-- TRANSFER_COMPLETE, R159: the host's kind byte and word. -/
  | transferComplete (kind : Byte) (word : Word)
  /-- TRANSFER_VOID, R159 -/
  | transferVoid
  /-- TAP_DECISION, R137 -/
  | tapDecision (progress : Progress)
  /-- COMMIT, R150 -/
  | commit (progress : Progress)
  /-- CLEARING, R17 -/
  | clearing (progress : Progress)
  /-- CLEARING_COMPLETE, R190 -/
  | clearingComplete
  /-- NOP, R169 -/
  | nop
  /-- IDENTIFY, R170 -/
  | identify
  /-- START, R189 -/
  | start (k p : Word)
  /-- RESUME, R191 -/
  | resume
  /-- HALT, R192 -/
  | halt
  /-- CONTINUE, R193 -/
  | continueService
  /-- KEEP, R188 -/
  | keep
  /-- RESTART, R187 -/
  | restart
  /-- CARD_ADD, R39 -/
  | cardAdd (progress : Progress)
  /-- CARD_FIND, R40 -/
  | cardFind (progress : Progress)
  /-- ADD_VALUE, R41 -/
  | addValue (progress : Progress)
  /-- SET_BALANCE, R42 -/
  | setBalance (progress : Progress)
  /-- SETTLE, R43 -/
  | settle (progress : Progress)
  /-- SET_PRODUCT, R44 -/
  | setProduct (progress : Progress)
  /-- DENY, R45 -/
  | deny (progress : Progress)
  /-- ALLOW, R45 -/
  | allow (progress : Progress)
  /-- CARD_RETIRE, R46 -/
  | cardRetire (progress : Progress)
  /-- ENFORCE, R31 -/
  | enforce (progress : Progress)
  /-- TABLE_SEEK, R20 -/
  | tableSeek (progress : Progress)
  /-- TABLE_READ, R21 -/
  | tableRead (progress : Progress)
  /-- TABLE_WRITE, R22 -/
  | tableWrite (progress : Progress)
  /-- FARE_SET_BASE, R52 -/
  | fareSetBase (progress : Progress)
  /-- FARE_SET_BAND, R53 -/
  | fareSetBand (progress : Progress)
  /-- FARE_SET_CLASS, R54 -/
  | fareSetClass (progress : Progress)
  /-- FARE_SET_POLICY, R55 -/
  | fareSetPolicy (progress : Progress)
  /-- FARE_READ, R56 -/
  | fareRead (progress : Progress)
  /-- CLOCK_READ, R75 -/
  | clockRead
  /-- SET_TIME, R76 -/
  | setTime (minute : Word)
  /-- NEW_DAY, R77 -/
  | newDay (minute : Word)
  /-- SET_DAY, R78 -/
  | setDay (day minute : Word)
  /-- DEPARTURE_DEFINE, R94 -/
  | departureDefine (departure berth route tag capacity margin followOn autoStart : Word)
  /-- DEPARTURE_OPEN, R95 -/
  | departureOpen (departure : Word)
  /-- DEPARTURE_CLOSE, R96 -/
  | departureClose (departure : Word)
  /-- DEPARTURE_SET_CAPACITY, R97 -/
  | departureSetCapacity (departure capacity margin : Word)
  /-- DEPARTURE_LINK, R98 -/
  | departureLink (departure followOn : Word)
  /-- DEPARTURE_READ, R99 -/
  | departureRead (departure mask : Word)
  /-- DEPARTURE_RETIRE, R100 -/
  | departureRetire (departure : Word)
  /-- BERTH_SET_CURRENT, R101 -/
  | berthSetCurrent (berth departure : Word)
  /-- BERTH_READ, R102 -/
  | berthRead
  /-- LANE_OPEN, R122 -/
  | laneOpen (lane : Word)
  /-- LANE_CLOSE, R123 -/
  | laneClose (lane : Word)
  /-- LANE_SET, R124 -/
  | laneSet (lane berth kind cls timer : Word)
  /-- LANE_READ, R125 -/
  | laneRead (lane : Word)
  /-- ARBITER_MODE, R134 -/
  | arbiterMode (mode : Word)
  /-- SET_BOTTOM, R135 -/
  | setBottom (lane : Word)
  /-- POLL_LANES, R136 -/
  | pollLanes
  /-- WATCH_SET, R148 -/
  | watchSet (progress : Progress)
  /-- WATCH_CLEAR, R149 -/
  | watchClear (progress : Progress)
  /-- WATCH_READ, R149 -/
  | watchRead (progress : Progress)
  /-- ATTENTION_READ, R176 -/
  | attentionRead
  /-- ATTENTION_ACK, R177 -/
  | attentionAck (causes : Word)
  /-- ATTENTION_MASK, R178 -/
  | attentionMask (causes : Word)
  /-- SWEEP_NEXT, R179 -/
  | sweepNext (progress : Progress)
  /-- SLOT_DECAY, R1: the slot and the sixteen words it holds from now on. -/
  | slotDecay (slot : Nat) (words : Vector Word 16)
  /-- RESET_LINE_RELEASE, R187 -/
  | resetLineRelease
deriving DecidableEq, Repr

end Sys2Proof
end

