-- ==== Sys2Proof/Decode.lean ====
section
/-!
DEFINITION. What a word of bits spells. Every row of spec/opcode_table.json has an empty list of bit
fields, so no word of bits spells a command (log 20).
-/

namespace Sys2Proof

/-- The command that the word `w` of `nbits` bits spells by the table's bits: none, since the table
gives no row any bits. -/
def decodeTableWord (_nbits _w : Nat) : Option Instr := none

end Sys2Proof
end

