-- ==== Sys2Proof/Config.lean ====
section
/-!
DEFINITION. What the manual leaves free.

`freeChoice` has no body that a proof could use: a claim about it holds for every function.
-/

namespace Sys2Proof.Config

/-- The choice of order that the spec leaves open where occurrences "that arrive together are taken
in either order" (R173): the n-th choice made. Used for the order in which the twelve lane ports take
one second event or one halt notice, and read only where that order shows (log 8). -/
opaque freeChoice : Nat → Nat

end Sys2Proof.Config
end

