-- ==== Sys2Proof/Machine/Memory.lean ====
section
/-!
DEFINITION. The record memory: the DRAM device as a list of (address, byte) pairs in one canonical
form, and the whole-slot reads and writes of the record memory port (1.1, R1 to R3).

Slot s occupies bytes 32s to 32s + 31 (1.1). Word i of a slot is at bytes 32s + 2i and 32s + 2i + 1,
most significant byte first (log 2).
-/

namespace Sys2Proof.Machine

/-- What an unlisted byte reads as: the byte of the FREE pattern (R2) at its place in its slot, so
that an unlisted slot is FREE. The spec calls the content after a cold reset unknown (R7, log 1). -/
def Memory.unlisted (a : Nat) : Byte := if a % 32 < 30 then 0 else 255

/-- One byte of the device. -/
def Memory.read : List Host.Cell → Nat → Byte
  | [], a => Memory.unlisted a
  | (b, v) :: m, a => if b = a then v else Memory.read m a

/-- Store one byte, keeping the canonical form: addresses strictly rising, no entry equal to what an
unlisted byte reads as. -/
def Memory.write : List Host.Cell → Nat → Byte → List Host.Cell
  | [], a, v => if v = Memory.unlisted a then [] else [(a, v)]
  | (b, x) :: m, a, v =>
    if a < b then
      if v = Memory.unlisted a then (b, x) :: m else (a, v) :: (b, x) :: m
    else if a = b then
      if v = Memory.unlisted a then m else (a, v) :: m
    else (b, x) :: Memory.write m a v

/-- The canonical form of a memory. -/
def Memory.wf : List Host.Cell → Bool
  | [] => true
  | (a, v) :: m => decide (v ≠ Memory.unlisted a) && m.all (fun c => decide (a < c.1)) && Memory.wf m

/-- The word at a byte address, most significant byte first (log 2). -/
def Memory.readWord (m : List Host.Cell) (a : Nat) : Word := Memory.read m a ++ Memory.read m (a + 1)

/-- Store a word, most significant byte first (log 2). -/
def Memory.writeWord (m : List Host.Cell) (a : Nat) (w : Word) : List Host.Cell :=
  Memory.write (Memory.write m a (w.extractLsb' 8 8)) (a + 1) (w.extractLsb' 0 8)

/-- Store words one after the other from a byte address on. -/
def Memory.writeWords (m : List Host.Cell) (a : Nat) : List Word → List Host.Cell
  | [] => m
  | w :: ws => Memory.writeWords (Memory.writeWord m a w) (a + 2) ws

/-- The sixteen words of a slot (R1). -/
def Memory.readSlot (m : List Host.Cell) (s : Nat) : Vector Word 16 :=
  let w := fun i => Memory.readWord m (32 * s + 2 * i)
  #v[w 0, w 1, w 2, w 3, w 4, w 5, w 6, w 7, w 8, w 9, w 10, w 11, w 12, w 13, w 14, w 15]

/-- Put sixteen words into a slot: what the device holds from now on. -/
def Memory.putSlot (m : List Host.Cell) (s : Nat) (v : Vector Word 16) : List Host.Cell :=
  Memory.writeWords m (32 * s) v.toList

/-- The sum of words modulo 65,536. -/
def wordSum (ws : List Word) : Word := ws.foldl (· + ·) 0

/-- The check word of fifteen words: 65,535 minus their sum modulo 65,536 (R3). -/
def checkWord (c : Vector Word 15) : Word := 65535#16 - wordSum c.toList

/-- A slot's sixteen words: fifteen words given and the check word of R3. -/
def withCheck (c : Vector Word 15) : Vector Word 16 := c.push (checkWord c)

/-- The port's slot write: words 0 to 14 as given, word 15 the check word (R1, R3). -/
def Memory.writeSlot (m : List Host.Cell) (s : Nat) (c : Vector Word 15) : List Host.Cell :=
  Memory.putSlot m s (withCheck c)

/-- Words 0 to 14 of the FREE pattern: all zero (R2). Its check word is 65,535. -/
def freeContent : Vector Word 15 := Vector.replicate 15 0

/-- The FREE pattern written to the slots `lo` to `lo + n - 1` (R17): each of their bytes reads as
an unlisted byte afterwards, so their entries are gone. `clearSlots_eq_writes` in Laws/Memory.lean
says it is the same as one slot write after the other. -/
def Memory.clearSlots (m : List Host.Cell) (lo n : Nat) : List Host.Cell :=
  m.filter fun c => !(decide (32 * lo ≤ c.1) && decide (c.1 < 32 * (lo + n)))

end Sys2Proof.Machine
end

