-- ==== Sys2Proof/Machine/State.lean ====
section
/-!
DEFINITION. The state of the PG412 as plain data, and its value after a cold reset.
Each field cites the rule of spec/ that names it; INVENTORY.md lists them all.
-/

namespace Sys2Proof.Machine

/-! ### Fare tables (R49) -/

/-- The unknown-card policy (R49). -/
inductive UnknownPolicy where
  | refuse | provisional
deriving DecidableEq, Repr

/-- One rate band: its start minute and one rate K for each fare class (R49). -/
structure Band where
  start : Nat
  rates : Vector Nat 4
deriving DecidableEq, Repr

/-- The fare tables (R49). `base` holds the entry of route class r and fare class f at 4r + f, the
order of FARE READ part 0 (R56). A cap of 0 is NONE. -/
structure FareTables where
  base             : Vector Nat 32
  bands            : Vector Band 6
  caps             : Vector Nat 4
  allowances       : Vector Nat 4
  transferWindow   : Nat
  lowThreshold     : Nat
  policy           : UnknownPolicy
  provisionalClass : FareClass
deriving DecidableEq, Repr

/-! ### Service clock (R71) -/

/-- The service clock: day 0..65,535, minute 0..1,919, second count 0..59 (R71). -/
structure Clock where
  day    : Nat
  minute : Nat
  second : Nat
deriving DecidableEq, Repr

/-! ### Departures (R81) -/

/-- The four states of a departure (R83). -/
inductive DepState where
  | empty | scheduled | boarding | closed
deriving DecidableEq, Repr

/-- A departure record (R81). -/
structure Departure where
  state     : DepState
  berth     : Berth
  route     : RouteClass
  tag       : Word
  capacity  : Nat
  boarded   : Nat
  held      : Nat
  margin    : Nat
  armed     : Bool
  followOn  : Option DepIx
  autoStart : Bool
  takings   : Nat
deriving DecidableEq, Repr

/-! ### Card records (R25) -/

/-- What a card rides on (R27). -/
inductive Product where
  | purse | pass | staff
deriving DecidableEq, Repr

/-- The journey in progress (R25, R34). -/
structure Journey where
  startDay    : Nat
  startMinute : Nat
  route       : RouteClass
  paid        : Nat
deriving DecidableEq, Repr

/-- A card record (R25). The pass days are zero when the product is not PASS (R26). -/
structure CardRecord where
  card        : CardNumber
  product     : Product
  fareClass   : FareClass
  provisional : Bool
  deny        : Bool
  latch       : Bool
  changed     : Bool
  balance     : Int
  passFirst   : Nat
  passLast    : Nat
  capDay      : Nat
  daySpend    : Nat
  journey     : Option Journey
  boardings   : Nat
deriving DecidableEq, Repr

/-! ### Lane ports (R104) -/

/-- The six states of a lane (6.2). -/
inductive LaneState where
  | down | idle | pending | deciding | awaiting | committing
deriving DecidableEq, Repr

/-- SENSED or UNSENSED (R105). -/
inductive LaneKind where
  | sensed | unsensed
deriving DecidableEq, Repr

/-- ORDINARY or ASSISTED (R105). -/
inductive LaneClass where
  | ordinary | assisted
deriving DecidableEq, Repr

/-- The open verdict of a lane (R107). -/
structure OpenVerdict where
  slot        : Nat
  card        : CardNumber
  departure   : DepIx
  charge      : Nat
  transfer    : Bool
  day         : Nat
  minute      : Nat
  route       : RouteClass
  provisional : Bool
deriving DecidableEq, Repr

/-- The reasons of a VERDICT REFUSE, in the order of their codes (11.4). -/
inductive Reason where
  | watch | fault | unknownCard | tableFull | inPassage | denied | overdrawn | passNotValid
  | noBoarding | full | insufficient | laneClosed | notInService | busy | cancelled
deriving DecidableEq, Repr

/-- The fare fields of a verdict (R67): charge, display balance, CLAMPED and LOW. -/
structure FareFields where
  charge  : Nat
  display : Int
  clamped : Bool
  low     : Bool
deriving DecidableEq, Repr

/-- A VERDICT message (11.4): OPEN when there is no reason, otherwise REFUSE with it. -/
structure Verdict where
  reason    : Option Reason
  fare      : FareFields
  tag       : Word
  remaining : Nat
deriving DecidableEq, Repr

/-- The four answers of a PASSAGE ANSWER (11.4). -/
inductive Answered where
  | taken | late | notExpected | expired
deriving DecidableEq, Repr

/-- The messages a lane port sends to its gate (6.3). -/
inductive Message where
  | verdict (v : Verdict)
  | passageAnswer (a : Answered)
  | laneState (opened : Bool)
deriving DecidableEq, Repr

/-- A frame in reception (R126, R196): the bytes taken after its start byte, and how many second events
have been taken since the start byte. -/
structure Reception where
  bytes   : List Byte
  seconds : Nat
deriving DecidableEq, Repr

/-- A lane port (R104), with the frame it is receiving (R126, R128). `lineOut` is the model's own: the bytes
of the frame last sent whole. -/
structure LanePort where
  berth          : Berth
  kind           : LaneKind
  cls            : LaneClass
  timer          : Nat
  state          : LaneState
  closeRequested : Bool
  cancelNoted    : Bool
  expiredLast    : Bool
  tapped         : Option CardNumber
  openVerdict    : Option OpenVerdict
  secondsLeft    : Nat
  queue          : List Message
  reception      : Option Reception
  lineOut        : List Byte
deriving DecidableEq, Repr

/-! ### Commands and answers of the station link (8.8, R168) -/

/-- The commands of the command index (8.8). -/
inductive Cmd where
  | nop | identify
  | start | resume | halt | continueService | keep | restart
  | cardAdd | cardFind | addValue | setBalance | settle | setProduct | deny | allow | cardRetire
  | enforce | tableSeek | tableRead | tableWrite
  | fareSetBase | fareSetBand | fareSetClass | fareSetPolicy | fareRead
  | clockRead | setTime | newDay | setDay
  | departureDefine | departureOpen | departureClose | departureSetCapacity | departureLink
  | departureRead | departureRetire | berthSetCurrent | berthRead
  | laneOpen | laneClose | laneSet | laneRead
  | arbiterMode | setBottom | pollLanes
  | watchSet | watchClear | watchRead
  | attentionRead | attentionAck | attentionMask
  | sweepNext
deriving DecidableEq, Repr

/-- The reject codes, in the order of their values (11.1). -/
inductive RejectCode where
  | unknownCommand | badOperand | notStarted | wrongState | notFound | duplicate
  | tableFull | inPassage | ceiling | fault | aborted | abortedLate
deriving DecidableEq, Repr

/-- The outcome an owner hands the link (R165, R168): DATA words and the DONE word, or a reject. -/
inductive Answer where
  | done (data : List Word) (word : Word)
  | reject (code : RejectCode)
deriving DecidableEq, Repr

/-- An entry of the result queue (R158). -/
inductive Entry where
  | data (word : Word)
  | done (word : Word)
  | reject (code : RejectCode)
deriving DecidableEq, Repr

/-- The phase of the link with what it holds in that phase (R158). -/
inductive Phase where
  | ready
  | collecting (cmd : Cmd) (expected : Nat) (words : List Word)
  | executing (cmd : Cmd) (words : List Word) (abortLate : Bool)
  | results (queue : List Entry)
deriving DecidableEq, Repr

/-- A transfer in progress (R159, R160): the status byte and word chosen at its beginning, as the 24
bits going out, and whether they carry an entry of the result queue. -/
structure Transfer where
  out     : BitVec 24
  carries : Bool
deriving DecidableEq, Repr

/-- The station link (R158, R159). -/
structure Link where
  phase    : Phase
  transfer : Option Transfer
deriving DecidableEq, Repr

/-! ### Record engine and lane arbiter (R129, R131) -/

/-- The result of a lookup (R11). `insert` is the insert slot, where one was noted; no operation uses that
of a FOUND result. -/
inductive LookupResult where
  | found (slot : Nat) (record : CardRecord) (insert : Option Nat)
  | notFound (insert : Option Nat)
  | fault (slot : Nat)
deriving DecidableEq, Repr

/-- The particulars a hold request returns (R85): departure, tag, route class, remaining after it. -/
structure Hold where
  departure : DepIx
  tag       : Word
  route     : RouteClass
  remaining : Nat
deriving DecidableEq, Repr

/-- The decision stages 2 to 12 (7.5); stage 1 is taken at the grant (R79, R137). -/
inductive DecisionStage where
  | watch | lookup | unknown | inPassage | deny | latch | passDays | hold | fare | write | decisionEnd
deriving DecidableEq, Repr

/-- What a tap decision carries from stage to stage (R137). `stage` is the stage to be run next;
`refusal` is the reason of the stage that refused, once one has. -/
structure Decision where
  lane     : Lane
  card     : CardNumber
  day      : Nat
  minute   : Nat
  stage    : DecisionStage
  lookup   : Option LookupResult
  slot     : Nat
  record   : Option CardRecord
  built    : Bool
  hold     : Option Hold
  fare     : FareFields
  transfer : Bool
  wrote    : Bool
  refusal  : Option Reason
deriving DecidableEq, Repr

/-- The five stages of a commit (R150 to R152). -/
inductive CommitStage where
  | count | read | charge | write | commitEnd
deriving DecidableEq, Repr

/-- A commit in service: its lane (whose port keeps the open verdict until the commit end, R150), the
stage to be run next and the record it has read. -/
structure Commit where
  lane   : Lane
  stage  : CommitStage
  record : Option CardRecord
deriving DecidableEq, Repr

/-- A host request in service (R129, R153): the command with its operand words, and its outcome once
it has been served and not yet handed over. -/
structure HostOp where
  cmd    : Cmd
  words  : List Word
  answer : Option Answer
deriving DecidableEq, Repr

/-- The engine state with what the engine serves in it (R129). In CLEARING, `next` is the slot to be
written next. -/
inductive Engine where
  | idle
  | deciding (d : Decision)
  | committing (c : Commit)
  | host (h : HostOp)
  | clearing (next : Nat)
deriving DecidableEq, Repr

/-- The order mode (R133). -/
inductive OrderMode where
  | fixed | rotating
deriving DecidableEq, Repr

/-- The lane arbiter (7.2). A pending set has one flag for each lane. -/
structure Arbiter where
  tapPending      : Vector Bool 12
  commitPending   : Vector Bool 12
  hostRequest     : Bool
  clearingRequest : Bool
  mode            : OrderMode
  lastOrdinary    : Option Lane
  lastAssisted    : Option Lane
deriving DecidableEq, Repr

/-- The two modes of a watch entry (R146). -/
inductive WatchMode where
  | note | hold
deriving DecidableEq, Repr

/-- A present watch entry (R146). -/
structure WatchEntry where
  card : CardNumber
  mode : WatchMode
deriving DecidableEq, Repr

/-! ### Attention unit (R172) -/

/-- The eleven attention causes, in the order of their numbers (9.1). -/
inductive Cause where
  | departureFull | nearFull | followOnStarted | watchHit | tableFull | memoryFault
  | unchargedPassage | balanceClamped | latePassage | laneFault | clockHeld
deriving DecidableEq, Repr

/-- What the unit holds for one cause (R172). -/
structure CauseRecord where
  pending : Bool
  count   : Nat
  subject : Subject
deriving DecidableEq, Repr

/-- The attention unit: the eleven causes, the mask (bit n for cause n) and the attention line. -/
structure Attention where
  causes : Vector CauseRecord 11
  mask   : BitVec 11
  line   : Bool
deriving DecidableEq, Repr

/-! ### Service control (R183) -/

/-- The service states (R184). -/
inductive Service where
  | unstarted | clearing | serving | halting | halted | resumable
deriving DecidableEq, Repr

/-- The geometry of the table (R6): bucket exponent k and probe window P. -/
structure Geometry where
  k : Nat
  p : Nat
deriving DecidableEq, Repr

/-! ### The whole state -/

/-- The state of the PG412. -/
structure State where
  service     : Service
  keepValid   : Bool
  kept        : Geometry
  geometry    : Geometry
  tableCursor : Nat
  sweepCursor : Nat
  mem         : List Host.Cell
  fares       : FareTables
  enforce     : Bool
  clock       : Clock
  departures  : Vector Departure 16
  berths      : Vector (Option DepIx) 4
  lanes       : Vector LanePort 12
  arbiter     : Arbiter
  engine      : Engine
  watch       : Vector (Option WatchEntry) 4
  link        : Link
  attention   : Attention
  resetLine   : Bool
  freeCount   : Nat
  pending     : List Instr
deriving DecidableEq, Repr

/-- The faults of the model. -/
inductive Fault where
  /-- Raised by SLOT_DECAY for a slot index at or beyond 2^20: the largest table has slots 0 to
  1,048,575 (1.3), and the part addresses no byte beyond it. Safe: the model stops. -/
  | noSuchSlot
deriving DecidableEq, Repr

/-- The refusals of the model. -/
inductive Refusal where
  /-- A command that has no meaning yet. Raised by no arm: every command has its meaning. Safe. -/
  | notModelled (mnemonic : String)
deriving DecidableEq, Repr

/-! ### Reset values -/

/-- The fare tables after a cold reset: every entry 0 (R50). -/
def FareTables.reset : FareTables where
  base := Vector.replicate 32 0
  bands := Vector.replicate 6 ⟨0, Vector.replicate 4 0⟩
  caps := Vector.replicate 4 0
  allowances := Vector.replicate 4 0
  transferWindow := 0
  lowThreshold := 0
  policy := .refuse
  provisionalClass := 0

/-- An EMPTY departure (R81). -/
def Departure.reset : Departure where
  state := .empty
  berth := 0
  route := 0
  tag := 0
  capacity := 0
  boarded := 0
  held := 0
  margin := 0
  armed := false
  followOn := none
  autoStart := false
  takings := 0

/-- A lane port after a cold or warm reset (R104), with the LANE STATE CLOSED that it queues when
the reset is complete (R128). -/
def LanePort.reset : LanePort where
  berth := 0
  kind := .sensed
  cls := .ordinary
  timer := 10
  state := .down
  closeRequested := false
  cancelNoted := false
  expiredLast := false
  tapped := none
  openVerdict := none
  secondsLeft := 0
  queue := [.laneState false]
  reception := none
  lineOut := []

/-- The arbiter after a reset and at START (7.2). -/
def Arbiter.reset : Arbiter where
  tapPending := Vector.replicate 12 false
  commitPending := Vector.replicate 12 false
  hostRequest := false
  clearingRequest := false
  mode := .fixed
  lastOrdinary := none
  lastAssisted := none

/-- The station link after a reset (R158). -/
def Link.reset : Link := ⟨.ready, none⟩

/-- The attention unit after a reset and at START (R172, R174). -/
def Attention.reset : Attention where
  causes := Vector.replicate 11 ⟨false, 0, (0, 0)⟩
  mask := 0
  line := false

/-- The geometry after a cold reset: k = 10, P = 1 (R6). -/
def Geometry.reset : Geometry := ⟨10, 1⟩

/-- The part right after a cold reset (R186). Record memory lists nothing (log 1), the reset line is
released (log 15), and no command waits. -/
def State.reset : State where
  service := .unstarted
  keepValid := false
  kept := Geometry.reset
  geometry := Geometry.reset
  tableCursor := 0
  sweepCursor := 0
  mem := []
  fares := FareTables.reset
  enforce := false
  clock := ⟨0, 0, 0⟩
  departures := Vector.replicate 16 Departure.reset
  berths := Vector.replicate 4 none
  lanes := Vector.replicate 12 LanePort.reset
  arbiter := Arbiter.reset
  engine := .idle
  watch := Vector.replicate 4 none
  link := Link.reset
  attention := Attention.reset
  resetLine := false
  freeCount := 0
  pending := []

end Sys2Proof.Machine
end

