-- ==== Sys2Proof/Machine/Operands.lean ====
section
/-!
DEFINITION. The layouts of 11_formats.md: operand and result words, the card slot, code values, the
lane frames and the station link transfer (R194 to R197), and the command index (8.8).
-/

namespace Sys2Proof.Machine

/-! ### Words -/

/-- A number as a word. -/
def word (n : Nat) : Word := BitVec.ofNat 16 n

/-- An unsigned number in two words, most significant first (11.2). -/
def twoWords (n : Nat) : List Word := [word (n / 65536), word n]

/-- The unsigned number in two words, most significant first (11.2). -/
def ofTwoWords (hi lo : Word) : Nat := hi.toNat * 65536 + lo.toNat

/-- A signed number in two words, two's complement, most significant first (11.2). -/
def twoWordsSigned (i : Int) : List Word :=
  let b := BitVec.ofInt 32 i
  [b.extractLsb' 16 16, b.extractLsb' 0 16]

/-- The signed number in two words (11.2). -/
def ofTwoWordsSigned (hi lo : Word) : Int := (hi ++ lo : BitVec 32).toInt

/-- A card number in three words, bits 47 to 32 first (11.2). -/
def cardWords (c : CardNumber) : List Word :=
  [c.extractLsb' 32 16, c.extractLsb' 16 16, c.extractLsb' 0 16]

/-- The card number of three words (11.2). -/
def ofCardWords (a b c : Word) : CardNumber := (a ++ b ++ c : BitVec 48)

/-- A card number is valid unless it is zero or all ones (00_scope.md). -/
def validCard (c : CardNumber) : Bool := c != 0 && c != BitVec.allOnes 48

/-- Operand word `i` of the words collected; the link hands over as many as the index says, so the
default is never met. -/
def arg (ws : List Word) (i : Nat) : Word := ws.getD i 0

/-- A Boolean as a word. -/
def flagWord (b : Bool) : Word := if b then 1 else 0

/-- An index word below `n`, or nothing. -/
def indexBelow (n : Nat) (w : Word) : Option (Fin n) := if h : w.toNat < n then some ⟨w.toNat, h⟩ else none

/-- The word 65,535 stands for none (5.8, R136). -/
def noneWord : Word := 65535#16

/-- An index as a word, or 65,535 for none (5.8, R136). -/
def indexWord {n : Nat} : Option (Fin n) → Word
  | some i => word i.val
  | none => noneWord

/-! ### Code values (11.2, 11.4) -/

def Product.code : Product → Nat
  | .purse => 0
  | .pass => 1
  | .staff => 2

def Product.ofCode : Nat → Option Product
  | 0 => some .purse
  | 1 => some .pass
  | 2 => some .staff
  | _ => none

def LaneState.code : LaneState → Nat
  | .down => 0
  | .idle => 1
  | .pending => 2
  | .deciding => 3
  | .awaiting => 4
  | .committing => 5

def DepState.code : DepState → Nat
  | .empty => 0
  | .scheduled => 1
  | .boarding => 2
  | .closed => 3

def Engine.code : Engine → Nat
  | .idle => 0
  | .deciding _ => 1
  | .committing _ => 2
  | .host _ => 3
  | .clearing _ => 4

def RejectCode.code : RejectCode → Nat
  | .unknownCommand => 1
  | .badOperand => 2
  | .notStarted => 3
  | .wrongState => 4
  | .notFound => 5
  | .duplicate => 6
  | .tableFull => 7
  | .inPassage => 8
  | .ceiling => 9
  | .fault => 10
  | .aborted => 11
  | .abortedLate => 12

def Reason.code : Reason → Nat
  | .watch => 1
  | .fault => 2
  | .unknownCard => 3
  | .tableFull => 4
  | .inPassage => 5
  | .denied => 6
  | .overdrawn => 7
  | .passNotValid => 8
  | .noBoarding => 9
  | .full => 10
  | .insufficient => 11
  | .laneClosed => 12
  | .notInService => 13
  | .busy => 14
  | .cancelled => 15

def Answered.code : Answered → Nat
  | .taken => 1
  | .late => 2
  | .notExpected => 3
  | .expired => 4

def LaneKind.code : LaneKind → Nat
  | .sensed => 0
  | .unsensed => 1

def LaneClass.code : LaneClass → Nat
  | .ordinary => 0
  | .assisted => 1

def OrderMode.code : OrderMode → Nat
  | .fixed => 0
  | .rotating => 1

def UnknownPolicy.code : UnknownPolicy → Nat
  | .refuse => 0
  | .provisional => 1

/-- A watch mode, 1 NOTE and 2 HOLD (R148). -/
def WatchMode.code : WatchMode → Nat
  | .note => 1
  | .hold => 2

/-- The number of an attention cause (9.1). -/
def Cause.index : Cause → Fin 11
  | .departureFull => 0
  | .nearFull => 1
  | .followOnStarted => 2
  | .watchHit => 3
  | .tableFull => 4
  | .memoryFault => 5
  | .unchargedPassage => 6
  | .balanceClamped => 7
  | .latePassage => 8
  | .laneFault => 9
  | .clockHeld => 10

/-! ### Card records and slots (11.5, R25, R26, R197) -/

/-- Every field within its range (R25), with the absent parts zero (R26). The ranges that a field's
type already gives (card flags, fare class, route class) need no test. -/
def CardRecord.inRange (r : CardRecord) : Bool :=
  validCard r.card
  && decide (-5000 ≤ r.balance) && decide (r.balance ≤ 999999)
  && decide (r.passFirst ≤ 65535) && decide (r.passLast ≤ 65535)
  && (if r.product = .pass then decide (r.passFirst ≤ r.passLast)
      else decide (r.passFirst = 0) && decide (r.passLast = 0))
  && decide (r.capDay ≤ 65535) && decide (r.daySpend ≤ 16777215)
  && (match r.journey with
      | none => true
      | some j => decide (j.startDay ≤ 65535) && decide (j.startMinute ≤ 1919) && decide (j.paid ≤ 16777215))
  && decide (r.boardings ≤ 65535)

/-- A purse below zero has its overdrawn latch set (R29). -/
def CardRecord.latchConsistent (r : CardRecord) : Bool := decide (0 ≤ r.balance) || r.latch

/-- Words 0 to 14 of a LIVE slot (11.5). -/
def encodeRecord (r : CardRecord) : Vector Word 15 :=
  let b : Bool → Nat := fun x => if x then 1 else 0
  let bal := BitVec.ofInt 32 r.balance
  let present := r.journey.isSome
  let j : Journey := r.journey.getD ⟨0, 0, 0, 0⟩
  #v[word (1 + 4 * r.product.code + 16 * r.fareClass.val + 64 * b r.provisional + 128 * b r.deny
        + 256 * b r.latch + 512 * b r.changed + 1024 * b present),
     word r.boardings,
     r.card.extractLsb' 32 16, r.card.extractLsb' 16 16, r.card.extractLsb' 0 16,
     bal.extractLsb' 16 16, bal.extractLsb' 0 16,
     word r.passFirst, word r.passLast, word r.capDay,
     word (256 * (r.daySpend / 65536) + j.paid / 65536),
     word r.daySpend,
     word j.startDay,
     word (j.startMinute + 2048 * j.route.val),
     word j.paid]

/-- The record in words 0 to 14 whose state indication is LIVE, where every field is in range
(R25, R197); nothing where one is not. The latch is not judged here. -/
def decodeRecord (ws : Vector Word 15) : Option CardRecord :=
  let n := fun (i : Fin 15) => (ws[i]).toNat
  let bit := fun (i : Nat) => n 0 / 2 ^ i % 2 = 1
  match Product.ofCode (n 0 / 4 % 4) with
  | none => none
  | some product =>
    let journey : Option Journey :=
      if bit 10 then
        some ⟨n 12, n 13 % 2048, Fin.ofNat 8 (n 13 / 2048), n 10 % 256 * 65536 + n 14⟩
      else none
    let r : CardRecord :=
      { card := ofCardWords ws[2] ws[3] ws[4]
        product := product
        fareClass := Fin.ofNat 4 (n 0 / 16)
        provisional := bit 6
        deny := bit 7
        latch := bit 8
        changed := bit 9
        balance := ofTwoWordsSigned ws[5] ws[6]
        passFirst := n 7
        passLast := n 8
        capDay := n 9
        daySpend := n 10 / 256 * 65536 + n 11
        journey := journey
        boardings := n 1 }
    let spareClear := decide (n 0 < 2048) && decide (n 13 < 16384)
    let absentClear := bit 10 || (decide (n 12 = 0) && decide (n 14 = 0) && decide (n 13 = 0)
      && decide (n 10 % 256 = 0))
    if spareClear && absentClear && r.inRange then some r else none

/-- The state indication of a slot's words: bits 1..0 of word 0 (11.5). -/
def stateIndication (w : Word) : Nat := w.toNat % 4

/-- The three verdicts of the port on a slot read (R4). -/
inductive SlotVerdict where
  | free
  | live (r : CardRecord)
  | fault
deriving DecidableEq, Repr

/-- Words 0 to 14 of a slot. -/
def contentOf (v : Vector Word 16) : Vector Word 15 := v.pop

/-- The verdict on sixteen words (R4): the cases of its table, in its order. -/
def slotVerdict (v : Vector Word 16) : SlotVerdict :=
  if wordSum v.toList ≠ 65535#16 then .fault
  else if stateIndication v[0] = 0 then
    if contentOf v = freeContent then .free else .fault
  else if stateIndication v[0] = 1 then
    match decodeRecord (contentOf v) with
    | none => .fault
    | some r => if r.latchConsistent then .live r else .fault
  else .fault

/-- The verdict on a slot of the memory. -/
def Memory.verdict (m : List Host.Cell) (s : Nat) : SlotVerdict := slotVerdict (Memory.readSlot m s)

/-! ### Words of a card record (11.2, 11.6) -/

/-- The product and class word (11.2). -/
def productWord (p : Product) (f : FareClass) : Word := word (p.code * 256 + f.val)

/-- The product and fare class of a word; nothing where it does not decode (R195). -/
def ofProductWord (w : Word) : Option (Product × FareClass) :=
  match Product.ofCode (w.toNat / 256) with
  | some p => if h : w.toNat % 256 < 4 then some (p, ⟨w.toNat % 256, h⟩) else none
  | none => none

/-- The card flags word (11.2). -/
def cardFlagsWord (r : CardRecord) : Word :=
  let b : Bool → Nat := fun x => if x then 1 else 0
  word (b r.provisional + 2 * b r.deny + 4 * b r.latch + 8 * b r.changed + 16 * b r.journey.isSome)

/-- The words of group `g` of CARD FIND for a record found at `slot` (R40, 11.6). -/
def recordGroup (r : CardRecord) (slot : Nat) (g : Nat) : List Word :=
  match g with
  | 0 => cardWords r.card
  | 1 => [productWord r.product r.fareClass]
  | 2 => [cardFlagsWord r]
  | 3 => twoWordsSigned r.balance
  | 4 => [word r.passFirst, word r.passLast]
  | 5 => [word r.capDay]
  | 6 => twoWords r.daySpend
  | 7 => match r.journey with
    | none => [0, 0, 0, 0, 0]
    | some j => [word j.startDay, word j.startMinute, word j.route.val] ++ twoWords j.paid
  | 8 => [word r.boardings]
  | 9 => twoWords slot
  | _ => []

/-- The groups that a mask selects among `n`, in increasing group number (R40, R99). -/
def maskGroups (n : Nat) (mask : Word) : List Nat := (List.range n).filter fun g => mask.getLsbD g

/-- The words of a record for a mask (R40). -/
def recordWords (r : CardRecord) (slot : Nat) (mask : Word) : List Word :=
  (maskGroups 10 mask).flatMap (recordGroup r slot)

/-- The words of group `g` of DEPARTURE READ (R99). -/
def departureGroup (d : Departure) (g : Nat) : List Word :=
  match g with
  | 0 => [word d.state.code]
  | 1 => [word d.berth.val]
  | 2 => [word d.route.val]
  | 3 => [d.tag]
  | 4 => [word d.capacity]
  | 5 => [word d.boarded]
  | 6 => [word d.held]
  | 7 => [word (d.capacity - d.boarded - d.held)]
  | 8 => [word d.margin, flagWord d.armed]
  | 9 => [indexWord d.followOn]
  | 10 => [flagWord d.autoStart]
  | 11 => twoWords d.takings
  | _ => []

/-- The words of a departure for a mask (R99). -/
def departureWords (d : Departure) (mask : Word) : List Word :=
  (maskGroups 12 mask).flatMap (departureGroup d)

/-- The lane flags word (11.2). -/
def laneFlagsWord (p : LanePort) : Word :=
  let b : Bool → Nat := fun x => if x then 1 else 0
  let v := p.openVerdict
  word (b p.closeRequested + 2 * b p.cancelNoted + 4 * b p.expiredLast + 8 * b v.isSome
    + 16 * b (v.elim false (·.transfer)) + 32 * b (v.elim false (·.provisional)))

/-- The 22 words of LANE READ (R125). -/
def laneWords (p : LanePort) : List Word :=
  [word p.state.code, word p.berth.val, word p.kind.code, word p.cls.code, word p.timer,
    laneFlagsWord p, word p.secondsLeft, word p.queue.length]
  ++ cardWords (p.tapped.getD 0)
  ++ match p.openVerdict with
    | none => [0, 0, 0, 0, 0, 0, 0, 0, 0, 0, 0]
    | some v => twoWords v.slot ++ cardWords v.card ++ [word v.departure.val] ++ twoWords v.charge
      ++ [word v.day, word v.minute, word v.route.val]

/-- A set of lanes as a word, bit n for lane n (11.2). -/
def laneSetWord (set : Vector Bool 12) : Word :=
  word ((List.finRange 12).foldl (fun n l => if set[l] then n + 2 ^ l.val else n) 0)

/-- The pending causes as a cause set, bit n for cause n (11.2). -/
def pendingSetWord (causes : Vector CauseRecord 11) : Word :=
  word ((List.finRange 11).foldl (fun n c => if (causes[c]).pending then n + 2 ^ c.val else n) 0)

/-! ### Lane frames (11.3, 11.4) -/

/-- The start byte of a frame. -/
def frameStart : Byte := 193#8

/-- The kind byte of a message the part sends (11.3). -/
def Message.kind : Message → Byte
  | .verdict _ => 9#8
  | .passageAnswer _ => 10#8
  | .laneState _ => 11#8

/-- The payload of a message the part sends (11.4). -/
def Message.payload : Message → List Byte
  | .verdict v =>
    let charge := BitVec.ofNat 24 v.fare.charge
    let display := BitVec.ofInt 16 v.fare.display
    let remaining := BitVec.ofNat 16 v.remaining
    let b : Bool → Nat := fun x => if x then 1 else 0
    [ (if v.reason.isSome then 1#8 else 0#8),
      BitVec.ofNat 8 (v.reason.elim 0 Reason.code),
      charge.extractLsb' 16 8, charge.extractLsb' 8 8, charge.extractLsb' 0 8,
      display.extractLsb' 8 8, display.extractLsb' 0 8,
      BitVec.ofNat 8 (b v.fare.clamped + 2 * b v.fare.low),
      v.tag.extractLsb' 8 8, v.tag.extractLsb' 0 8,
      remaining.extractLsb' 8 8, remaining.extractLsb' 0 8 ]
  | .passageAnswer a => [BitVec.ofNat 8 a.code]
  | .laneState opened => [if opened then 1#8 else 2#8]

/-- The check byte: kind, length and every payload byte, exclusive-OR (11.3). -/
def frameCheck (kind : Byte) (payload : List Byte) : Byte :=
  payload.foldl (· ^^^ ·) (kind ^^^ BitVec.ofNat 8 payload.length)

/-- A whole frame: start byte, kind, length, payload, check byte (11.3). -/
def frameBytes (kind : Byte) (payload : List Byte) : List Byte :=
  [frameStart, kind, BitVec.ofNat 8 payload.length] ++ payload ++ [frameCheck kind payload]

/-- The frame of a message (11.3). -/
def Message.frame (m : Message) : List Byte := frameBytes m.kind m.payload

/-- The messages a gate sends (6.3). -/
inductive GateMessage where
  | tap (card : CardNumber)
  | passed
  | walkaway
  | cancel
deriving DecidableEq, Repr

/-- The kind byte of a gate's message (11.3). -/
def GateMessage.kind : GateMessage → Byte
  | .tap _ => 1#8
  | .passed => 2#8
  | .walkaway => 3#8
  | .cancel => 4#8

/-- The payload of a gate's message: six bytes of card number for a TAP (11.4). -/
def GateMessage.payload : GateMessage → List Byte
  | .tap c => [c.extractLsb' 40 8, c.extractLsb' 32 8, c.extractLsb' 24 8, c.extractLsb' 16 8,
      c.extractLsb' 8 8, c.extractLsb' 0 8]
  | .passed => []
  | .walkaway => []
  | .cancel => []

/-- The payload length of a kind of the gate's (11.3); nothing for an unknown kind. -/
def gateLength (kind : Byte) : Option Nat :=
  if kind = 1#8 then some 6
  else if kind = 2#8 ∨ kind = 3#8 ∨ kind = 4#8 then some 0
  else none

/-- The message of a kind and its payload. -/
def gateMessage (kind : Byte) (payload : List Byte) : Option GateMessage :=
  match payload with
  | [a, b, c, d, e, f] => if kind = 1#8 then some (.tap (a ++ b ++ c ++ d ++ e ++ f : BitVec 48)) else none
  | [] => if kind = 2#8 then some .passed else if kind = 3#8 then some .walkaway
      else if kind = 4#8 then some .cancel else none
  | _ => none

/-- The bytes of a gate's message after its start byte: kind, length, payload, check byte (11.3). -/
def GateMessage.afterStart (m : GateMessage) : List Byte := (frameBytes m.kind m.payload).tail

/-- What a byte makes of the frame in reception (R126, R196): it goes on, is discarded, or is complete. -/
inductive Judged where
  | incomplete
  | discarded
  | complete (m : GateMessage)
deriving DecidableEq, Repr

/-- The bytes after a start byte, judged at the last of them, all those before it having left the frame
incomplete (R126, R196): the kind against the gate's four, the length against the kind's, the check byte
against the exclusive OR. -/
def judgeFrame : List Byte → Judged
  | [] => .incomplete
  | [kind] => if (gateLength kind).isSome then .incomplete else .discarded
  | [kind, length] => if length = BitVec.ofNat 8 ((gateLength kind).getD 0) then .incomplete else .discarded
  | kind :: _ :: rest =>
    let n := (gateLength kind).getD 0
    if rest.length ≤ n then .incomplete
    else if rest.getLastD 0 ≠ frameCheck kind (rest.take n) then .discarded
    else match gateMessage kind (rest.take n) with
    | some m => .complete m
    | none => .discarded

/-- What a port has made of the bytes it heard: the frame in reception, the frames discarded and the
messages completed. -/
structure Heard where
  reception : Option Reception
  faults    : Nat
  messages  : List GateMessage
deriving DecidableEq, Repr

/-- One byte received (R126). Between frames only a start byte with its stop bit begins a frame, and every
other byte is passed over: that a 193 without its stop bit is passed over too, and is not the first byte of a
frame that it discards, is the model's choice (DESIGN CHOICE, log 23). In a frame a byte without its stop
bit discards the frame, and every other byte belongs to it whatever its value (R196). -/
def hearByte (h : Heard) (b : RxByte) : Heard :=
  match h.reception with
  | none => if b.framed = true ∧ b.value = frameStart then { h with reception := some ⟨[], 0⟩ } else h
  | some r =>
    if b.framed = false then { h with reception := none, faults := h.faults + 1 }
    else match judgeFrame (r.bytes ++ [b.value]) with
    | .incomplete => { h with reception := some ⟨r.bytes ++ [b.value], r.seconds⟩ }
    | .discarded => { h with reception := none, faults := h.faults + 1 }
    | .complete m => { h with reception := none, messages := h.messages ++ [m] }

/-- Bytes received one after the other by a port with a frame in reception or none. -/
def hear (r : Option Reception) (bytes : List RxByte) : Heard := bytes.foldl hearByte ⟨r, 0, []⟩

/-- Bytes that each arrive with their stop bit. -/
def framed (bytes : List Byte) : List RxByte := bytes.map fun b => ⟨b, true⟩

/-- The check byte of a gate's message can be the next to complete a frame at the port: none is in reception,
or what is in reception is a beginning of that message's frame (R196). -/
def LanePort.canComplete (p : LanePort) (m : GateMessage) : Bool :=
  match p.reception with
  | none => true
  | some r => r.bytes.isPrefixOf m.afterStart && decide (r.bytes.length < m.afterStart.length)

/-! ### Station link transfer (11.1) -/

/-- The host's kinds (R161, 11.1). `other` is a kind byte of any other value. -/
inductive Kind where
  | idle | command | operand | abort | other
deriving DecidableEq, Repr

/-- The kind of a kind byte (11.1). -/
def Kind.ofByte (b : Byte) : Kind :=
  if b = 0#8 then .idle
  else if b = 90#8 then .command
  else if b = 165#8 then .operand
  else if b = 60#8 then .abort
  else .other

/-- The part's statuses (11.1). -/
inductive Status where
  | ready | wait | data | done | reject
deriving DecidableEq, Repr

/-- The status byte (11.1). -/
def Status.byte : Status → Byte
  | .ready => 1#8
  | .wait => 2#8
  | .data => 3#8
  | .done => 4#8
  | .reject => 5#8

/-- The 24 bits the part clocks out: the status byte, then the word (R159, 11.1). -/
def transferBits (s : Status) (w : Word) : BitVec 24 := (s.byte ++ w : BitVec 24)

/-- The status and word of a result entry (R160). -/
def Entry.sent : Entry → Status × Word
  | .data w => (.data, w)
  | .done w => (.done, w)
  | .reject c => (.reject, word c.code)

/-- The entries of an answer: DATA words, then one closing entry (R158, R168). -/
def Answer.entries : Answer → List Entry
  | .done data w => data.map .data ++ [.done w]
  | .reject c => [.reject c]

/-- DONE with the word 0 and no DATA. -/
def Answer.ok : Answer := .done [] 0

/-- DATA words, then DONE with their number. -/
def Answer.counted (data : List Word) : Answer := .done data (word data.length)

/-! ### Command index (8.8) -/

/-- The commands of the index, in its order. -/
def Cmd.all : List Cmd :=
  [.nop, .identify, .start, .resume, .halt, .continueService, .keep, .restart,
   .cardAdd, .cardFind, .addValue, .setBalance, .settle, .setProduct, .deny, .allow, .cardRetire,
    .enforce, .tableSeek, .tableRead, .tableWrite,
   .fareSetBase, .fareSetBand, .fareSetClass, .fareSetPolicy, .fareRead,
   .clockRead, .setTime, .newDay, .setDay,
   .departureDefine, .departureOpen, .departureClose, .departureSetCapacity, .departureLink,
    .departureRead, .departureRetire, .berthSetCurrent, .berthRead,
   .laneOpen, .laneClose, .laneSet, .laneRead, .arbiterMode, .setBottom, .pollLanes,
   .watchSet, .watchClear, .watchRead, .attentionRead, .attentionAck, .attentionMask, .sweepNext]

/-- The code of a command (8.8). -/
def Cmd.code : Cmd → Nat
  | .nop => 1
  | .identify => 2
  | .start => 16
  | .resume => 17
  | .halt => 18
  | .continueService => 19
  | .keep => 20
  | .restart => 21
  | .cardAdd => 32
  | .cardFind => 33
  | .addValue => 34
  | .setBalance => 35
  | .settle => 36
  | .setProduct => 37
  | .deny => 38
  | .allow => 39
  | .cardRetire => 40
  | .enforce => 41
  | .tableSeek => 42
  | .tableRead => 43
  | .tableWrite => 44
  | .fareSetBase => 48
  | .fareSetBand => 49
  | .fareSetClass => 50
  | .fareSetPolicy => 51
  | .fareRead => 52
  | .clockRead => 64
  | .setTime => 65
  | .newDay => 66
  | .setDay => 67
  | .departureDefine => 80
  | .departureOpen => 81
  | .departureClose => 82
  | .departureSetCapacity => 83
  | .departureLink => 84
  | .departureRead => 85
  | .departureRetire => 86
  | .berthSetCurrent => 87
  | .berthRead => 88
  | .laneOpen => 96
  | .laneClose => 97
  | .laneSet => 98
  | .laneRead => 99
  | .arbiterMode => 112
  | .setBottom => 113
  | .pollLanes => 114
  | .watchSet => 120
  | .watchClear => 121
  | .watchRead => 122
  | .attentionRead => 128
  | .attentionAck => 129
  | .attentionMask => 130
  | .sweepNext => 136

/-- The number of operand words the link collects for a command (8.8). -/
def Cmd.operands : Cmd → Nat
  | .start => 2
  | .cardAdd => 18
  | .cardFind => 4
  | .addValue => 5
  | .setBalance => 5
  | .settle => 3
  | .setProduct => 6
  | .deny => 3
  | .allow => 3
  | .cardRetire => 3
  | .enforce => 1
  | .tableSeek => 2
  | .tableWrite => 15
  | .fareSetBase => 3
  | .fareSetBand => 6
  | .fareSetClass => 3
  | .fareSetPolicy => 4
  | .fareRead => 1
  | .setTime => 1
  | .newDay => 1
  | .setDay => 2
  | .departureDefine => 8
  | .departureOpen => 1
  | .departureClose => 1
  | .departureSetCapacity => 3
  | .departureLink => 2
  | .departureRead => 2
  | .departureRetire => 1
  | .berthSetCurrent => 2
  | .laneOpen => 1
  | .laneClose => 1
  | .laneSet => 5
  | .laneRead => 1
  | .arbiterMode => 1
  | .setBottom => 1
  | .watchSet => 5
  | .watchClear => 1
  | .attentionAck => 1
  | .attentionMask => 1
  | _ => 0

/-- The command of a code (R163). -/
def Cmd.ofCode (w : Word) : Option Cmd := Cmd.all.find? fun c => c.code == w.toNat

/-- The groups of commands that R165 judges by the service state. -/
inductive CmdGroup where
  | record | fare | service | always | control
deriving DecidableEq, Repr

/-- The group of a command (R165). -/
def Cmd.group : Cmd → CmdGroup
  | .cardAdd | .cardFind | .addValue | .setBalance | .settle | .setProduct | .deny | .allow
  | .cardRetire | .enforce | .tableSeek | .tableRead | .tableWrite | .watchSet | .watchClear
  | .watchRead | .sweepNext => .record
  | .fareSetBase | .fareSetBand | .fareSetClass | .fareSetPolicy | .fareRead => .fare
  | .departureDefine | .departureOpen | .departureClose | .departureSetCapacity | .departureLink
  | .departureRead | .departureRetire | .berthSetCurrent | .berthRead
  | .laneOpen | .laneClose | .laneSet | .laneRead | .arbiterMode | .setBottom => .service
  | .clockRead | .setTime | .newDay | .setDay | .attentionRead | .attentionAck | .attentionMask
  | .pollLanes | .identify | .nop => .always
  | .start | .resume | .halt | .continueService | .keep | .restart => .control

/-- The route of a command: true for ENGINE, false for DIRECT (8.8). -/
def Cmd.isEngine (c : Cmd) : Bool := c.group == .record || c.group == .fare

end Sys2Proof.Machine
end

