-- ==== Sys2Proof/Machine/Flags.lean ====
section
/-!
DEFINITION. The flags that the part computes: the departure events and near-full arming (R91, R92),
the attention line (R174), CLAMPED and LOW of a verdict (R65, R66), liveness of a journey (R34),
a band's use (R49) and the overdrawn latch (R29).
-/

namespace Sys2Proof.Machine

/-- Remaining places: capacity less boarded less held (R81). -/
def Departure.remaining (d : Departure) : Nat := d.capacity - d.boarded - d.held

/-- NEAR FULL is raised for a change from `before` to `after` (R91): remaining falls from above the
old margin to at or below the new one, which is above 0, while armed. -/
def nearFullRaised (before after : Departure) : Bool :=
  decide (before.margin < before.remaining) && decide (after.remaining ≤ after.margin)
  && decide (0 < after.margin) && before.armed

/-- Near-full armed after a change of remaining (R91). -/
def armedAfter (before after : Departure) : Bool :=
  if nearFullRaised before after then false
  else if after.margin < after.remaining then true
  else before.armed

/-- DEPARTURE FULL is raised for a change from `before` to `after` (R92). -/
def departureFullRaised (before after : Departure) : Bool :=
  decide (0 < before.remaining) && decide (after.remaining = 0)

/-- The attention line: asserted exactly when some cause is pending and not masked (R174). -/
def lineAsserted (causes : Vector CauseRecord 11) (mask : BitVec 11) : Bool :=
  (List.finRange 11).any fun c => (causes[c]).pending && !mask.getLsbD c.val

/-- A display figure saturated to -32,768..32,767 (R65). -/
def saturateDisplay (i : Int) : Int := if 32767 < i then 32767 else if i < -32768 then -32768 else i

/-- CLAMPED: either saturation takes place (R65). -/
def displayClamped (i : Int) : Bool := decide (32767 < i) || decide (i < -32768)

/-- LOW: a figure, before saturation, below the low-balance threshold (R66). -/
def displayLow (threshold : Nat) (i : Int) : Bool := decide (i < threshold)

/-- The journey of a record is live for a decision at day `d` and minute `m` (R34). -/
def journeyLive (window : Nat) (j : Journey) (d m : Nat) : Bool :=
  decide (0 < window) && decide (j.startDay = d) && decide (j.startMinute ≤ m)
  && decide (m - j.startMinute ≤ window)

/-- Band `b` is used (R49): band 0 always; another band when its start is neither 0 nor 65,535. -/
def bandUsed (b : BandIx) (band : Band) : Bool :=
  decide (b = 0) || (decide (band.start ≠ 0) && decide (band.start ≠ 65535))

/-- The overdrawn latch after a balance is written: set when the balance is below zero, otherwise as
it was (R29). -/
def latchAfter (balance : Int) (latch : Bool) : Bool := decide (balance < 0) || latch

end Sys2Proof.Machine
end

