-- ==== Sys2Proof/Machine/Ops.lean ====
section
/-!
DEFINITION. The shared operations of the blocks: attention occurrences, the record memory port and
the table logic, the departure unit's holds, the lane ports' sends and endings, the arbiter's
requests and grant. Every meaning is written over these.
-/

namespace Sys2Proof.Machine

/-! ### Reading and writing one lane, departure, berth, watch entry -/

def State.lane (s : State) (l : Lane) : LanePort := s.lanes[l]

def State.setLane (s : State) (l : Lane) (p : LanePort) : State :=
  { s with lanes := s.lanes.set l.val p }

def State.dep (s : State) (d : DepIx) : Departure := s.departures[d]

def State.setDep (s : State) (d : DepIx) (r : Departure) : State :=
  { s with departures := s.departures.set d.val r }

def State.berth (s : State) (b : Berth) : Option DepIx := s.berths[b]

def State.setBerth (s : State) (b : Berth) (d : Option DepIx) : State :=
  { s with berths := s.berths.set b.val d }

/-! ### Attention unit (R172 to R174) -/

/-- The unit with the line judged again (R174). -/
def Attention.judged (a : Attention) : Attention := { a with line := lineAsserted a.causes a.mask }

/-- One occurrence taken by the unit (R173): pending set, count one higher and holding at 255,
subject replaced, the line judged again. -/
def Attention.occur (a : Attention) (c : Cause) (subject : Subject) : Attention :=
  let r := a.causes[c.index]
  Attention.judged
    { a with causes := a.causes.set c.index.val ⟨true, min (r.count + 1) 255, subject⟩ }

/-- An occurrence raised by a block (R173). -/
def State.raise (s : State) (c : Cause) (subject : Subject) : State :=
  { s with attention := s.attention.occur c subject }

/-- A subject given as 0 and a number (R171). -/
def numberSubject (n : Nat) : Subject := (0, word n)

/-- A subject of two words, most significant first: a slot index or a home bucket (R171). -/
def wideSubject (n : Nat) : Subject := (word (n / 65536), word n)

/-! ### Record memory port and table logic (R1 to R16) -/

/-- A slot read by the port (R4), with MEMORY FAULT raised for a slot fault (R5). -/
def State.portRead (s : State) (slot : Nat) : SlotVerdict × State :=
  match Memory.verdict s.mem slot with
  | .fault => (.fault, s.raise .memoryFault (wideSubject slot))
  | v => (v, s)

/-- A slot write by the port (R1, R3). -/
def State.portWrite (s : State) (slot : Nat) (content : Vector Word 15) : State :=
  { s with mem := Memory.writeSlot s.mem slot content }

/-- The number of slots of the table: 4 x 2^k (1.3). -/
def Geometry.slots (g : Geometry) : Nat := 4 * 2 ^ g.k

/-- The fold of a card number (R8). -/
def cardFold (c : CardNumber) : Nat := (c.toNat / 16777216) ^^^ (c.toNat % 16777216)

/-- The home bucket of a card number (R8). -/
def homeBucket (g : Geometry) (c : CardNumber) : Nat := cardFold c % 2 ^ g.k

/-- The buckets of the probe window, in window order (R9). -/
def windowBuckets (g : Geometry) (c : CardNumber) : List Nat :=
  (List.range g.p).map fun i => (homeBucket g c + i) % 2 ^ g.k

/-- The slots of the probe window, in window order (R9). -/
def windowSlots (g : Geometry) (c : CardNumber) : List Nat :=
  (windowBuckets g c).flatMap fun b => [4 * b, 4 * b + 1, 4 * b + 2, 4 * b + 3]

/-- A lookup's pass over slots (R11, R13): the found slot and insert slot noted so far go along. -/
def lookupSlots (m : List Host.Cell) (card : CardNumber) :
    List Nat → Option (Nat × CardRecord) → Option Nat → LookupResult
  | [], some (slot, r), insert => .found slot r insert
  | [], none, insert => .notFound insert
  | s :: rest, found, insert =>
    match Memory.verdict m s with
    | .fault => .fault s
    | .free => lookupSlots m card rest found (insert.orElse fun _ => some s)
    | .live r => lookupSlots m card rest (if r.card = card then some (s, r) else found) insert

/-- A lookup of a card number (R11), with the MEMORY FAULT that its first slot fault raises (R5). -/
def State.lookup (s : State) (card : CardNumber) : LookupResult × State :=
  match lookupSlots s.mem card (windowSlots s.geometry card) none none with
  | .fault slot => (.fault slot, s.raise .memoryFault (wideSubject slot))
  | r => (r, s)

/-- A lane holds an open verdict naming the slot: its state is AWAITING or COMMITTING (R15). -/
def LanePort.holdsSlot (p : LanePort) (slot : Nat) : Bool :=
  (p.state == .awaiting || p.state == .committing) && p.openVerdict.elim false fun v => v.slot == slot

/-- A slot is in passage (R15). -/
def State.inPassage (s : State) (slot : Nat) : Bool :=
  (List.finRange 12).any fun l => (s.lane l).holdsSlot slot

/-- A record written LIVE into a slot (R2). -/
def State.writeRecord (s : State) (slot : Nat) (r : CardRecord) : State :=
  s.portWrite slot (encodeRecord r)

/-- A slot index one on, wrapping past the last slot (R21). -/
def Geometry.nextSlot (g : Geometry) (slot : Nat) : Nat := (slot + 1) % g.slots

/-! ### Departure unit (R85 to R92) -/

/-- A departure changed by a request that changes remaining: the events of R91 and R92 are judged on
the figures before and after it. -/
def State.changeDep (s : State) (d : DepIx) (after : Departure) : State :=
  let before := s.dep d
  let s1 := s.setDep d { after with armed := armedAfter before after }
  let s2 := if nearFullRaised before after then s1.raise .nearFull (numberSubject d.val) else s1
  if departureFullRaised before after then s2.raise .departureFull (numberSubject d.val) else s2

/-- A hold taken on a departure: held one higher (R85). -/
def State.takeHold (s : State) (d : DepIx) : State :=
  s.changeDep d { s.dep d with held := (s.dep d).held + 1 }

/-- The result of a hold request (R85). -/
inductive HoldAnswer where
  | noBoarding
  | full
  | held (h : Hold)
deriving DecidableEq, Repr

/-- A hold on a departure, with the particulars it returns (R85). -/
def State.holdOn (s : State) (d : DepIx) : HoldAnswer × State :=
  let s1 := s.takeHold d
  let r := s1.dep d
  (.held ⟨d, r.tag, r.route, r.remaining⟩, s1)

/-- A SCHEDULED auto-start follow-on starts BOARDING (R86). -/
def State.autoStart (s : State) (f : DepIx) : State :=
  (s.setDep f { s.dep f with state := .boarding }).raise .followOnStarted (numberSubject f.val)

/-- The follow-on step of a hold request (R86). -/
def State.followOnStep (s : State) (followOn : Option DepIx) : HoldAnswer × State :=
  match followOn with
  | none => (.full, s)
  | some f =>
    match (s.dep f).state with
    | .boarding => if 0 < (s.dep f).remaining then s.holdOn f else (.full, s)
    | .scheduled => if (s.dep f).autoStart then (s.autoStart f).holdOn f else (.full, s)
    | .closed => (.full, s)
    | .empty => (.full, s)

/-- A hold request naming a berth (R85). -/
def State.holdRequest (s : State) (b : Berth) : HoldAnswer × State :=
  match s.berth b with
  | none => (.noBoarding, s)
  | some d =>
    match (s.dep d).state with
    | .boarding => if 0 < (s.dep d).remaining then s.holdOn d else s.followOnStep (s.dep d).followOn
    | .scheduled => (.noBoarding, s)
    | .closed => (.noBoarding, s)
    | .empty => (.noBoarding, s)

/-- A release, from the engine or from a lane port: held one lower (R88, R89). No release reaches an
EMPTY departure (5.3), and none reaches one with held 0 (R89, log 19). -/
def State.release (s : State) (d : DepIx) : State :=
  if (s.dep d).state = .empty then s
  else s.changeDep d { s.dep d with held := (s.dep d).held - 1 }

/-- A commit of count (R90): held one lower, boarded one higher, the charge added to takings,
saturating at 4,294,967,295. -/
def State.commitOfCount (s : State) (d : DepIx) (charge : Nat) : State :=
  let r := s.dep d
  if r.state = .empty then s
  else s.setDep d { r with
    held := r.held - 1, boarded := r.boarded + 1, takings := min (r.takings + charge) 4294967295 }

/-! ### Lane ports (R104 to R127) -/

/-- A message queued to a gate; with four messages already in the queue it is discarded and LANE
FAULT raised (R127). -/
def State.send (s : State) (l : Lane) (m : Message) : State :=
  let p := s.lane l
  if p.queue.length < 4 then s.setLane l { p with queue := p.queue ++ [m] }
  else s.raise .laneFault (numberSubject l.val)

/-- The zero fare fields (R67). -/
def FareFields.zero : FareFields := ⟨0, 0, false, false⟩

/-- A VERDICT REFUSE with a reason and its fare fields, sailing tag 0 and remaining 0 (R108). -/
def Message.refuse (r : Reason) (f : FareFields) : Message := .verdict ⟨some r, f, 0, 0⟩

/-- The next second event is the second since the start byte of the frame in reception (R126). -/
def LanePort.timesOut (p : LanePort) : Bool := p.reception.elim false fun r => decide (1 ≤ r.seconds)

/-- The frame in reception at a lane has ended (R126). -/
def State.endFrame (s : State) (l : Lane) : State := s.setLane l { s.lane l with reception := none }

/-- The lane is DECIDING, AWAITING or COMMITTING (R192). -/
def LanePort.inHand (p : LanePort) : Bool :=
  p.state == .deciding || p.state == .awaiting || p.state == .committing

/-- The number of lanes in hand (R192). -/
def State.lanesInHand (s : State) : Nat := (List.finRange 12).countP fun l => (s.lane l).inHand

/-- HALTING becomes HALTED when a lane has left the states in hand and none remains in them (R184,
R192). -/
def State.checkHalted (s : State) : State :=
  if s.service = .halting ∧ s.lanesInHand = 0 then { s with service := .halted } else s

/-- A lane's business has ended: it goes to IDLE, or with close-requested set to DOWN, which clears
close-requested and sends LANE STATE CLOSED (R110, R113, R115, R118); then R192's check. -/
def State.laneRest (s : State) (l : Lane) : State :=
  let p := s.lane l
  let s1 :=
    if p.closeRequested then
      (s.setLane l { p with state := .down, closeRequested := false }).send l (.laneState false)
    else s.setLane l { p with state := .idle }
  s1.checkHalted

/-- An open verdict ended without a passage (R110, R113): timer stopped, release of the departure
named, open verdict dropped, the answer sent, the lane at rest. -/
def State.endUnpassed (s : State) (l : Lane) (answer : Answered) (expired : Bool) : State :=
  let p := s.lane l
  let s1 := match p.openVerdict with
    | some v => s.release v.departure
    | none => s
  let s2 := s1.setLane l { p with
    secondsLeft := 0, openVerdict := none, expiredLast := p.expiredLast || expired }
  (s2.send l (.passageAnswer answer)).laneRest l

/-- Expiry of the passage timer of an AWAITING lane (R113). -/
def State.expire (s : State) (l : Lane) : State := s.endUnpassed l .expired true

/-- How many messages the expiry of a lane's timer queues (R113). -/
def LanePort.expiryMessages (p : LanePort) : Nat := if p.closeRequested then 2 else 1

/-- The order in which the twelve ports take one event of the whole part: from lane 0 upward, or,
where the order can show (two lanes or more raise LANE FAULT at that event, R173), from a lane that
is left free (log 8). -/
def State.portOrder (s : State) (raising : Nat) : List Lane × State :=
  if raising < 2 then (List.finRange 12, s)
  else
    let first := Fin.ofNat 12 (Config.freeChoice s.freeCount)
    ((List.finRange 12).map (fun i => first + i), { s with freeCount := s.freeCount + 1 })

/-! ### Lane arbiter (R131 to R133) -/

def State.setTapPending (s : State) (l : Lane) (b : Bool) : State :=
  { s with arbiter := { s.arbiter with tapPending := s.arbiter.tapPending.set l.val b } }

def State.setCommitPending (s : State) (l : Lane) (b : Bool) : State :=
  { s with arbiter := { s.arbiter with commitPending := s.arbiter.commitPending.set l.val b } }

def State.setHostRequest (s : State) (b : Bool) : State :=
  { s with arbiter := { s.arbiter with hostRequest := b } }

def State.setClearingRequest (s : State) (b : Bool) : State :=
  { s with arbiter := { s.arbiter with clearingRequest := b } }

/-- The last-served lane of a class (7.2). -/
def Arbiter.last (a : Arbiter) : LaneClass → Option Lane
  | .ordinary => a.lastOrdinary
  | .assisted => a.lastAssisted

/-- The arbiter with a lane made the last-served lane of a class (R133, R135). -/
def Arbiter.setLast (a : Arbiter) (c : LaneClass) (l : Lane) : Arbiter :=
  match c with
  | .ordinary => { a with lastOrdinary := some l }
  | .assisted => { a with lastAssisted := some l }

/-- The order in which the lanes of a class are considered (R133). -/
def Arbiter.laneOrder (a : Arbiter) (c : LaneClass) : List Lane :=
  match a.mode, a.last c with
  | .rotating, some l => (List.finRange 12).map fun i => l + 1 + i
  | .rotating, none => List.finRange 12
  | .fixed, _ => List.finRange 12

/-- The tap request of a class that would be granted (R133). -/
def State.nextTap (s : State) (c : LaneClass) : Option Lane :=
  (s.arbiter.laneOrder c).find? fun l => s.arbiter.tapPending[l] && (s.lane l).cls == c

/-- What a grant can be given to (R132). -/
inductive Grant where
  | clearing
  | commit (l : Lane)
  | host
  | tap (l : Lane)
deriving DecidableEq, Repr

/-- The first request in the order of R132 among those that stand. -/
def State.nextGrant (s : State) : Option Grant :=
  if s.arbiter.clearingRequest then some .clearing
  else match (List.finRange 12).find? fun l => s.arbiter.commitPending[l] with
  | some l => some (.commit l)
  | none =>
    if s.arbiter.hostRequest then some .host
    else match s.nextTap .assisted with
    | some l => some (.tap l)
    | none => (s.nextTap .ordinary).map .tap

/-- A grant of a tap request (R106, R133, R137): the lane leaves the set and becomes the last-served
lane of its class, the lane goes to DECIDING, and the engine takes the tapped card and, as decision
stage 1, the service day and minute (R79). -/
def State.grantTap (s : State) (l : Lane) : State :=
  let p := s.lane l
  let s1 := (s.setTapPending l false).setLane l { p with state := .deciding }
  { s1 with
    arbiter := s1.arbiter.setLast p.cls l
    engine := .deciding
      { lane := l, card := p.tapped.getD 0, day := s.clock.day, minute := s.clock.minute
        stage := .watch, lookup := none, slot := 0, record := none, built := false, hold := none
        fare := FareFields.zero, transfer := false, wrote := false, refusal := none } }

/-- A grant made (R132): the request granted is removed, and the engine leaves IDLE for it. -/
def State.applyGrant (s : State) : Grant → State
  | .clearing => { s.setClearingRequest false with engine := .clearing 0 }
  | .commit l => { s.setCommitPending l false with engine := .committing ⟨l, .count, none⟩ }
  | .host =>
    match s.link.phase with
    | .executing cmd words _ => { s.setHostRequest false with engine := .host ⟨cmd, words, none⟩ }
    | _ => s.setHostRequest false
  | .tap l => s.grantTap l

/-- The arbiter makes a grant when the engine is IDLE and a request stands (R132). -/
def State.settle (s : State) : State :=
  match s.engine with
  | .idle =>
    match s.nextGrant with
    | some g => s.applyGrant g
    | none => s
  | _ => s

/-- The engine returns to IDLE, and the arbiter makes its next grant (R129, R132). -/
def State.engineDone (s : State) : State := { s with engine := .idle }.settle

/-! ### Commands of the station link (R153, R158, R165, R166) -/

/-- What `exec` answers. -/
abbrev Result := Host.Outcome State Fault Refusal

/-- The phase RESULTS with an answer as its queue (R165). -/
def State.answerLink (s : State) (a : Answer) : State :=
  { s with link := { s.link with phase := .results a.entries } }

/-- The service-state judgement of a complete command (R165): the code it is refused with, if any.
Service control judges its own commands by R185. -/
def judgeGroup (g : CmdGroup) (v : Service) : Option RejectCode :=
  match g, v with
  | .record, .unstarted => some .notStarted
  | .record, .resumable => some .notStarted
  | .record, .clearing => some .wrongState
  | .record, _ => none
  | .fare, .clearing => some .wrongState
  | .fare, _ => none
  | .service, .unstarted => some .notStarted
  | .service, .resumable => some .notStarted
  | .service, .clearing => some .wrongState
  | .service, _ => none
  | .always, _ => none
  | .control, _ => none

/-- What an owner makes of a command: the state after it, and the outcome it hands back. RESTART
alone hands back none (R187). -/
abbrev Taken := State × Option Answer

/-- The outcome of a command that is refused: nothing changed (R168). -/
def State.refuse (s : State) (c : RejectCode) : Taken := (s, some (.reject c))

/-- The outcome of a command that ends DONE with the word 0. -/
def State.ok (s : State) : Taken := (s, some .ok)

/-- The outcome of a command that returns DATA words and DONE with their number. -/
def State.reply (s : State) (data : List Word) : Taken := (s, some (.counted data))

/-- A complete DIRECT command (R165): judged by the service state, then taken by its owner at the
same event, its outcome becoming the result queue. -/
def State.direct (s : State) (c : Cmd) (own : State → Taken) : State :=
  match judgeGroup c.group s.service with
  | some code => s.answerLink (.reject code)
  | none =>
    match own s with
    | (s1, some a) => s1.answerLink a
    | (s1, none) => s1

/-- The row of a DIRECT command: the transfers that carry its COMMAND word and its operand words, taken at the
arrival of the last (log 5). In READY and RESULTS the command begins (R162, R167) and is complete at its last word
(R165). In COLLECTING its COMMAND word ends the command being collected with REJECT UNKNOWN COMMAND, and is not
started (R164). In EXECUTING its words are discarded (R166). -/
def State.hostDirect (s : State) (c : Cmd) (own : State → Taken) : State :=
  let s1 := { s with link := { s.link with transfer := none } }
  match s.link.phase with
  | .ready => s1.direct c own
  | .results _ => s1.direct c own
  | .collecting _ _ _ => s1.answerLink (.reject .unknownCommand)
  | .executing _ _ _ => s1

/-- The hand-over of the outcome of a host request (R153, R166): it becomes the result queue, or with
the abort-late mark set REJECT ABORTED LATE does; the engine returns to IDLE. -/
def State.handOver (s : State) (a : Answer) : State :=
  let s1 := match s.link.phase with
    | .executing _ _ abortLate => s.answerLink (if abortLate then .reject .abortedLate else a)
    | _ => s
  s1.engineDone

/-- The stages of a host request in service: the command's own rule, up to and including its slot
write, and the hand-over (R153, R156). -/
def State.hostStages (s : State) (h : HostOp) (serve : List Word → State → State × Answer) :
    Nat → State
  | 0 => s
  | n + 1 =>
    match h.answer with
    | some a => s.handOver a
    | none =>
      let served := serve h.words s
      match n with
      | 0 => { served.1 with engine := .host { h with answer := some served.2 } }
      | _ + 1 => served.1.handOver served.2

/-- How many stages a `Progress` allows, out of `all`. -/
def stageCount (all : Nat) : Progress → Nat
  | .whole => all
  | .stages n => n

/-- The row of an ENGINE command: the engine moves on with the host request it serves, when that is
this command (R153). Otherwise there is nothing of it to serve (log 4). -/
def State.runHost (s : State) (c : Cmd) (serve : List Word → State → State × Answer) (p : Progress) :
    State :=
  match s.engine with
  | .host h => if h.cmd = c then s.hostStages h serve (stageCount 2 p) else s
  | _ => s

end Sys2Proof.Machine
end

