-- ==== Sys2Proof/Machine/ArbiterCommands.lean ====
section
/-!
DEFINITION. The arbiter commands (7.4, R134 to R136).
-/

namespace Sys2Proof.Machine

/-- The order mode of an operand (7.4). -/
def OrderMode.ofWord (w : Word) : Option OrderMode :=
  if w = 0 then some .fixed else if w = 1 then some .rotating else none

/-- ARBITER MODE as the arbiter takes it (R134). -/
def ownArbiterMode (mode : Word) (s : State) : Taken :=
  match OrderMode.ofWord mode with
  | none => s.refuse .badOperand
  | some m => { s with arbiter := { s.arbiter with mode := m } }.ok

/-- SET BOTTOM as the arbiter takes it (R135). -/
def ownSetBottom (lane : Word) (s : State) : Taken :=
  match indexBelow 12 lane with
  | none => s.refuse .badOperand
  | some l => { s with arbiter := s.arbiter.setLast (s.lane l).cls l }.ok

/-- The next-grant word (11.2): a lane, 12 for the host request, 13 for clearing, 65,535 for none. -/
def nextGrantWord : Option Grant → Word
  | none => noneWord
  | some .clearing => 13
  | some .host => 12
  | some (.commit l) => word l.val
  | some (.tap l) => word l.val

/-- The lane the engine serves in DECIDING or COMMITTING (R136 word 6). -/
def Engine.lane : Engine → Option Lane
  | .deciding d => some d.lane
  | .committing c => some c.lane
  | .idle => none
  | .host _ => none
  | .clearing _ => none

/-- POLL LANES as the arbiter takes it (R136). -/
def ownPollLanes (s : State) : Taken :=
  s.reply [laneSetWord s.arbiter.tapPending, laneSetWord s.arbiter.commitPending,
    flagWord s.arbiter.hostRequest, nextGrantWord s.nextGrant, word s.engine.code,
    indexWord s.engine.lane, word s.arbiter.mode.code, indexWord s.arbiter.lastOrdinary,
    indexWord s.arbiter.lastAssisted]

/-- ARBITER_MODE (R134). -/
def execArbiterMode (mode : Word) (s : State) : Result :=
  .next (s.hostDirect .arbiterMode (ownArbiterMode mode))

/-- SET_BOTTOM (R134, R135). -/
def execSetBottom (lane : Word) (s : State) : Result := .next (s.hostDirect .setBottom (ownSetBottom lane))

/-- POLL_LANES (R134, R136). -/
def execPollLanes (s : State) : Result := .next (s.hostDirect .pollLanes ownPollLanes)

end Sys2Proof.Machine
end

