-- ==== Sys2Proof/Machine/AttentionCommands.lean ====
section
/-!
DEFINITION. The attention commands (9.3, R175 to R178).
-/

namespace Sys2Proof.Machine

/-- The three words of one cause in ATTENTION READ (R176). -/
def causeWords (r : CauseRecord) : List Word := [word r.count, r.subject.1, r.subject.2]

/-- ATTENTION READ as the unit takes it (R176). -/
def ownAttentionRead (s : State) : Taken :=
  let a := s.attention
  s.reply (pendingSetWord a.causes :: a.mask.setWidth 16 ::
    (List.finRange 11).flatMap fun n => causeWords a.causes[n])

/-- A cause cleared (R177). -/
def CauseRecord.cleared : CauseRecord := ⟨false, 0, (0, 0)⟩

/-- The causes named in a set cleared, the line judged again (R177). -/
def Attention.acknowledge (a : Attention) (set : BitVec 11) : Attention :=
  Attention.judged
    { a with causes := a.causes.mapIdx fun i r => if set.getLsbD i then CauseRecord.cleared else r }

/-- ATTENTION ACK as the unit takes it (R175, R177). -/
def ownAttentionAck (causes : Word) (s : State) : Taken :=
  if causes.toNat ≤ 2047 then { s with attention := s.attention.acknowledge (causes.setWidth 11) }.ok
  else s.refuse .badOperand

/-- ATTENTION MASK as the unit takes it (R175, R178). -/
def ownAttentionMask (causes : Word) (s : State) : Taken :=
  if causes.toNat ≤ 2047 then
    { s with attention := Attention.judged { s.attention with mask := causes.setWidth 11 } }.ok
  else s.refuse .badOperand

/-- ATTENTION_READ (R175, R176). -/
def execAttentionRead (s : State) : Result := .next (s.hostDirect .attentionRead ownAttentionRead)

/-- ATTENTION_ACK (R175, R177). -/
def execAttentionAck (causes : Word) (s : State) : Result :=
  .next (s.hostDirect .attentionAck (ownAttentionAck causes))

/-- ATTENTION_MASK (R175, R178). -/
def execAttentionMask (causes : Word) (s : State) : Result :=
  .next (s.hostDirect .attentionMask (ownAttentionMask causes))

end Sys2Proof.Machine
end

