-- ==== Sys2Proof/Machine/Clocking.lean ====
section
/-!
DEFINITION. The service clock: second and minute events, the lane passage timers they drive, and the
clock commands (04_service_clock.md, R112, R113).
-/

namespace Sys2Proof.Machine

/-! ### Events -/

/-- A minute event (R73). -/
def State.minuteEvent (s : State) : State :=
  if s.clock.minute < 1918 then { s with clock := { s.clock with minute := s.clock.minute + 1 } }
  else if s.clock.minute = 1918 then
    { s with clock := { s.clock with minute := 1919 } }.raise .clockHeld (numberSubject s.clock.day)
  else s

/-- A second event as the passage timer of a lane takes it (R112): in AWAITING, seconds left one lower, and
expiry when it reaches 0. -/
def State.tickTimer (s : State) (l : Lane) : State :=
  let p := s.lane l
  match p.state with
  | .awaiting =>
    let s1 := s.setLane l { p with secondsLeft := p.secondsLeft - 1 }
    if p.secondsLeft ≤ 1 then s1.expire l else s1
  | _ => s

/-- A second event as the frame in reception at a lane takes it (R126): the first since its start byte is
counted, the second discards it with LANE FAULT. -/
def State.tickFrame (s : State) (l : Lane) : State :=
  let p := s.lane l
  if p.timesOut then (s.endFrame l).raise .laneFault (numberSubject l.val)
  else s.setLane l { p with reception := p.reception.map fun r => ⟨r.bytes, r.seconds + 1⟩ }

/-- A second event taken by one lane port (R112, R126). -/
def State.tickLane (s : State) (l : Lane) : State := (s.tickTimer l).tickFrame l

/-- The port raises LANE FAULT when it takes the next second event: its timer expires and its queue
has no room for what the expiry sends (R113, R127), or the frame in reception is discarded (R126). -/
def LanePort.faultsAtTick (p : LanePort) : Bool :=
  (p.state == .awaiting && decide (p.secondsLeft ≤ 1) && decide (4 < p.queue.length + p.expiryMessages))
  || p.timesOut

/-- The second count raised; at 60 it becomes 0 and a minute event is taken (R72). -/
def State.countSecond (s : State) : State :=
  if s.clock.second + 1 < 60 then { s with clock := { s.clock with second := s.clock.second + 1 } }
  else { s with clock := { s.clock with second := 0 } }.minuteEvent

/-- A second event (R72): passed to all twelve lane ports, then counted. -/
def State.secondEvent (s : State) : State :=
  let o := s.portOrder ((List.finRange 12).countP fun l => (s.lane l).faultsAtTick)
  (o.1.foldl State.tickLane o.2).countSecond

/-- SECOND_EVENT (R72). The expiries, the frame timeouts and the minute event it brings belong to the same
event (R73, R112, R126, log 7). -/
def execSecondEvent (s : State) : Result := .next s.secondEvent

/-- MINUTE_EVENT (R73), taken on its own (log 7). -/
def execMinuteEvent (s : State) : Result := .next s.minuteEvent

/-- PASSAGE_TIMER_EXPIRY (R113), taken on its own (log 7): the timer of an AWAITING lane reaches 0.
In other states the timer does not run (R112). -/
def execPassageTimerExpiry (l : Lane) (s : State) : Result :=
  match (s.lane l).state with
  | .awaiting => .next (s.expire l)
  | _ => .next s

/-! ### Commands (4.3) -/

/-- A setting of the clock (R74): the second count becomes 0, and CLOCK HELD is raised with the new
day when the minute moves from below 1,919 to 1,919. -/
def State.setClock (s : State) (day minute : Nat) : State :=
  let s1 := { s with clock := ⟨day, minute, 0⟩ }
  if s.clock.minute < 1919 ∧ minute = 1919 then s1.raise .clockHeld (numberSubject day) else s1

/-- CLOCK READ as the clock takes it (R75). -/
def ownClockRead (s : State) : Taken :=
  s.reply [word s.clock.day, word s.clock.minute, word s.clock.second]

/-- SET TIME as the clock takes it (R76). -/
def ownSetTime (minute : Word) (s : State) : Taken :=
  if minute.toNat ≤ 1919 then (s.setClock s.clock.day minute.toNat).ok else s.refuse .badOperand

/-- NEW DAY as the clock takes it (R77). -/
def ownNewDay (minute : Word) (s : State) : Taken :=
  if minute.toNat ≤ 1919 ∧ s.clock.day < 65535 then (s.setClock (s.clock.day + 1) minute.toNat).ok
  else s.refuse .badOperand

/-- SET DAY as the clock takes it (R78). Every word is a day. -/
def ownSetDay (day minute : Word) (s : State) : Taken :=
  if minute.toNat ≤ 1919 then (s.setClock day.toNat minute.toNat).ok else s.refuse .badOperand

/-- CLOCK_READ (R74, R75). -/
def execClockRead (s : State) : Result := .next (s.hostDirect .clockRead ownClockRead)

/-- SET_TIME (R74, R76). -/
def execSetTime (minute : Word) (s : State) : Result := .next (s.hostDirect .setTime (ownSetTime minute))

/-- NEW_DAY (R74, R77). -/
def execNewDay (minute : Word) (s : State) : Result := .next (s.hostDirect .newDay (ownNewDay minute))

/-- SET_DAY (R74, R78). -/
def execSetDay (day minute : Word) (s : State) : Result :=
  .next (s.hostDirect .setDay (ownSetDay day minute))

end Sys2Proof.Machine
end

