-- ==== Sys2Proof/Machine/Departures.lean ====
section
/-!
DEFINITION. The host's departure and berth commands (5.8, R93 to R102). A departure, berth or other
operand outside its stated range is refused before any state is examined (R93).
-/

namespace Sys2Proof.Machine

/-- A follow-on word or a departure word of BERTH SET CURRENT (5.8): an index 0..15, 65,535 for none;
nothing for any other word. -/
def optionalDeparture (w : Word) : Option (Option DepIx) :=
  if w = noneWord then some none else (indexBelow 16 w).map some

/-- A departure is SCHEDULED or BOARDING. -/
def Departure.isOpen (d : Departure) : Bool := d.state == .scheduled || d.state == .boarding

/-- A follow-on that a departure of berth `b` may name: absent, or SCHEDULED or BOARDING at the same
berth (R94, R98). -/
def State.followOnOk (s : State) (b : Berth) : Option DepIx → Bool
  | none => true
  | some f => (s.dep f).isOpen && (s.dep f).berth == b

/-- DEPARTURE DEFINE as the unit takes it (R94). -/
def ownDepartureDefine (departure berth route tag capacity margin followOn autoStart : Word)
    (s : State) : Taken :=
  match indexBelow 16 departure, indexBelow 4 berth, indexBelow 8 route, optionalDeparture followOn with
  | some d, some b, some r, some f =>
    if 1 ≤ capacity.toNat ∧ capacity.toNat ≤ 400 ∧ margin.toNat ≤ capacity.toNat ∧ autoStart.toNat ≤ 1 then
      if (s.dep d).state ≠ .empty then s.refuse .wrongState
      else if s.followOnOk b f then
        (s.setDep d
          { state := .scheduled, berth := b, route := r, tag := tag, capacity := capacity.toNat
            boarded := 0, held := 0, margin := margin.toNat, armed := true, followOn := f
            autoStart := autoStart == 1, takings := 0 }).ok
      else s.refuse .badOperand
    else s.refuse .badOperand
  | _, _, _, _ => s.refuse .badOperand

/-- DEPARTURE OPEN as the unit takes it (R95). -/
def ownDepartureOpen (departure : Word) (s : State) : Taken :=
  match indexBelow 16 departure with
  | none => s.refuse .badOperand
  | some d =>
    if (s.dep d).state = .scheduled then (s.setDep d { s.dep d with state := .boarding }).ok
    else s.refuse .wrongState

/-- Where a berth's current moves when its current departure closes (R96): to the follow-on if that
is SCHEDULED or BOARDING. -/
def State.nextCurrent (s : State) : Option DepIx → Option DepIx
  | none => none
  | some f => if (s.dep f).isOpen then some f else none

/-- DEPARTURE CLOSE as the unit takes it (R96). -/
def ownDepartureClose (departure : Word) (s : State) : Taken :=
  match indexBelow 16 departure with
  | none => s.refuse .badOperand
  | some d =>
    let r := s.dep d
    if r.isOpen then
      let s1 := s.setDep d { r with state := .closed }
      if s.berth r.berth = some d then (s1.setBerth r.berth (s1.nextCurrent r.followOn)).ok else s1.ok
    else s.refuse .wrongState

/-- DEPARTURE SET CAPACITY as the unit takes it (R97; the order of its checks, log 13). -/
def ownDepartureSetCapacity (departure capacity margin : Word) (s : State) : Taken :=
  match indexBelow 16 departure with
  | none => s.refuse .badOperand
  | some d =>
    let r := s.dep d
    if 1 ≤ capacity.toNat ∧ capacity.toNat ≤ 400 ∧ margin.toNat ≤ capacity.toNat then
      if r.isOpen then
        if r.boarded + r.held ≤ capacity.toNat then
          (s.changeDep d { r with capacity := capacity.toNat, margin := margin.toNat }).ok
        else s.refuse .badOperand
      else s.refuse .wrongState
    else s.refuse .badOperand

/-- DEPARTURE LINK as the unit takes it (R98; the order of its checks, log 13). -/
def ownDepartureLink (departure followOn : Word) (s : State) : Taken :=
  match indexBelow 16 departure, optionalDeparture followOn with
  | some d, some f =>
    let r := s.dep d
    if r.isOpen then
      if f ≠ some d ∧ s.followOnOk r.berth f = true then (s.setDep d { r with followOn := f }).ok
      else s.refuse .badOperand
    else s.refuse .wrongState
  | _, _ => s.refuse .badOperand

/-- DEPARTURE READ as the unit takes it (R99). -/
def ownDepartureRead (departure mask : Word) (s : State) : Taken :=
  match indexBelow 16 departure with
  | none => s.refuse .badOperand
  | some d => if mask.toNat < 4096 then s.reply (departureWords (s.dep d) mask) else s.refuse .badOperand

/-- A departure whose follow-on named a retired one has it made absent (R100). -/
def Departure.unlink (gone : DepIx) (d : Departure) : Departure :=
  if d.followOn = some gone then { d with followOn := none } else d

/-- DEPARTURE RETIRE as the unit takes it (R100). -/
def ownDepartureRetire (departure : Word) (s : State) : Taken :=
  match indexBelow 16 departure with
  | none => s.refuse .badOperand
  | some d =>
    if (s.dep d).state = .closed ∧ (s.dep d).held = 0 then
      ({ s with departures := s.departures.map (Departure.unlink d) }.setDep d Departure.reset).ok
    else s.refuse .wrongState

/-- BERTH SET CURRENT as the unit takes it (R101). -/
def ownBerthSetCurrent (berth departure : Word) (s : State) : Taken :=
  match indexBelow 4 berth, optionalDeparture departure with
  | some b, some none => (s.setBerth b none).ok
  | some b, some (some d) =>
    if (s.dep d).berth ≠ b then s.refuse .badOperand
    else if (s.dep d).isOpen then (s.setBerth b (some d)).ok
    else s.refuse .wrongState
  | _, _ => s.refuse .badOperand

/-- BERTH READ as the unit takes it (R102). -/
def ownBerthRead (s : State) : Taken :=
  s.reply [indexWord (s.berth 0), indexWord (s.berth 1), indexWord (s.berth 2), indexWord (s.berth 3)]

/-- DEPARTURE_DEFINE (R93, R94). -/
def execDepartureDefine (departure berth route tag capacity margin followOn autoStart : Word)
    (s : State) : Result :=
  .next (s.hostDirect .departureDefine
    (ownDepartureDefine departure berth route tag capacity margin followOn autoStart))

/-- DEPARTURE_OPEN (R93, R95). -/
def execDepartureOpen (departure : Word) (s : State) : Result :=
  .next (s.hostDirect .departureOpen (ownDepartureOpen departure))

/-- DEPARTURE_CLOSE (R93, R96). -/
def execDepartureClose (departure : Word) (s : State) : Result :=
  .next (s.hostDirect .departureClose (ownDepartureClose departure))

/-- DEPARTURE_SET_CAPACITY (R93, R97). -/
def execDepartureSetCapacity (departure capacity margin : Word) (s : State) : Result :=
  .next (s.hostDirect .departureSetCapacity (ownDepartureSetCapacity departure capacity margin))

/-- DEPARTURE_LINK (R93, R98). -/
def execDepartureLink (departure followOn : Word) (s : State) : Result :=
  .next (s.hostDirect .departureLink (ownDepartureLink departure followOn))

/-- DEPARTURE_READ (R93, R99). -/
def execDepartureRead (departure mask : Word) (s : State) : Result :=
  .next (s.hostDirect .departureRead (ownDepartureRead departure mask))

/-- DEPARTURE_RETIRE (R93, R100). -/
def execDepartureRetire (departure : Word) (s : State) : Result :=
  .next (s.hostDirect .departureRetire (ownDepartureRetire departure))

/-- BERTH_SET_CURRENT (R93, R101). -/
def execBerthSetCurrent (berth departure : Word) (s : State) : Result :=
  .next (s.hostDirect .berthSetCurrent (ownBerthSetCurrent berth departure))

/-- BERTH_READ (R93, R102). -/
def execBerthRead (s : State) : Result := .next (s.hostDirect .berthRead ownBerthRead)

end Sys2Proof.Machine
end

