-- ==== Sys2Proof/Machine/Fares.lean ====
section
/-!
DEFINITION. The fare stages of a tap decision and the fare-table commands (03_fare_computation.md).
-/

namespace Sys2Proof.Machine

/-! ### The fare stages (R57 to R67) -/

/-- Fare stage 1 (R58): among the used bands, the one whose start is the greatest start not above the
minute. Band 0 is always used. -/
def bandInForce (bands : Vector Band 6) (minute : Nat) : Band :=
  (List.finRange 6).foldl
    (fun best b =>
      let band := bands[b]
      if bandUsed b band && decide (band.start ≤ minute) && decide (best.start < band.start) then band
      else best)
    bands[0]

/-- Base fare of a route class and a fare class (R49). -/
def FareTables.baseFare (t : FareTables) (r : RouteClass) (f : FareClass) : Nat :=
  t.base[4 * r.val + f.val]'(by omega)

/-- Fare stage 2 (R59): B x K plus 16,384, divided by 32,768 with the remainder discarded. -/
def rawFare (b k : Nat) : Nat := (b * k + 16384) / 32768

/-- Fare stage 3 (R60): the charge after transfer credit, and the transfer-applied mark. -/
def transferCredit (window raw : Nat) (journey : Option Journey) (route : RouteClass) (day minute : Nat) :
    Nat × Bool :=
  match journey with
  | none => (raw, false)
  | some j =>
    if journeyLive window j day minute && j.route != route then (raw - j.paid, true) else (raw, false)

/-- The effective day spend of a record for a day (R33). -/
def CardRecord.effectiveSpend (r : CardRecord) (day : Nat) : Nat := if r.capDay = day then r.daySpend else 0

/-- Fare stage 4 (R61): the smaller of the figure and the room under the cap; a cap of 0 is NONE. -/
def capCharge (cap spend figure : Nat) : Nat := if cap = 0 then figure else min figure (cap - spend)

/-- Fare stages 1 to 5 (R57, R63): the charge and the transfer-applied mark. -/
def fareCharge (t : FareTables) (r : CardRecord) (route : RouteClass) (day minute : Nat) : Nat × Bool :=
  match r.product with
  | .purse =>
    let raw := rawFare (t.baseFare route r.fareClass) (bandInForce t.bands minute).rates[r.fareClass]
    let credit := transferCredit t.transferWindow raw r.journey route day minute
    (capCharge t.caps[r.fareClass] (r.effectiveSpend day) credit.1, credit.2)
  | .pass => (0, false)
  | .staff => (0, false)

/-- Fare stage 6 (R64): balance less charge is at least minus the allowance. PASS and STAFF are not
tested (R63). -/
def fareSufficient (t : FareTables) (r : CardRecord) (charge : Nat) : Bool :=
  match r.product with
  | .purse => decide (-(t.allowances[r.fareClass] : Int) ≤ r.balance - charge)
  | .pass => true
  | .staff => true

/-- The fare fields that show a figure (R65, R66). -/
def fareFields (t : FareTables) (charge : Nat) (figure : Int) : FareFields :=
  ⟨charge, saturateDisplay figure, displayClamped figure, displayLow t.lowThreshold figure⟩

/-- Fare stage 7 and R67: the fare fields of an OPEN verdict. -/
def openFareFields (t : FareTables) (r : CardRecord) (charge : Nat) : FareFields :=
  match r.product with
  | .purse => fareFields t charge (r.balance - charge)
  | .pass => FareFields.zero
  | .staff => FareFields.zero

/-- R67: the fare fields of a REFUSE INSUFFICIENT, judged on the balance itself. -/
def insufficientFields (t : FareTables) (r : CardRecord) (charge : Nat) : FareFields :=
  fareFields t charge r.balance

/-! ### The fare-table commands (3.2) -/

/-- The outcome of a host request that ends DONE with the word 0. -/
def State.served (s : State) : State × Answer := (s, .ok)

/-- The outcome of a host request that is refused. -/
def State.refused (s : State) (c : RejectCode) : State × Answer := (s, .reject c)

/-- FARE SET BASE as the engine serves it (R52): route class, fare class, B. -/
def serveFareSetBase (ws : List Word) (s : State) : State × Answer :=
  let b := (arg ws 2).toNat
  match indexBelow 8 (arg ws 0), indexBelow 4 (arg ws 1) with
  | some r, some f =>
    if b ≤ 60000 then
      { s with fares := { s.fares with base := s.fares.base.set (4 * r.val + f.val) b (by omega) } }.served
    else s.refused .badOperand
  | _, _ => s.refused .badOperand

/-- The starts of the used bands, in order of band number (R49). -/
def usedStarts (bands : Vector Band 6) : List Nat :=
  (List.finRange 6).filterMap fun b => if bandUsed b bands[b] then some (bands[b]).start else none

/-- The used bands have strictly increasing starts (R53 check 3). -/
def bandsIncreasing (bands : Vector Band 6) : Bool := decide ((usedStarts bands).Pairwise (· < ·))

/-- The start that a write may give a band (R53 check 2). -/
def bandStartOk (b : BandIx) (start : Nat) : Bool :=
  if b = 0 then decide (start = 0)
  else (decide (1 ≤ start) && decide (start ≤ 1919)) || decide (start = 65535)

/-- FARE SET BAND as the engine serves it (R53): band, start, K for fare classes 0 to 3. -/
def serveFareSetBand (ws : List Word) (s : State) : State × Answer :=
  match indexBelow 6 (arg ws 0) with
  | none => s.refused .badOperand
  | some b =>
    let k := fun i => (arg ws i).toNat
    let bands := s.fares.bands.set b.val ⟨k 1, #v[k 2, k 3, k 4, k 5]⟩
    if bandStartOk b (k 1) && bandsIncreasing bands then
      { s with fares := { s.fares with bands := bands } }.served
    else s.refused .badOperand

/-- FARE SET CLASS as the engine serves it (R54): fare class, cap, allowance. -/
def serveFareSetClass (ws : List Word) (s : State) : State × Answer :=
  let cap := (arg ws 1).toNat
  let allowance := (arg ws 2).toNat
  match indexBelow 4 (arg ws 0) with
  | none => s.refused .badOperand
  | some f =>
    if cap ≤ 65000 ∧ allowance ≤ 5000 then
      { s with fares := { s.fares with
          caps := s.fares.caps.set f.val cap
          allowances := s.fares.allowances.set f.val allowance } }.served
    else s.refused .badOperand

/-- The unknown-card policy of an operand (R55). -/
def UnknownPolicy.ofWord (w : Word) : Option UnknownPolicy :=
  if w = 0 then some .refuse else if w = 1 then some .provisional else none

/-- FARE SET POLICY as the engine serves it (R55): transfer window, low-balance threshold,
unknown-card policy, provisional fare class. -/
def serveFareSetPolicy (ws : List Word) (s : State) : State × Answer :=
  let window := (arg ws 0).toNat
  let threshold := (arg ws 1).toNat
  match UnknownPolicy.ofWord (arg ws 2), indexBelow 4 (arg ws 3) with
  | some policy, some f =>
    if window ≤ 240 ∧ threshold ≤ 65000 then
      { s with fares := { s.fares with
          transferWindow := window
          lowThreshold := threshold
          policy := policy
          provisionalClass := f } }.served
    else s.refused .badOperand
  | _, _ => s.refused .badOperand

/-- The words of a part of the fare tables (R56); nothing for any other part. -/
def fareWords (t : FareTables) (part : Nat) : Option (List Word) :=
  match part with
  | 0 => some (t.base.toList.map word)
  | 1 => some (t.bands.toList.flatMap fun b => word b.start :: b.rates.toList.map word)
  | 2 => some ((List.finRange 4).flatMap fun f => [word t.caps[f], word t.allowances[f]])
  | 3 => some [word t.transferWindow, word t.lowThreshold, word t.policy.code, word t.provisionalClass.val]
  | _ => none

/-- FARE READ as the engine serves it (R56): the part. -/
def serveFareRead (ws : List Word) (s : State) : State × Answer :=
  match fareWords s.fares (arg ws 0).toNat with
  | some data => (s, .counted data)
  | none => s.refused .badOperand

/-- FARE_SET_BASE (R51, R52). -/
def execFareSetBase (p : Progress) (s : State) : Result := .next (s.runHost .fareSetBase serveFareSetBase p)

/-- FARE_SET_BAND (R51, R53). -/
def execFareSetBand (p : Progress) (s : State) : Result := .next (s.runHost .fareSetBand serveFareSetBand p)

/-- FARE_SET_CLASS (R51, R54). -/
def execFareSetClass (p : Progress) (s : State) : Result :=
  .next (s.runHost .fareSetClass serveFareSetClass p)

/-- FARE_SET_POLICY (R51, R55). -/
def execFareSetPolicy (p : Progress) (s : State) : Result :=
  .next (s.runHost .fareSetPolicy serveFareSetPolicy p)

/-- FARE_READ (R51, R56). -/
def execFareRead (p : Progress) (s : State) : Result := .next (s.runHost .fareRead serveFareRead p)

end Sys2Proof.Machine
end

