-- ==== Sys2Proof/Machine/Watch.lean ====
section
/-!
DEFINITION. The watch list commands (7.6, R146 to R149).
-/

namespace Sys2Proof.Machine

/-- A watch entry is present and names the card (R138). -/
def entryNames (e : Option WatchEntry) (card : CardNumber) : Bool := e.elim false fun x => x.card == card

/-- The mode of an operand (R148). -/
def WatchMode.ofWord (w : Word) : Option WatchMode :=
  if w = 1 then some .note else if w = 2 then some .hold else none

/-- WATCH SET as the engine serves it (R148): entry, card number, mode. -/
def serveWatchSet (ws : List Word) (s : State) : State × Answer :=
  let card := ofCardWords (arg ws 1) (arg ws 2) (arg ws 3)
  match indexBelow 4 (arg ws 0), WatchMode.ofWord (arg ws 4) with
  | some e, some mode =>
    if validCard card then
      if (List.finRange 4).any fun i => i != e && entryNames s.watch[i] card then s.refused .duplicate
      else { s with watch := s.watch.set e.val (some ⟨card, mode⟩) }.served
    else s.refused .badOperand
  | _, _ => s.refused .badOperand

/-- WATCH CLEAR as the engine serves it (R149): entry. -/
def serveWatchClear (ws : List Word) (s : State) : State × Answer :=
  match indexBelow 4 (arg ws 0) with
  | some e => { s with watch := s.watch.set e.val none }.served
  | none => s.refused .badOperand

/-- The four words of a watch entry (R149). -/
def watchWords : Option WatchEntry → List Word
  | none => [0, 0, 0, 0]
  | some e => cardWords e.card ++ [word e.mode.code]

/-- WATCH READ as the engine serves it (R149). -/
def serveWatchRead (_ws : List Word) (s : State) : State × Answer :=
  (s, .counted (s.watch.toList.flatMap watchWords))

/-- WATCH_SET (R147, R148). -/
def execWatchSet (p : Progress) (s : State) : Result := .next (s.runHost .watchSet serveWatchSet p)

/-- WATCH_CLEAR (R147, R149). -/
def execWatchClear (p : Progress) (s : State) : Result := .next (s.runHost .watchClear serveWatchClear p)

/-- WATCH_READ (R147, R149). -/
def execWatchRead (p : Progress) (s : State) : Result := .next (s.runHost .watchRead serveWatchRead p)

end Sys2Proof.Machine
end

