-- ==== Sys2Proof/Machine/Engine.lean ====
section
/-!
DEFINITION. The record engine's own operations: the tap decision (7.5, R137 to R145, R115 to R119),
the commit (7.7, R150 to R152, R47, R48) and clearing (1.7, R17, R190).
-/

namespace Sys2Proof.Machine

/-! ### The tap decision -/

/-- A decision refused by the stage it is at: it reaches stage 12 directly (R145). -/
def Decision.refuse (d : Decision) (r : Reason) : Decision :=
  { d with stage := .decisionEnd, refusal := some r }

/-- A decision that goes on to a stage. -/
def Decision.goto (d : Decision) (stage : DecisionStage) : Decision := { d with stage := stage }

/-- The watch entry that names a card, where one does (R138). -/
def State.watchMatch (s : State) (card : CardNumber) : Option WatchIx :=
  (List.finRange 4).find? fun i => entryNames s.watch[i] card

/-- Decision stage 2, Watch (R138). -/
def stageWatch (d : Decision) (s : State) : Decision × State :=
  match s.watchMatch d.card with
  | none => (d.goto .lookup, s)
  | some e =>
    let s1 := s.raise .watchHit (word d.lane.val, word e.val)
    match s.watch[e] with
    | some ⟨_, .hold⟩ => (d.refuse .watch, s1)
    | some ⟨_, .note⟩ => (d.goto .lookup, s1)
    | none => (d.goto .lookup, s1)

/-- Decision stage 3, Lookup (R139). -/
def stageLookup (d : Decision) (s : State) : Decision × State :=
  match s.lookup d.card with
  | (.fault slot, s1) => ({ d with lookup := some (.fault slot) }.refuse .fault, s1)
  | (.found slot r insert, s1) =>
    ({ d with lookup := some (.found slot r insert), slot := slot, record := some r, stage := .inPassage }, s1)
  | (.notFound insert, s1) => ({ d with lookup := some (.notFound insert), stage := .unknown }, s1)

/-- The provisional record of a card (R37). -/
def provisionalRecord (t : FareTables) (card : CardNumber) (day : Nat) : CardRecord where
  card := card
  product := .purse
  fareClass := t.provisionalClass
  provisional := true
  deny := false
  latch := false
  changed := true
  balance := 0
  passFirst := 0
  passLast := 0
  capDay := day
  daySpend := 0
  journey := none
  boardings := 0

/-- Decision stage 4, Unknown card (R139, R69). -/
def stageUnknown (d : Decision) (s : State) : Decision × State :=
  match s.fares.policy with
  | .refuse => (d.refuse .unknownCard, s)
  | .provisional =>
    match d.lookup with
    | some (.notFound (some slot)) =>
      ({ d with slot := slot, record := some (provisionalRecord s.fares d.card d.day), built := true,
                stage := .inPassage }, s)
    | _ => (d.refuse .tableFull, s.raise .tableFull (wideSubject (homeBucket s.geometry d.card)))

/-- Decision stage 5, In passage (R140). -/
def stageInPassage (d : Decision) (s : State) : Decision × State :=
  if s.inPassage d.slot then (d.refuse .inPassage, s) else (d.goto .deny, s)

/-- Decision stage 6, Deny (R141). -/
def stageDeny (d : Decision) (r : CardRecord) (s : State) : Decision × State :=
  if r.deny && s.enforce then (d.refuse .denied, s) else (d.goto .latch, s)

/-- Decision stage 7, Latch (R141). -/
def stageLatch (d : Decision) (r : CardRecord) (s : State) : Decision × State :=
  if r.product = .purse ∧ r.latch = true then (d.refuse .overdrawn, s) else (d.goto .passDays, s)

/-- Decision stage 8, Pass days (R32, R141). -/
def stagePassDays (d : Decision) (r : CardRecord) (s : State) : Decision × State :=
  if r.product = .pass ∧ ¬(r.passFirst ≤ d.day ∧ d.day ≤ r.passLast) then (d.refuse .passNotValid, s)
  else (d.goto .hold, s)

/-- Decision stage 9, Hold (R142). -/
def stageHold (d : Decision) (s : State) : Decision × State :=
  match s.holdRequest (s.lane d.lane).berth with
  | (.noBoarding, s1) => (d.refuse .noBoarding, s1)
  | (.full, s1) => (d.refuse .full, s1)
  | (.held h, s1) => ({ d with hold := some h, stage := .fare }, s1)

/-- A confirm of the decision's hold: it changes no field (R87). -/
def State.confirm (s : State) (_departure : DepIx) : State := s

/-- Decision stage 10, Fare (R143). -/
def stageFare (d : Decision) (r : CardRecord) (h : Hold) (s : State) : Decision × State :=
  let f := fareCharge s.fares r h.route d.day d.minute
  if fareSufficient s.fares r f.1 then
    ({ d with fare := openFareFields s.fares r f.1, transfer := f.2, stage := .write },
      s.confirm h.departure)
  else
    ({ d with fare := insufficientFields s.fares r f.1 }.refuse .insufficient, s.release h.departure)

/-- Decision stage 11, Provisional write (R144). -/
def stageWrite (d : Decision) (r : CardRecord) (s : State) : Decision × State :=
  if d.built then ({ d with wrote := true, stage := .decisionEnd }, s.writeRecord d.slot r)
  else (d.goto .decisionEnd, s)

/-- One of the decision stages 2 to 11. A stage after the lookup has the decision's record, and the
fare stage its hold; the arms without them are never met. -/
def decisionStage (d : Decision) (s : State) : Decision × State :=
  match d.stage, d.record, d.hold with
  | .watch, _, _ => stageWatch d s
  | .lookup, _, _ => stageLookup d s
  | .unknown, _, _ => stageUnknown d s
  | .inPassage, _, _ => stageInPassage d s
  | .deny, some r, _ => stageDeny d r s
  | .latch, some r, _ => stageLatch d r s
  | .passDays, some r, _ => stagePassDays d r s
  | .hold, _, _ => stageHold d s
  | .fare, some r, some h => stageFare d r h s
  | .write, some r, _ => stageWrite d r s
  | _, _, _ => (d.refuse .fault, s)

/-- The open verdict that a decision end gives (R107, R145). -/
def Decision.openVerdict (d : Decision) (h : Hold) : OpenVerdict where
  slot := d.slot
  card := d.card
  departure := h.departure
  charge := d.fare.charge
  transfer := d.transfer
  day := d.day
  minute := d.minute
  route := h.route
  provisional := d.wrote

/-- An OPEN decision end taken with cancel-noted clear (R116, R119): the open verdict stored, VERDICT
OPEN queued, and the lane in AWAITING with its timer, or on an UNSENSED lane in COMMITTING with its
commit request. -/
def State.acceptOpen (s : State) (d : Decision) (h : Hold) : State :=
  let p := s.lane d.lane
  let p1 := { p with openVerdict := some (d.openVerdict h) }
  let verdict := Message.verdict ⟨none, d.fare, h.tag, h.remaining⟩
  match p.kind with
  | .sensed => (s.setLane d.lane { p1 with state := .awaiting, secondsLeft := p.timer }).send d.lane verdict
  | .unsensed =>
    ((s.setLane d.lane { p1 with state := .committing }).send d.lane verdict).setCommitPending d.lane true

/-- A VERDICT REFUSE at a decision end, and the lane at rest (R115, R117). -/
def State.endRefused (s : State) (l : Lane) (r : Reason) (f : FareFields) : State :=
  (s.send l (.refuse r f)).laneRest l

/-- Decision stage 12 (R115, R145): the lane port takes the decision end, turned to CANCELLED when
cancel-noted is set. A hold of an OPEN result that is cancelled is released at the same event
(log 10). The engine then returns to IDLE. -/
def State.endDecision (s : State) (d : Decision) : State :=
  let p := s.lane d.lane
  let s0 := s.setLane d.lane { p with tapped := none, cancelNoted := false }
  let s1 :=
    match d.refusal, d.hold, p.cancelNoted with
    | some r, _, false => s0.endRefused d.lane r d.fare
    | some _, _, true => s0.endRefused d.lane .cancelled FareFields.zero
    | none, some h, false => s0.acceptOpen d h
    | none, some h, true => (s0.endRefused d.lane .cancelled FareFields.zero).release h.departure
    | none, none, _ => s0.endRefused d.lane .fault FareFields.zero
  s1.engineDone

/-- The next `n` stages of a decision in service, the engine carrying what each has made of it. -/
def runDecision : Nat → Decision → State → State
  | 0, _, s => s
  | n + 1, d, s =>
    match d.stage with
    | .decisionEnd => s.endDecision d
    | _ =>
      let r := decisionStage d s
      runDecision n r.1 { r.2 with engine := .deciding r.1 }

/-- TAP_DECISION (R137): the engine moves on with the decision in service. Stage 1 was taken at the
grant (R79); the stages 2 to 12 are at most eleven. -/
def execTapDecision (p : Progress) (s : State) : Result :=
  match s.engine with
  | .deciding d => .next (runDecision (stageCount 11 p) d s)
  | _ => .next s

/-! ### The commit -/

/-- The purse parts of a record charged by a commit (R47), and whether the balance was clamped. -/
def chargePurse (t : FareTables) (day : Nat) (v : OpenVerdict) (r : CardRecord) : CardRecord × Bool :=
  let lowered := r.balance - v.charge
  let floor : Int := -(t.allowances[r.fareClass] : Int)
  let clamped := decide (lowered < floor)
  let balance := if clamped then floor else lowered
  let fresh : Journey := ⟨v.day, v.minute, v.route, v.charge⟩
  let journey :=
    match v.transfer, r.journey with
    | true, some j => { j with paid := min (j.paid + v.charge) 16777215, route := v.route }
    | _, _ => fresh
  ({ r with
      balance := balance
      latch := latchAfter balance r.latch
      capDay := day
      daySpend := min (r.effectiveSpend day + v.charge) 16777215
      journey := some journey }, clamped)

/-- A record charged by a commit (R47, R48), and whether the balance was clamped. -/
def chargeRecord (t : FareTables) (day : Nat) (v : OpenVerdict) (r : CardRecord) : CardRecord × Bool :=
  let c :=
    match r.product with
    | .purse => chargePurse t day v r
    | .pass => (r, false)
    | .staff => (r, false)
  ({ c.1 with boardings := min (r.boardings + 1) 65535, changed := true }, c.2)

/-- Commit stage 1 (R150): the commit of count. -/
def stageCountPassage (c : Commit) (v : OpenVerdict) (s : State) : Commit × State :=
  ({ c with stage := .read }, s.commitOfCount v.departure v.charge)

/-- Commit stage 2 (R151): the slot read; an uncharged passage goes to the commit end. -/
def stageRead (c : Commit) (v : OpenVerdict) (s : State) : Commit × State :=
  let uncharged := fun (s1 : State) =>
    ({ c with stage := .commitEnd }, s1.raise .unchargedPassage (numberSubject c.lane.val))
  match s.portRead v.slot with
  | (.live r, s1) =>
    if r.card = v.card then ({ c with stage := .charge, record := some r }, s1) else uncharged s1
  | (.free, s1) => uncharged s1
  | (.fault, s1) => uncharged s1

/-- Commit stage 3 (R80, R152): the day is read and the record charged. -/
def stageCharge (c : Commit) (v : OpenVerdict) (r : CardRecord) (s : State) : Commit × State :=
  let charged := chargeRecord s.fares s.clock.day v r
  ({ c with stage := .write, record := some charged.1 },
    if charged.2 then s.raise .balanceClamped (wideSubject v.slot) else s)

/-- Commit stage 4 (R152): the record written back to the same slot. -/
def stageCommitWrite (c : Commit) (v : OpenVerdict) (r : CardRecord) (s : State) : Commit × State :=
  ({ c with stage := .commitEnd }, s.writeRecord v.slot r)

/-- One of the first four stages of a commit. The lane keeps its open verdict until the commit end
(R150), so the arms without it are never met. -/
def commitStage (c : Commit) (s : State) : Commit × State :=
  match c.stage, (s.lane c.lane).openVerdict, c.record with
  | .count, some v, _ => stageCountPassage c v s
  | .read, some v, _ => stageRead c v s
  | .charge, some v, some r => stageCharge c v r s
  | .write, some v, some r => stageCommitWrite c v r s
  | _, _, _ => ({ c with stage := .commitEnd }, s)

/-- Commit stage 5 (R118, R152): the lane port takes the commit end, and the engine returns to IDLE. -/
def State.endCommit (s : State) (c : Commit) : State :=
  let p := s.lane c.lane
  let s0 := s.setLane c.lane { p with openVerdict := none }
  let s1 := match p.kind with
    | .sensed => s0.send c.lane (.passageAnswer .taken)
    | .unsensed => s0
  (s1.laneRest c.lane).engineDone

/-- The next `n` stages of a commit in service, the engine carrying what each has made of it. -/
def runCommit : Nat → Commit → State → State
  | 0, _, s => s
  | n + 1, c, s =>
    match c.stage with
    | .commitEnd => s.endCommit c
    | _ =>
      let r := commitStage c s
      runCommit n r.1 { r.2 with engine := .committing r.1 }

/-- COMMIT (R150): the engine moves on with the commit in service. -/
def execCommit (p : Progress) (s : State) : Result :=
  match s.engine with
  | .committing c => .next (runCommit (stageCount 5 p) c s)
  | _ => .next s

/-! ### Clearing -/

/-- How many of the slots still to be cleared a `Progress` allows. -/
def clearCount (left : Nat) : Progress → Nat
  | .whole => left
  | .stages n => min n left

/-- CLEARING (R17): the engine writes the FREE pattern to the next slots, in increasing order. -/
def execClearing (p : Progress) (s : State) : Result :=
  match s.engine with
  | .clearing next =>
    let n := clearCount (s.geometry.slots - next) p
    .next { s with mem := Memory.clearSlots s.mem next n, engine := .clearing (next + n) }
  | _ => .next s

/-- CLEARING_COMPLETE (R17, R190): the write of the last slot completes, the engine returns to IDLE
and the service state becomes SERVING. -/
def execClearingComplete (s : State) : Result :=
  match s.engine with
  | .clearing next =>
    if s.geometry.slots ≤ next then .next { s with service := .serving }.engineDone else .next s
  | _ => .next s

end Sys2Proof.Machine
end

