-- ==== Sys2Proof/Machine/Lanes.lean ====
section
/-!
DEFINITION. The lane ports: messages from the gate, discarded frames, sent frames, and the host's
lane commands (06_lane_ports.md).
-/

namespace Sys2Proof.Machine

/-! ### Messages from the gate (R108 to R111) -/

/-- A valid TAP taken in IDLE (R108 test 5): the card becomes the tapped card, a tap request is
placed, the lane goes to PENDING, and the arbiter makes a grant if the engine is IDLE (R132). -/
def State.placeTap (s : State) (l : Lane) (card : CardNumber) : State :=
  ((s.setLane l { s.lane l with tapped := some card, state := .pending }).setTapPending l true).settle

/-- A TAP taken (R108): the first of its five tests that holds decides. -/
def State.takeTap (s : State) (l : Lane) (card : CardNumber) : State :=
  let p := s.lane l
  match p.state with
  | .down => s.send l (.refuse .laneClosed FareFields.zero)
  | .idle =>
    let s0 := s.setLane l { p with expiredLast := false }
    if s.service ≠ .serving then s0.send l (.refuse .notInService FareFields.zero)
    else if validCard card then s0.placeTap l card
    else s0.send l (.refuse .unknownCard FareFields.zero)
  | _ =>
    if s.service ≠ .serving then s.send l (.refuse .notInService FareFields.zero)
    else s.send l (.refuse .busy FareFields.zero)

/-- A PASSED taken (R109). DESIGN CHOICE, unsafe (log 25): expired-last decides LATE whatever the kind of the
lane, also at a DOWN lane that LANE SET has made UNSENSED with the mark set, where R109's last bullet and R119
would have NOT EXPECTED. -/
def State.takePassed (s : State) (l : Lane) : State :=
  let p := s.lane l
  let late :=
    if p.expiredLast then
      ((s.setLane l { p with expiredLast := false }).send l (.passageAnswer .late)).raise .latePassage
        (numberSubject l.val)
    else s.send l (.passageAnswer .notExpected)
  match p.state with
  | .awaiting =>
    ((s.setLane l { p with secondsLeft := 0, state := .committing }).setCommitPending l true).settle
  | .idle => late
  | .down => late
  | _ => s.send l (.passageAnswer .notExpected)

/-- A WALKAWAY taken (R110). -/
def State.takeWalkaway (s : State) (l : Lane) : State :=
  match (s.lane l).state with
  | .awaiting => s.endUnpassed l .taken false
  | _ => s.send l (.passageAnswer .notExpected)

/-- A tap request withdrawn from a PENDING lane (R106), the gate refused with a reason, and the lane
left in the state given (R111, R120, R123). -/
def State.withdrawTap (s : State) (l : Lane) (r : Reason) (next : LaneState) : State :=
  ((s.setTapPending l false).setLane l { s.lane l with tapped := none, state := next }).send l
    (.refuse r FareFields.zero)

/-- A CANCEL taken (R111). -/
def State.takeCancel (s : State) (l : Lane) : State :=
  let p := s.lane l
  match p.state with
  | .pending => s.withdrawTap l .cancelled .idle
  | .deciding => s.setLane l { p with cancelNoted := true }
  | .awaiting => s.endUnpassed l .taken false
  | _ => s

/-- A whole frame of a gate's message, taken at its check byte (R126): the frame in reception has ended, and
the message is taken. Behind the beginning of another frame no such check byte can arrive (R196, log 4). -/
def State.takeFrame (s : State) (l : Lane) (m : GateMessage) (take : State → State) : State :=
  if (s.lane l).canComplete m then take (s.endFrame l) else s

/-- TAP (R108). -/
def execTap (l : Lane) (card : CardNumber) (s : State) : Result :=
  .next (s.takeFrame l (.tap card) fun t => t.takeTap l card)

/-- PASSED (R109). -/
def execPassed (l : Lane) (s : State) : Result := .next (s.takeFrame l .passed fun t => t.takePassed l)

/-- WALKAWAY (R110). -/
def execWalkaway (l : Lane) (s : State) : Result := .next (s.takeFrame l .walkaway fun t => t.takeWalkaway l)

/-- CANCEL (R111). -/
def execCancel (l : Lane) (s : State) : Result := .next (s.takeFrame l .cancel fun t => t.takeCancel l)

/-! ### Frames (R126, R127) -/

/-- LANE FAULT raised a number of times with the lane as subject (R126). -/
def State.raiseLaneFaults (s : State) (l : Lane) : Nat → State
  | 0 => s
  | n + 1 => (s.raise .laneFault (numberSubject l.val)).raiseLaneFaults l n

/-- FRAME_DISCARD (R126, R196): bytes received that complete no frame. Each frame that they discard raises
LANE FAULT, and one that they leave incomplete stays in reception (log 18). Bytes that complete a frame are
TAP, PASSED, WALKAWAY or CANCEL, and no such event (log 4). -/
def execFrameDiscard (l : Lane) (bytes : List RxByte) (s : State) : Result :=
  let h := hear (s.lane l).reception bytes
  if h.messages = [] then
    .next ((s.setLane l { s.lane l with reception := h.reception }).raiseLaneFaults l h.faults)
  else .next s

/-- FRAME_TIMEOUT (R126), taken on its own (log 7): the second second event since the start byte of the frame
in reception, which is discarded. Where no second event has been taken since the start byte, or no frame with
these bytes is in reception, no such event can occur (log 4). -/
def execFrameTimeout (l : Lane) (bytes : List RxByte) (s : State) : Result :=
  let p := s.lane l
  if p.timesOut = true ∧ p.reception.map (fun r => framed r.bytes) = some bytes then
    .next ((s.endFrame l).raise .laneFault (numberSubject l.val))
  else .next s

/-- FRAME_SENT (R127): the oldest message leaves the queue, its frame sent whole. -/
def execFrameSent (l : Lane) (s : State) : Result :=
  match (s.lane l).queue with
  | [] => .next s
  | m :: rest => .next (s.setLane l { s.lane l with queue := rest, lineOut := m.frame })

/-! ### Host lane commands (6.7) -/

/-- LANE OPEN as the port takes it (R122). -/
def ownLaneOpen (lane : Word) (s : State) : Taken :=
  match indexBelow 12 lane with
  | none => s.refuse .badOperand
  | some l =>
    let p := s.lane l
    if s.service = .halting ∨ p.state ≠ .down then s.refuse .wrongState
    else
      let opened := { p with
        state := .idle
        expiredLast := false
        closeRequested := false
        cancelNoted := false }
      ((s.setLane l opened).send l (.laneState true)).ok

/-- LANE CLOSE as the port takes it (R123). -/
def ownLaneClose (lane : Word) (s : State) : Taken :=
  match indexBelow 12 lane with
  | none => s.refuse .badOperand
  | some l =>
    let p := s.lane l
    match p.state with
    | .down => s.ok
    | .idle => ((s.setLane l { p with state := .down }).send l (.laneState false)).ok
    | .pending => ((s.withdrawTap l .laneClosed .down).send l (.laneState false)).ok
    | _ => (s.setLane l { p with closeRequested := true }).ok

/-- The kind of a kind operand (6.7). -/
def LaneKind.ofWord (w : Word) : Option LaneKind :=
  if w = 0 then some .sensed else if w = 1 then some .unsensed else none

/-- The class of a class operand (6.7). -/
def LaneClass.ofWord (w : Word) : Option LaneClass :=
  if w = 0 then some .ordinary else if w = 1 then some .assisted else none

/-- LANE SET as the port takes it (R124). -/
def ownLaneSet (lane berth kind cls timer : Word) (s : State) : Taken :=
  match indexBelow 12 lane, indexBelow 4 berth, LaneKind.ofWord kind, LaneClass.ofWord cls with
  | some l, some b, some k, some c =>
    if 1 ≤ timer.toNat ∧ timer.toNat ≤ 60 then
      let p := s.lane l
      if p.state = .down then
        (s.setLane l { p with berth := b, kind := k, cls := c, timer := timer.toNat }).ok
      else s.refuse .wrongState
    else s.refuse .badOperand
  | _, _, _, _ => s.refuse .badOperand

/-- LANE READ as the port takes it (R125). -/
def ownLaneRead (lane : Word) (s : State) : Taken :=
  match indexBelow 12 lane with
  | none => s.refuse .badOperand
  | some l => s.reply (laneWords (s.lane l))

/-- LANE_OPEN (R121, R122). -/
def execLaneOpen (lane : Word) (s : State) : Result := .next (s.hostDirect .laneOpen (ownLaneOpen lane))

/-- LANE_CLOSE (R121, R123). -/
def execLaneClose (lane : Word) (s : State) : Result := .next (s.hostDirect .laneClose (ownLaneClose lane))

/-- LANE_SET (R121, R124). -/
def execLaneSet (lane berth kind cls timer : Word) (s : State) : Result :=
  .next (s.hostDirect .laneSet (ownLaneSet lane berth kind cls timer))

/-- LANE_READ (R121, R125). -/
def execLaneRead (lane : Word) (s : State) : Result := .next (s.hostDirect .laneRead (ownLaneRead lane))

end Sys2Proof.Machine
end

