-- ==== Sys2Proof/Machine/Records.lean ====
section
/-!
DEFINITION. The host record commands and ENFORCE (2.10, R31, R38 to R46).
-/

namespace Sys2Proof.Machine

/-- The card number in the first three operand words. -/
def cardArg (ws : List Word) : CardNumber := ofCardWords (arg ws 0) (arg ws 1) (arg ws 2)

/-- A command on the record of a card (R38): the lookup, then the command's own conditions on the
found slot and record. -/
def State.onCard (s : State) (card : CardNumber) (f : Nat → CardRecord → State → State × Answer) :
    State × Answer :=
  match s.lookup card with
  | (.fault _, s1) => s1.refused .fault
  | (.notFound _, s1) => s1.refused .notFound
  | (.found slot r _, s1) => f slot r s1

/-- The record that the eighteen operand words of CARD ADD give; nothing where one does not decode (R195) or is
out of range (R39). Each operand is decoded before the range checks, so that a day spend and a paid so far of two
words are at most 16,777,215 whatever else the words give (R195, log 24). Values of an absent part are then ignored
and stored as zero (R26). -/
def cardAddRecord (ws : List Word) : Option CardRecord :=
  let n := fun i => (arg ws i).toNat
  match ofProductWord (arg ws 3) with
  | none => none
  | some (product, fareClass) =>
    let present := (arg ws 4).getLsbD 4
    let isPass := decide (product = .pass)
    let balance := ofTwoWordsSigned (arg ws 5) (arg ws 6)
    let decoded := decide (n 4 < 32) && decide (n 10 < 256) && decide (n 15 < 256)
    let routeOk := !present || decide (n 14 < 8)
    let r : CardRecord :=
      { card := cardArg ws
        product := product
        fareClass := fareClass
        provisional := false
        deny := (arg ws 4).getLsbD 1
        latch := latchAfter balance ((arg ws 4).getLsbD 2)
        changed := false
        balance := balance
        passFirst := if isPass then n 7 else 0
        passLast := if isPass then n 8 else 0
        capDay := n 9
        daySpend := ofTwoWords (arg ws 10) (arg ws 11)
        journey :=
          if present then some ⟨n 12, n 13, Fin.ofNat 8 (n 14), ofTwoWords (arg ws 15) (arg ws 16)⟩
          else none
        boardings := n 17 }
    if decoded && routeOk && r.inRange then some r else none

/-- CARD ADD as the engine serves it (R39), with the insert of R14. -/
def serveCardAdd (ws : List Word) (s : State) : State × Answer :=
  match cardAddRecord ws with
  | none => s.refused .badOperand
  | some r =>
    match s.lookup r.card with
    | (.fault _, s1) => s1.refused .fault
    | (.found _ _ _, s1) => s1.refused .duplicate
    | (.notFound none, s1) =>
      (s1.raise .tableFull (wideSubject (homeBucket s1.geometry r.card))).refused .tableFull
    | (.notFound (some slot), s1) => (s1.writeRecord slot r).served

/-- CARD FIND as the engine serves it (R40): card number, field mask. -/
def serveCardFind (ws : List Word) (s : State) : State × Answer :=
  if validCard (cardArg ws) && decide ((arg ws 3).toNat < 1024) then
    s.onCard (cardArg ws) fun slot r s1 => (s1, .counted (recordWords r slot (arg ws 3)))
  else s.refused .badOperand

/-- ADD VALUE as the engine serves it (R41): card number, amount. -/
def serveAddValue (ws : List Word) (s : State) : State × Answer :=
  let amount := ofTwoWordsSigned (arg ws 3) (arg ws 4)
  if validCard (cardArg ws) && decide (1 ≤ amount) && decide (amount ≤ 999999) then
    s.onCard (cardArg ws) fun slot r s1 =>
      let sum := r.balance + amount
      if 999999 < sum then s1.refused .ceiling
      else (s1.writeRecord slot { r with balance := sum }, .done (twoWordsSigned sum) 0)
  else s.refused .badOperand

/-- SET BALANCE as the engine serves it (R42): card number, value. -/
def serveSetBalance (ws : List Word) (s : State) : State × Answer :=
  let value := ofTwoWordsSigned (arg ws 3) (arg ws 4)
  if validCard (cardArg ws) && decide (-5000 ≤ value) && decide (value ≤ 999999) then
    s.onCard (cardArg ws) fun slot r s1 =>
      (s1.writeRecord slot { r with balance := value, latch := latchAfter value r.latch }).served
  else s.refused .badOperand

/-- SETTLE as the engine serves it (R43): card number. -/
def serveSettle (ws : List Word) (s : State) : State × Answer :=
  if validCard (cardArg ws) then
    s.onCard (cardArg ws) fun slot r s1 =>
      if r.balance < 0 then s1.refused .badOperand
      else (s1.writeRecord slot { r with latch := false, provisional := false }).served
  else s.refused .badOperand

/-- SET PRODUCT as the engine serves it (R44): card number, product and class word, pass first day,
pass last day. -/
def serveSetProduct (ws : List Word) (s : State) : State × Answer :=
  let first := (arg ws 4).toNat
  let last := (arg ws 5).toNat
  match ofProductWord (arg ws 3) with
  | none => s.refused .badOperand
  | some (product, fareClass) =>
    if validCard (cardArg ws) && (decide (product ≠ .pass) || decide (first ≤ last)) then
      s.onCard (cardArg ws) fun slot r s1 =>
        (s1.writeRecord slot { r with
          product := product
          fareClass := fareClass
          passFirst := if product = .pass then first else 0
          passLast := if product = .pass then last else 0 }).served
    else s.refused .badOperand

/-- DENY and ALLOW as the engine serves them (R45): the deny flag of the named card written. -/
def serveDenyFlag (flag : Bool) (ws : List Word) (s : State) : State × Answer :=
  if validCard (cardArg ws) then
    s.onCard (cardArg ws) fun slot r s1 => (s1.writeRecord slot { r with deny := flag }).served
  else s.refused .badOperand

/-- CARD RETIRE as the engine serves it (R16, R46): card number. -/
def serveCardRetire (ws : List Word) (s : State) : State × Answer :=
  if validCard (cardArg ws) then
    s.onCard (cardArg ws) fun slot _ s1 =>
      if s1.inPassage slot then s1.refused .inPassage else (s1.portWrite slot freeContent).served
  else s.refused .badOperand

/-- ENFORCE as the engine serves it (R31): 1 on, 0 off. -/
def serveEnforce (ws : List Word) (s : State) : State × Answer :=
  if arg ws 0 = 1 then { s with enforce := true }.served
  else if arg ws 0 = 0 then { s with enforce := false }.served
  else s.refused .badOperand

/-- CARD_ADD (R39). -/
def execCardAdd (p : Progress) (s : State) : Result := .next (s.runHost .cardAdd serveCardAdd p)

/-- CARD_FIND (R40). -/
def execCardFind (p : Progress) (s : State) : Result := .next (s.runHost .cardFind serveCardFind p)

/-- ADD_VALUE (R41). -/
def execAddValue (p : Progress) (s : State) : Result := .next (s.runHost .addValue serveAddValue p)

/-- SET_BALANCE (R42). -/
def execSetBalance (p : Progress) (s : State) : Result := .next (s.runHost .setBalance serveSetBalance p)

/-- SETTLE (R43). -/
def execSettle (p : Progress) (s : State) : Result := .next (s.runHost .settle serveSettle p)

/-- SET_PRODUCT (R44). -/
def execSetProduct (p : Progress) (s : State) : Result := .next (s.runHost .setProduct serveSetProduct p)

/-- DENY (R45). -/
def execDeny (p : Progress) (s : State) : Result := .next (s.runHost .deny (serveDenyFlag true) p)

/-- ALLOW (R45). -/
def execAllow (p : Progress) (s : State) : Result := .next (s.runHost .allow (serveDenyFlag false) p)

/-- CARD_RETIRE (R46). -/
def execCardRetire (p : Progress) (s : State) : Result := .next (s.runHost .cardRetire serveCardRetire p)

/-- ENFORCE (R31). -/
def execEnforce (p : Progress) (s : State) : Result := .next (s.runHost .enforce serveEnforce p)

end Sys2Proof.Machine
end

