-- ==== Sys2Proof/Machine/Resets.lean ====
section
/-!
DEFINITION. The resets and the reset line (R186, R187), and the decay of a slot in the DRAM device
(R1).
-/

namespace Sys2Proof.Machine

/-- A departure after a warm reset with a valid keep: held set to 0, and near-full armed where
remaining then lies above the margin (R103). -/
def Departure.warm (d : Departure) : Departure :=
  let d0 := { d with held := 0 }
  { d0 with armed := if d0.margin < d0.remaining then true else d0.armed }

/-- What every warm reset takes to its reset value (R187): lane ports, arbiter, engine, watch list,
attention unit, station link and both cursors. -/
def State.warmCommon (s : State) : State :=
  { s with
    tableCursor := 0
    sweepCursor := 0
    lanes := Vector.replicate 12 LanePort.reset
    arbiter := Arbiter.reset
    engine := .idle
    watch := Vector.replicate 4 none
    link := Link.reset
    attention := Attention.reset }

/-- A warm reset (R187). The clock, record memory, the keep flag and the kept geometry are unchanged.
A slot write is one event here, so one in progress has been taken whole before (R1, log 12). -/
def State.warmReset (s : State) : State :=
  if s.keepValid then
    { s.warmCommon with
      service := .resumable
      geometry := s.kept
      departures := s.departures.map Departure.warm }
  else
    { s.warmCommon with
      service := .unstarted
      geometry := Geometry.reset
      fares := FareTables.reset
      enforce := false
      departures := Vector.replicate 16 Departure.reset
      berths := Vector.replicate 4 none }

/-- COLD_RESET (R186): every block takes its cold-reset value. The level of the reset line is the
outside's, and the queue and the count of free choices are the model's own (log 15, log 17). -/
def execColdReset (s : State) : Result :=
  .next { State.reset with resetLine := s.resetLine, freeCount := s.freeCount, pending := s.pending }

/-- WARM_RESET (R187): the reset line changes from released to asserted. Holding it asserted has no
further effect. -/
def execWarmReset (s : State) : Result :=
  .next (if s.resetLine then s else { s with resetLine := true }.warmReset)

/-- RESET_LINE_RELEASE (R187): no reset; a later assertion brings a warm reset again. -/
def execResetLineRelease (s : State) : Result := .next { s with resetLine := false }

/-- SLOT_DECAY (R1, R7): the device holds other words in a slot from now on. The largest table has
2^20 slots (1.3); no slot stands beyond them. -/
def execSlotDecay (slot : Nat) (words : Vector Word 16) (s : State) : Result :=
  if slot < 1048576 then .next { s with mem := Memory.putSlot s.mem slot words }
  else .fault .noSuchSlot

end Sys2Proof.Machine
end

