-- ==== Sys2Proof/Machine/ServiceControl.lean ====
section
/-!
DEFINITION. Service control: START, RESUME, HALT, CONTINUE, KEEP and RESTART (10.2, R185 to R193).
The state is judged first, by the table of R185.
-/

namespace Sys2Proof.Machine

/-- A lane at START (R128, R189): DOWN, flags cleared, configuration and queued messages kept; a lane
that was not DOWN queues LANE STATE CLOSED, which a full queue discards (R127). -/
def LanePort.atStart (p : LanePort) : LanePort :=
  { p with
    state := .down
    closeRequested := false
    cancelNoted := false
    expiredLast := false
    tapped := none
    openVerdict := none
    secondsLeft := 0
    queue := if p.state ≠ .down ∧ p.queue.length < 4 then p.queue ++ [.laneState false] else p.queue }

/-- What holds from the event at which START is taken (R189), before the clearing request is
granted. -/
def State.started (s : State) (g : Geometry) : State :=
  { s with
    keepValid := false
    service := .clearing
    geometry := g
    tableCursor := 0
    sweepCursor := 0
    departures := Vector.replicate 16 Departure.reset
    berths := Vector.replicate 4 none
    lanes := s.lanes.map LanePort.atStart
    arbiter := { Arbiter.reset with clearingRequest := true }
    watch := Vector.replicate 4 none
    attention := Attention.reset }

/-- The port raises LANE FAULT at START: not DOWN, with a full queue (R127). -/
def LanePort.faultsAtStart (p : LanePort) : Bool := p.state != .down && decide (4 ≤ p.queue.length)

/-- The lanes of `before` whose LANE FAULT at START the attention unit takes after START has cleared it,
in order: "in either order" by R172 and R173, so which and in what order is left free (log 9). -/
def startFaults (before : State) (choice : Nat) : List Lane :=
  ((List.finRange 12).map fun i => Fin.ofNat 12 (choice / 4096) + i).filter fun l =>
    (before.lane l).faultsAtStart && choice.testBit l.val

/-- The occurrences that START's own messages leave in the attention unit (R127, R172, log 9). -/
def State.raiseStartFaults (s before : State) : State :=
  if (List.finRange 12).any fun l => (before.lane l).faultsAtStart then
    (startFaults before (Config.freeChoice s.freeCount)).foldl
      (fun t l => t.raise .laneFault (numberSubject l.val)) { s with freeCount := s.freeCount + 1 }
  else s

/-- START as service control takes it (R6, R185, R189): the clearing request is granted at the same
event (R17). -/
def ownStart (k p : Word) (s : State) : Taken :=
  match s.service with
  | .clearing => s.refuse .wrongState
  | .serving => s.refuse .wrongState
  | .halting => s.refuse .wrongState
  | _ =>
    if 10 ≤ k.toNat ∧ k.toNat ≤ 18 ∧ 1 ≤ p.toNat ∧ p.toNat ≤ 8 then
      ((s.started ⟨k.toNat, p.toNat⟩).raiseStartFaults s).settle.ok
    else s.refuse .badOperand

/-- RESUME as service control takes it (R185, R191). -/
def ownResume (s : State) : Taken :=
  match s.service with
  | .resumable => { s with keepValid := false, service := .serving }.ok
  | .unstarted => s.refuse .notStarted
  | _ => s.refuse .wrongState

/-- The halt notice at one lane (R120): a PENDING lane withdraws its tap request, answers its gate NOT
IN SERVICE and goes to IDLE. -/
def State.haltLane (s : State) (l : Lane) : State :=
  match (s.lane l).state with
  | .pending => s.withdrawTap l .notInService .idle
  | _ => s

/-- The port raises LANE FAULT when it takes the halt notice: PENDING with a full queue (R127). -/
def LanePort.faultsAtHalt (p : LanePort) : Bool := p.state == .pending && decide (4 ≤ p.queue.length)

/-- The halt notice at every lane port (R120). -/
def State.haltNotice (s : State) : State :=
  let o := s.portOrder ((List.finRange 12).countP fun l => (s.lane l).faultsAtHalt)
  o.1.foldl State.haltLane o.2

/-- The outcome of a HALT that is taken: DONE with the number of lanes in hand (R192). -/
def State.haltCount (s : State) : Taken := (s, some (.done [] (word s.lanesInHand)))

/-- HALT as service control takes it (R185, R192). -/
def ownHalt (s : State) : Taken :=
  match s.service with
  | .unstarted => s.refuse .notStarted
  | .resumable => s.refuse .notStarted
  | .clearing => s.refuse .wrongState
  | .halting => s.haltCount
  | .halted => s.haltCount
  | .serving =>
    let s1 := s.haltNotice
    { s1 with service := if s1.lanesInHand = 0 then .halted else .halting }.haltCount

/-- CONTINUE as service control takes it (R185, R193). -/
def ownContinue (s : State) : Taken :=
  match s.service with
  | .halted => { s with service := .serving }.ok
  | .unstarted => s.refuse .notStarted
  | .resumable => s.refuse .notStarted
  | _ => s.refuse .wrongState

/-- KEEP as service control takes it (R185, R188). -/
def ownKeep (s : State) : Taken :=
  match s.service with
  | .serving => { s with kept := s.geometry, keepValid := true }.ok
  | .halted => { s with kept := s.geometry, keepValid := true }.ok
  | .unstarted => s.refuse .notStarted
  | .resumable => s.refuse .notStarted
  | _ => s.refuse .wrongState

/-- RESTART as service control takes it (R187): a warm reset, answered by no DONE. -/
def ownRestart (s : State) : Taken := (s.warmReset, none)

/-- START (R185, R189). -/
def execStart (k p : Word) (s : State) : Result := .next (s.hostDirect .start (ownStart k p))

/-- RESUME (R185, R191). -/
def execResume (s : State) : Result := .next (s.hostDirect .resume ownResume)

/-- HALT (R185, R192). -/
def execHalt (s : State) : Result := .next (s.hostDirect .halt ownHalt)

/-- CONTINUE (R185, R193). -/
def execContinue (s : State) : Result := .next (s.hostDirect .continueService ownContinue)

/-- KEEP (R185, R188). -/
def execKeep (s : State) : Result := .next (s.hostDirect .keep ownKeep)

/-- RESTART (R185, R187). -/
def execRestart (s : State) : Result := .next (s.hostDirect .restart ownRestart)

end Sys2Proof.Machine
end

