-- ==== Sys2Proof/Machine/StationLink.lean ====
section
/-!
DEFINITION. The station link: transfers, phases, dispatch of complete commands, and the link's own
commands NOP and IDENTIFY (08_station_link.md).
-/

namespace Sys2Proof.Machine

/-! ### The link's own commands (8.7) -/

/-- NOP as the link takes it (R169). -/
def ownNop (s : State) : Taken := s.ok

/-- IDENTIFY as the link takes it (R170). -/
def ownIdentify (s : State) : Taken := s.reply [24013, 412, 1]

/-- NOP (R169). -/
def execNop (s : State) : Result := .next (s.hostDirect .nop ownNop)

/-- IDENTIFY (R170). -/
def execIdentify (s : State) : Result := .next (s.hostDirect .identify ownIdentify)

/-! ### Dispatch (R165) -/

/-- The owner that takes a DIRECT command with its operand words (8.8). An ENGINE command is never
handed to an owner this way. -/
def owner (c : Cmd) (ws : List Word) : State → Taken :=
  let a := arg ws
  match c with
  | .nop => ownNop
  | .identify => ownIdentify
  | .start => ownStart (a 0) (a 1)
  | .resume => ownResume
  | .halt => ownHalt
  | .continueService => ownContinue
  | .keep => ownKeep
  | .restart => ownRestart
  | .clockRead => ownClockRead
  | .setTime => ownSetTime (a 0)
  | .newDay => ownNewDay (a 0)
  | .setDay => ownSetDay (a 0) (a 1)
  | .departureDefine => ownDepartureDefine (a 0) (a 1) (a 2) (a 3) (a 4) (a 5) (a 6) (a 7)
  | .departureOpen => ownDepartureOpen (a 0)
  | .departureClose => ownDepartureClose (a 0)
  | .departureSetCapacity => ownDepartureSetCapacity (a 0) (a 1) (a 2)
  | .departureLink => ownDepartureLink (a 0) (a 1)
  | .departureRead => ownDepartureRead (a 0) (a 1)
  | .departureRetire => ownDepartureRetire (a 0)
  | .berthSetCurrent => ownBerthSetCurrent (a 0) (a 1)
  | .berthRead => ownBerthRead
  | .laneOpen => ownLaneOpen (a 0)
  | .laneClose => ownLaneClose (a 0)
  | .laneSet => ownLaneSet (a 0) (a 1) (a 2) (a 3) (a 4)
  | .laneRead => ownLaneRead (a 0)
  | .arbiterMode => ownArbiterMode (a 0)
  | .setBottom => ownSetBottom (a 0)
  | .pollLanes => ownPollLanes
  | .attentionRead => ownAttentionRead
  | .attentionAck => ownAttentionAck (a 0)
  | .attentionMask => ownAttentionMask (a 0)
  | _ => fun s => s.refuse .unknownCommand

/-- A complete ENGINE command (R165): judged by the service state; passed, it raises the host request
flag and the phase becomes EXECUTING, and the arbiter makes a grant if the engine is IDLE (R132). -/
def State.request (s : State) (c : Cmd) (ws : List Word) : State :=
  match judgeGroup c.group s.service with
  | some code => s.answerLink (.reject code)
  | none =>
    ({ s with link := { s.link with phase := .executing c ws false } }.setHostRequest true).settle

/-- A complete command dispatched by its route (R165). -/
def State.dispatch (s : State) (c : Cmd) (ws : List Word) : State :=
  if c.isEngine then s.request c ws else s.direct c (owner c ws)

/-! ### The host's word in each phase (R162 to R167) -/

def State.setPhase (s : State) (p : Phase) : State := { s with link := { s.link with phase := p } }

/-- The phase RESULTS with a single reject entry. -/
def State.linkReject (s : State) (c : RejectCode) : State := s.setPhase (.results [.reject c])

/-- A COMMAND word that begins a command (R163). -/
def State.beginCommand (s : State) (w : Word) : State :=
  match Cmd.ofCode w with
  | none => s.linkReject .unknownCommand
  | some c => if c.operands = 0 then s.dispatch c [] else s.setPhase (.collecting c c.operands [])

/-- The host's word in READY (R162). -/
def State.wordReady (s : State) (k : Kind) (w : Word) : State :=
  match k with
  | .command => s.beginCommand w
  | .operand => s.linkReject .unknownCommand
  | _ => s.setPhase .ready

/-- The host's word in COLLECTING (R164). -/
def State.wordCollecting (s : State) (c : Cmd) (expected : Nat) (ws : List Word) (k : Kind) (w : Word) :
    State :=
  match k with
  | .operand =>
    if expected ≤ 1 then s.dispatch c (ws ++ [w]) else s.setPhase (.collecting c (expected - 1) (ws ++ [w]))
  | .idle => s
  | .abort => s.linkReject .aborted
  | .command => s.linkReject .unknownCommand
  | .other => s.linkReject .unknownCommand

/-- The host's word in EXECUTING (R155, R166). -/
def State.wordExecuting (s : State) (c : Cmd) (ws : List Word) (abortLate : Bool) (k : Kind) : State :=
  match k, abortLate with
  | .abort, false =>
    if s.arbiter.hostRequest then (s.setHostRequest false).linkReject .aborted
    else s.setPhase (.executing c ws true)
  | _, _ => s

/-- The host's word in RESULTS, against what the removal left of the queue (R167). -/
def State.wordResults (s : State) (left : List Entry) (k : Kind) (w : Word) : State :=
  match k with
  | .command => s.beginCommand w
  | .abort => s.setPhase .ready
  | .operand => if left.isEmpty then (s.setPhase .ready).wordReady k w else s
  | _ => if left.isEmpty then s.setPhase .ready else s

/-- The host's kind and word taken by the rule for the phase (R159). -/
def State.takeWord (s : State) (k : Kind) (w : Word) : State :=
  match s.link.phase with
  | .ready => s.wordReady k w
  | .collecting c n ws => s.wordCollecting c n ws k w
  | .executing c ws late => s.wordExecuting c ws late k
  | .results left => s.wordResults left k w

/-! ### Transfers (R159, R160) -/

/-- The status and word chosen at the beginning of a transfer, and whether they carry a result entry
(R160). -/
def Phase.sends : Phase → Status × Word × Bool
  | .ready => (.ready, 0, false)
  | .collecting _ expected _ => (.wait, word expected, false)
  | .executing _ _ _ => (.wait, 0, false)
  | .results (e :: _) => (e.sent.1, e.sent.2, true)
  | .results [] => (.ready, 0, false)

/-- The removal of the entry that a transfer carried (R159). -/
def Phase.dropCarried : Phase → Phase
  | .results q => .results q.tail
  | p => p

/-- TRANSFER_BEGIN (R159, R160). While a transfer is in progress select is asserted already, and no
other can begin (log 4). -/
def execTransferBegin (s : State) : Result :=
  match s.link.transfer with
  | some _ => .next s
  | none =>
    let c := s.link.phase.sends
    .next { s with link := { s.link with transfer := some ⟨transferBits c.1 c.2.1, c.2.2⟩ } }

/-- TRANSFER_COMPLETE (R159): first the carried entry is removed, then the host's kind and word are
taken against the state that leaves. With no transfer in progress there is none to complete
(log 4). -/
def execTransferComplete (kind : Byte) (w : Word) (s : State) : Result :=
  match s.link.transfer with
  | none => .next s
  | some t =>
    let phase := if t.carries then s.link.phase.dropCarried else s.link.phase
    .next ({ s with link := ⟨phase, none⟩ }.takeWord (Kind.ofByte kind) w)

/-- TRANSFER_VOID (R159): no entry removed and no word taken. -/
def execTransferVoid (s : State) : Result := .next { s with link := { s.link with transfer := none } }

/-! ### A sender's help -/

/-- The two events of one transfer. -/
def transferOf (kind : Byte) (w : Word) : List Instr := [.transferBegin, .transferComplete kind w]

/-- The transfers that carry a command and its operand words to the part (8.2, 8.3): for those who
write down a queue of commands. -/
def hostSends (c : Cmd) (ws : List Word) : List Instr :=
  transferOf 90#8 (word c.code) ++ ws.flatMap (transferOf 165#8)

end Sys2Proof.Machine
end

