-- ==== Sys2Proof/Machine/Table.lean ====
section
/-!
DEFINITION. Cursor access to the card table and the record sweep (1.8, R20 to R23; 9.4, R179 to R181).
-/

namespace Sys2Proof.Machine

/-- TABLE SEEK as the engine serves it (R20): slot index in two words. -/
def serveTableSeek (ws : List Word) (s : State) : State × Answer :=
  let index := ofTwoWords (arg ws 0) (arg ws 1)
  if index < s.geometry.slots then { s with tableCursor := index }.served else s.refused .badOperand

/-- The table cursor one on (R21). -/
def State.advanceTable (s : State) : State := { s with tableCursor := s.geometry.nextSlot s.tableCursor }

/-- TABLE READ as the engine serves it (R21). The cursor advances in every case. -/
def serveTableRead (_ws : List Word) (s : State) : State × Answer :=
  match s.portRead s.tableCursor with
  | (.fault, s1) => s1.advanceTable.refused .fault
  | (_, s1) => (s1.advanceTable, .done (Memory.readSlot s.mem s.tableCursor).toList 0)

/-- The fifteen operand words of TABLE WRITE as a slot's words 0 to 14 (R22). -/
def contentArg (ws : List Word) : Vector Word 15 :=
  let a := arg ws
  #v[a 0, a 1, a 2, a 3, a 4, a 5, a 6, a 7, a 8, a 9, a 10, a 11, a 12, a 13, a 14]

/-- What validation step 4 of TABLE WRITE finds (R22). -/
inductive Other where
  | none
  | duplicate
  | fault (slot : Nat)
deriving DecidableEq, Repr

/-- Validation step 4 of TABLE WRITE (R22) over the window's slots but the one at the cursor. Every one
of them is read: only a slot fault ends the reading, and it fails the step even if an earlier slot
held the card, as in the lookup that the step is a variant of (R13, log 21). -/
def otherHolder (m : List Host.Cell) (card : CardNumber) : List Nat → Bool → Other
  | [], held => if held then .duplicate else .none
  | s :: rest, held =>
    match Memory.verdict m s with
    | .fault => .fault s
    | .free => otherHolder m card rest held
    | .live r => otherHolder m card rest (held || r.card == card)

/-- The write of TABLE WRITE (R23): step 5, then the content into the slot at the cursor, and the
cursor one on. -/
def State.writeAtCursor (s : State) (content : Vector Word 15) : State × Answer :=
  if s.inPassage s.tableCursor then s.refused .inPassage
  else (s.portWrite s.tableCursor content).advanceTable.served

/-- LIVE content with its overdrawn latch set where its balance is below zero (R23 step 6). -/
def latchContent (r : CardRecord) (content : Vector Word 15) : Vector Word 15 :=
  if r.balance < 0 then content.set 0 (content[0] ||| 256#16) else content

/-- TABLE WRITE as the engine serves it (R22, R23). -/
def serveTableWrite (ws : List Word) (s : State) : State × Answer :=
  let content := contentArg ws
  if stateIndication content[0] = 0 then s.writeAtCursor freeContent
  else if stateIndication content[0] = 1 then
    match decodeRecord content with
    | none => s.refused .badOperand
    | some r =>
      let window := windowSlots s.geometry r.card
      if s.tableCursor ∈ window then
        match otherHolder s.mem r.card (window.filter (· ≠ s.tableCursor)) false with
        | .duplicate => s.refused .duplicate
        | .fault slot => (s.raise .memoryFault (wideSubject slot)).refused .fault
        | .none => s.writeAtCursor (latchContent r content)
      else s.refused .badOperand
  else s.refused .badOperand

/-- What a sweep stops at (R180, R181). -/
inductive Swept where
  | record (slot : Nat) (r : CardRecord)
  | fault (slot : Nat)
  | none
deriving DecidableEq, Repr

/-- The sweep's walk over at most `n` slots from a slot on, wrapping (R179). -/
def sweepFrom (m : List Host.Cell) (g : Geometry) : Nat → Nat → Swept
  | 0, _ => .none
  | n + 1, slot =>
    match Memory.verdict m slot with
    | .fault => .fault slot
    | .free => sweepFrom m g n (g.nextSlot slot)
    | .live r => if r.changed then .record slot r else sweepFrom m g n (g.nextSlot slot)

/-- SWEEP NEXT as the engine serves it (R179 to R181). -/
def serveSweepNext (_ws : List Word) (s : State) : State × Answer :=
  match sweepFrom s.mem s.geometry 256 s.sweepCursor with
  | .record slot r =>
    ({ s.writeRecord slot { r with changed := false } with sweepCursor := s.geometry.nextSlot slot },
      .counted (recordWords r slot 1023))
  | .fault slot =>
    { s.raise .memoryFault (wideSubject slot) with sweepCursor := s.geometry.nextSlot slot }.refused .fault
  | .none => { s with sweepCursor := (s.sweepCursor + 256) % s.geometry.slots }.served

/-- TABLE_SEEK (R20). -/
def execTableSeek (p : Progress) (s : State) : Result := .next (s.runHost .tableSeek serveTableSeek p)

/-- TABLE_READ (R21). -/
def execTableRead (p : Progress) (s : State) : Result := .next (s.runHost .tableRead serveTableRead p)

/-- TABLE_WRITE (R22, R23). -/
def execTableWrite (p : Progress) (s : State) : Result := .next (s.runHost .tableWrite serveTableWrite p)

/-- SWEEP_NEXT (R179). -/
def execSweepNext (p : Progress) (s : State) : Result := .next (s.runHost .sweepNext serveSweepNext p)

end Sys2Proof.Machine
end

