-- ==== Sys2Proof/Machine/Dispatch.lean ====
section
/-! DEFINITION. One arm per command: each calls the meaning of its own. -/

namespace Sys2Proof.Machine

def exec (i : Instr) (s : State) : Host.Outcome State Fault Refusal :=
  match i with
  | .coldReset => Sys2Proof.Machine.execColdReset s
  | .warmReset => Sys2Proof.Machine.execWarmReset s
  | .secondEvent => Sys2Proof.Machine.execSecondEvent s
  | .minuteEvent => Sys2Proof.Machine.execMinuteEvent s
  | .passageTimerExpiry lane => Sys2Proof.Machine.execPassageTimerExpiry lane s
  | .tap lane card => Sys2Proof.Machine.execTap lane card s
  | .passed lane => Sys2Proof.Machine.execPassed lane s
  | .walkaway lane => Sys2Proof.Machine.execWalkaway lane s
  | .cancel lane => Sys2Proof.Machine.execCancel lane s
  | .frameDiscard lane bytes => Sys2Proof.Machine.execFrameDiscard lane bytes s
  | .frameTimeout lane bytes => Sys2Proof.Machine.execFrameTimeout lane bytes s
  | .frameSent lane => Sys2Proof.Machine.execFrameSent lane s
  | .transferBegin => Sys2Proof.Machine.execTransferBegin s
  | .transferComplete kind word => Sys2Proof.Machine.execTransferComplete kind word s
  | .transferVoid => Sys2Proof.Machine.execTransferVoid s
  | .tapDecision pr => Sys2Proof.Machine.execTapDecision pr s
  | .commit pr => Sys2Proof.Machine.execCommit pr s
  | .clearing pr => Sys2Proof.Machine.execClearing pr s
  | .clearingComplete => Sys2Proof.Machine.execClearingComplete s
  | .nop => Sys2Proof.Machine.execNop s
  | .identify => Sys2Proof.Machine.execIdentify s
  | .start k p => Sys2Proof.Machine.execStart k p s
  | .resume => Sys2Proof.Machine.execResume s
  | .halt => Sys2Proof.Machine.execHalt s
  | .continueService => Sys2Proof.Machine.execContinue s
  | .keep => Sys2Proof.Machine.execKeep s
  | .restart => Sys2Proof.Machine.execRestart s
  | .cardAdd pr => Sys2Proof.Machine.execCardAdd pr s
  | .cardFind pr => Sys2Proof.Machine.execCardFind pr s
  | .addValue pr => Sys2Proof.Machine.execAddValue pr s
  | .setBalance pr => Sys2Proof.Machine.execSetBalance pr s
  | .settle pr => Sys2Proof.Machine.execSettle pr s
  | .setProduct pr => Sys2Proof.Machine.execSetProduct pr s
  | .deny pr => Sys2Proof.Machine.execDeny pr s
  | .allow pr => Sys2Proof.Machine.execAllow pr s
  | .cardRetire pr => Sys2Proof.Machine.execCardRetire pr s
  | .enforce pr => Sys2Proof.Machine.execEnforce pr s
  | .tableSeek pr => Sys2Proof.Machine.execTableSeek pr s
  | .tableRead pr => Sys2Proof.Machine.execTableRead pr s
  | .tableWrite pr => Sys2Proof.Machine.execTableWrite pr s
  | .fareSetBase pr => Sys2Proof.Machine.execFareSetBase pr s
  | .fareSetBand pr => Sys2Proof.Machine.execFareSetBand pr s
  | .fareSetClass pr => Sys2Proof.Machine.execFareSetClass pr s
  | .fareSetPolicy pr => Sys2Proof.Machine.execFareSetPolicy pr s
  | .fareRead pr => Sys2Proof.Machine.execFareRead pr s
  | .clockRead => Sys2Proof.Machine.execClockRead s
  | .setTime minute => Sys2Proof.Machine.execSetTime minute s
  | .newDay minute => Sys2Proof.Machine.execNewDay minute s
  | .setDay day minute => Sys2Proof.Machine.execSetDay day minute s
  | .departureDefine departure berth route tag capacity margin followOn autoStart => Sys2Proof.Machine.execDepartureDefine departure berth route tag capacity margin followOn autoStart s
  | .departureOpen departure => Sys2Proof.Machine.execDepartureOpen departure s
  | .departureClose departure => Sys2Proof.Machine.execDepartureClose departure s
  | .departureSetCapacity departure capacity margin => Sys2Proof.Machine.execDepartureSetCapacity departure capacity margin s
  | .departureLink departure followOn => Sys2Proof.Machine.execDepartureLink departure followOn s
  | .departureRead departure mask => Sys2Proof.Machine.execDepartureRead departure mask s
  | .departureRetire departure => Sys2Proof.Machine.execDepartureRetire departure s
  | .berthSetCurrent berth departure => Sys2Proof.Machine.execBerthSetCurrent berth departure s
  | .berthRead => Sys2Proof.Machine.execBerthRead s
  | .laneOpen lane => Sys2Proof.Machine.execLaneOpen lane s
  | .laneClose lane => Sys2Proof.Machine.execLaneClose lane s
  | .laneSet lane berth kind cls timer => Sys2Proof.Machine.execLaneSet lane berth kind cls timer s
  | .laneRead lane => Sys2Proof.Machine.execLaneRead lane s
  | .arbiterMode mode => Sys2Proof.Machine.execArbiterMode mode s
  | .setBottom lane => Sys2Proof.Machine.execSetBottom lane s
  | .pollLanes => Sys2Proof.Machine.execPollLanes s
  | .watchSet pr => Sys2Proof.Machine.execWatchSet pr s
  | .watchClear pr => Sys2Proof.Machine.execWatchClear pr s
  | .watchRead pr => Sys2Proof.Machine.execWatchRead pr s
  | .attentionRead => Sys2Proof.Machine.execAttentionRead s
  | .attentionAck causes => Sys2Proof.Machine.execAttentionAck causes s
  | .attentionMask causes => Sys2Proof.Machine.execAttentionMask causes s
  | .sweepNext pr => Sys2Proof.Machine.execSweepNext pr s
  | .slotDecay slot words => Sys2Proof.Machine.execSlotDecay slot words s
  | .resetLineRelease => Sys2Proof.Machine.execResetLineRelease s

end Sys2Proof.Machine
end

