-- ==== Sys2Proof/Safety.lean ====
section
/-!
DEFINITION. What a safe state of the PG412 is, in the terms the statements use: the laws the manual gives for
every state, each a predicate, and short names for what statements suppose and conclude.
-/

namespace Sys2Proof.Machine

/-! ### Names for suppositions and conclusions -/

/-- The command in EXECUTING, with its operand words. -/
def Phase.executed : Phase → Option (Cmd × List Word)
  | .executing c ws _ => some (c, ws)
  | .ready => none
  | .collecting _ _ _ => none
  | .results _ => none

/-- No host request waits or is served: the link is not in EXECUTING (R166). -/
def State.linkFree (s : State) : Bool := s.link.phase.executed.isNone

/-- A COMMAND word of the host begins a command: the phase is READY or RESULTS (R162, R167). -/
def State.takesCommand (s : State) : Bool :=
  match s.link.phase with
  | .ready => true
  | .results _ => true
  | .collecting _ _ _ => false
  | .executing _ _ _ => false

/-- SERVING, HALTING or HALTED (R165). -/
def State.inService (s : State) : Bool :=
  s.service == .serving || s.service == .halting || s.service == .halted

/-- The state with an answer waiting on the link, the transfer that brought the command ended (R165). -/
def State.answering (s : State) (a : Answer) : State := { s with link := ⟨.results a.entries, none⟩ }

/-- The engine serves a host request of this command with these operands, which has not been served yet,
and no ABORT has met it (R153). -/
def State.hosts (s : State) (c : Cmd) (ws : List Word) : Prop :=
  s.engine = .host ⟨c, ws, none⟩ ∧ s.link.phase = .executing c ws false

/-- The state after the hand-over of an answer: the result queue on the link, the engine free for the next
grant (R153, R132). -/
def State.handed (s : State) (a : Answer) : State :=
  State.settle { s with link := { s.link with phase := .results a.entries }, engine := .idle }

/-- No request stands before the arbiter. -/
def Arbiter.quiet (a : Arbiter) : Bool :=
  (List.finRange 12).all (fun l => !a.tapPending[l] && !a.commitPending[l])
  && !a.hostRequest && !a.clearingRequest

/-- The table's slots of a window hold no fault and one record of the card, at a slot (R11). -/
def State.finds (s : State) (card : CardNumber) (slot : Nat) (r : CardRecord) : Prop :=
  ∃ insert, lookupSlots s.mem card (windowSlots s.geometry card) none none = .found slot r insert

/-- What the lane holds in the engine: the decision, commit, host request or clearing in service. -/
def Engine.decision : Engine → Option Decision
  | .deciding d => some d
  | .idle => none
  | .committing _ => none
  | .host _ => none
  | .clearing _ => none

def Engine.commit : Engine → Option Commit
  | .committing c => some c
  | .idle => none
  | .deciding _ => none
  | .host _ => none
  | .clearing _ => none

def Engine.hostOp : Engine → Option HostOp
  | .host h => some h
  | .idle => none
  | .deciding _ => none
  | .committing _ => none
  | .clearing _ => none

def Engine.clearingAt : Engine → Option Nat
  | .clearing n => some n
  | .idle => none
  | .deciding _ => none
  | .committing _ => none
  | .host _ => none

/-! ### Attention (R172 to R174) -/

/-- The attention unit's own law: pending exactly when the count is above 0, counts at most 255, a clear
cause with a zero subject, and the line asserted exactly when some cause is pending and not masked. -/
def Attention.Consistent (a : Attention) : Prop :=
  (∀ n : Fin 11, ((a.causes[n]).pending = true ↔ 0 < (a.causes[n]).count)
    ∧ (a.causes[n]).count ≤ 255
    ∧ ((a.causes[n]).count = 0 → (a.causes[n]).subject = (0, 0)))
  ∧ (a.line = true ↔ ∃ n : Fin 11, (a.causes[n]).pending = true ∧ a.mask.getLsbD n.val = false)

/-! ### Ranges (R6, R19, R49, R71, R146, R183) -/

/-- k in 10..18 and P in 1..8 (R6). -/
def Geometry.Legal (g : Geometry) : Prop := 10 ≤ g.k ∧ g.k ≤ 18 ∧ 1 ≤ g.p ∧ g.p ≤ 8

/-- The clock within its ranges (R71). -/
def Clock.Legal (c : Clock) : Prop := c.day ≤ 65535 ∧ c.minute ≤ 1919 ∧ c.second ≤ 59

/-- Every entry of the fare tables within its range, the used bands with rising starts (R49). -/
def FareTables.Legal (t : FareTables) : Prop :=
  (∀ i : Fin 32, t.base[i] ≤ 60000)
  ∧ (∀ b : Fin 6, ((t.bands[b]).start ≤ 1919 ∨ (t.bands[b]).start = 65535)
      ∧ ∀ f : Fin 4, (t.bands[b]).rates[f] ≤ 65535)
  ∧ (t.bands[(0 : Fin 6)]).start = 0
  ∧ (∀ a b : Fin 6, a < b → bandUsed a t.bands[a] = true → bandUsed b t.bands[b] = true →
      (t.bands[a]).start < (t.bands[b]).start)
  ∧ (∀ f : Fin 4, t.caps[f] ≤ 65000 ∧ t.allowances[f] ≤ 5000)
  ∧ t.transferWindow ≤ 240 ∧ t.lowThreshold ≤ 65000

/-- Present watch entries name valid cards, no two the same (R146). -/
def WatchLegal (w : Vector (Option WatchEntry) 4) : Prop :=
  ∀ i : Fin 4, ∀ e, w[i] = some e → validCard e.card = true ∧
    ∀ j : Fin 4, ∀ f, w[j] = some f → f.card = e.card → j = i

/-- The keep flag is valid only in the states of R183, over the geometry in force. -/
def State.KeepLegal (s : State) : Prop :=
  s.keepValid = true →
    s.kept = s.geometry ∧ s.service ≠ .unstarted ∧ s.service ≠ .clearing

/-- The settings of the part within their ranges. -/
def State.SettingsLegal (s : State) : Prop :=
  s.geometry.Legal ∧ s.kept.Legal ∧ s.tableCursor < s.geometry.slots ∧ s.sweepCursor < s.geometry.slots
  ∧ s.KeepLegal ∧ s.clock.Legal ∧ s.fares.Legal ∧ WatchLegal s.watch

/-! ### Lanes, requests and the engine (R104 to R107, R112, R129 to R132, R184) -/

/-- A frame in reception is the beginning of a gate's frame, and at most one second event has been taken
since its start byte (R126, R196). -/
def Reception.legal (r : Reception) : Bool :=
  decide (r.seconds ≤ 1) && hear none (⟨frameStart, true⟩ :: framed r.bytes) == ⟨some ⟨r.bytes, 0⟩, 0, []⟩

/-- What a lane port holds in each of its states (R104 to R107, R112), and in reception (R126). -/
def LanePort.Coherent (p : LanePort) : Prop :=
  (p.tapped.isSome = true ↔ p.state = .pending ∨ p.state = .deciding)
  ∧ (p.openVerdict.isSome = true ↔ p.state = .awaiting ∨ p.state = .committing)
  ∧ (p.state = .awaiting → 1 ≤ p.secondsLeft ∧ p.secondsLeft ≤ p.timer)
  ∧ (p.state ≠ .awaiting → p.secondsLeft = 0)
  ∧ (p.cancelNoted = true → p.state = .deciding)
  ∧ (p.closeRequested = true → p.inHand = true)
  ∧ (p.expiredLast = true → p.state = .down ∨ p.state = .idle)
  ∧ 1 ≤ p.timer ∧ p.timer ≤ 60 ∧ p.queue.length ≤ 4
  ∧ p.reception.all Reception.legal = true

/-- A decision in service has what its next stage needs: a record from the in-passage stage on, a hold
from the fare stage on; a refused one is at its end (R137, R145). -/
def Decision.Coherent (d : Decision) : Prop :=
  if d.refusal.isSome then d.stage = .decisionEnd
  else
    (d.record.isSome = true ↔ d.stage ≠ .watch ∧ d.stage ≠ .lookup ∧ d.stage ≠ .unknown)
    ∧ (d.hold.isSome = true ↔ d.stage = .fare ∨ d.stage = .write ∨ d.stage = .decisionEnd)

/-- Lanes, arbiter, engine, link and service state agree: each request stands for a lane or a command that
waits for it, each operation in service for the one it serves, and no request stands beside an idle
engine (R106, R129, R131, R132); the service state is the one the lanes and the engine allow (R184,
R189, R192). -/
def State.Coherent (s : State) : Prop :=
  (∀ l : Lane, (s.lane l).Coherent)
  ∧ (∀ l : Lane, s.arbiter.tapPending[l] = true ↔ (s.lane l).state = .pending)
  ∧ (∀ l : Lane, (s.lane l).state = .deciding ↔ s.engine.decision.map (·.lane) = some l)
  ∧ (∀ l : Lane, s.arbiter.commitPending[l] = true ↔
      (s.lane l).state = .committing ∧ s.engine.commit.map (·.lane) ≠ some l)
  ∧ (∀ l : Lane, s.engine.commit.map (·.lane) = some l → (s.lane l).state = .committing)
  ∧ (∀ d, s.engine = .deciding d → d.Coherent)
  ∧ (s.arbiter.hostRequest = true → s.linkFree = false ∧ s.engine.hostOp = none)
  ∧ (∀ h, s.engine = .host h → s.link.phase.executed = some (h.cmd, h.words))
  ∧ (s.linkFree = false → s.arbiter.hostRequest = true ∨ s.engine.hostOp ≠ none)
  ∧ s.arbiter.clearingRequest = false
  ∧ (s.engine = .idle → s.arbiter.quiet = true)
  ∧ (s.service = .clearing ↔ s.engine.clearingAt ≠ none)
  ∧ (s.service = .halting → s.lanesInHand ≠ 0)
  ∧ (s.service = .halted → s.lanesInHand = 0)
  ∧ (s.service ≠ .serving → ∀ l : Lane, (s.lane l).state ≠ .pending)
  ∧ (s.inService = false → ∀ l : Lane, (s.lane l).state = .down)

/-! ### Departures and holds (R81 to R92) -/

/-- The commit in service has already counted this lane's passenger (R150). -/
def State.counted (s : State) (l : Lane) : Bool :=
  s.engine.commit.elim false fun c => c.lane == l && c.stage != .count

/-- The lane's open verdict stands for a hold on the departure. -/
def State.laneHolds (s : State) (d : DepIx) (l : Lane) : Bool :=
  ((s.lane l).openVerdict.elim false fun v => v.departure == d) && !s.counted l

/-- The decision in service owns a hold on the departure (R142). -/
def Decision.ownsHold (x : Decision) (d : DepIx) : Bool :=
  x.refusal.isNone && x.hold.elim false fun h => h.departure == d

/-- The holds taken on a departure and not yet committed or released (R89). -/
def State.outstanding (s : State) (d : DepIx) : Nat :=
  ((List.finRange 12).countP fun l => s.laneHolds d l)
  + s.engine.decision.elim 0 fun x => if x.ownsHold d then 1 else 0

/-- A departure record within the ranges of R81, its near-full report armed above the margin (R91). -/
def Departure.Legal (r : Departure) : Prop :=
  r = Departure.reset
  ∨ (r.state ≠ .empty ∧ 1 ≤ r.capacity ∧ r.capacity ≤ 400 ∧ r.margin ≤ r.capacity
    ∧ r.boarded + r.held ≤ r.capacity ∧ r.takings ≤ 4294967295
    ∧ (r.margin < r.remaining → r.armed = true)
    ∧ (r.state = .scheduled → r.boarded = 0 ∧ r.held = 0))

/-- Each departure is legal, and held counts exactly the holds outstanding on it. -/
def State.HoldsCounted (s : State) : Prop :=
  ∀ d : DepIx, (s.dep d).Legal ∧ (s.dep d).held = s.outstanding d

/-- A present current departure belongs to its berth and is SCHEDULED or BOARDING (R82); a follow-on is
another departure of the same berth, not EMPTY (R94, R98, R100). -/
def State.BerthsLegal (s : State) : Prop :=
  (∀ b : Berth, ∀ d : DepIx, s.berth b = some d →
    (s.dep d).berth = b ∧ ((s.dep d).state = .scheduled ∨ (s.dep d).state = .boarding))
  ∧ (∀ d f : DepIx, (s.dep d).followOn = some f →
    f ≠ d ∧ (s.dep d).state ≠ .empty ∧ (s.dep f).state ≠ .empty ∧ (s.dep f).berth = (s.dep d).berth)

/-! ### Open verdicts (R140) -/

/-- The decision is past the in-passage stage and not refused. -/
def Decision.passedInPassage (d : Decision) : Bool :=
  d.refusal.isNone &&
    (d.stage == .deny || d.stage == .latch || d.stage == .passDays || d.stage == .hold || d.stage == .fare
      || d.stage == .write || d.stage == .decisionEnd)

/-- No card slot is named by the open verdicts of two lanes, nor by one lane and a decision that has passed
the in-passage stage (R140). -/
def State.OneVerdictPerSlot (s : State) : Prop :=
  (∀ l m : Lane, ∀ slot, (s.lane l).holdsSlot slot = true → (s.lane m).holdsSlot slot = true → l = m)
  ∧ (∀ d, s.engine = .deciding d → d.passedInPassage = true → s.inPassage d.slot = false)

/-! ### The card table (R10, R12) -/

/-- A slot reads LIVE with a record of the card. -/
def State.holdsCard (s : State) (slot : Nat) (card : CardNumber) : Prop :=
  ∃ r, Memory.verdict s.mem slot = .live r ∧ r.card = card

/-- The two properties of R10: every LIVE slot lies in its card's window, and no card is held twice. -/
def State.TablePlaced (s : State) : Prop :=
  ∀ slot card, slot < s.geometry.slots → s.holdsCard slot card →
    slot ∈ windowSlots s.geometry card ∧ ∀ other, other < s.geometry.slots → s.holdsCard other card → other = slot

/-- A slot is FREE in the card's window, and no slot of the table holds the card: where a new record of the
card may be written (R12). -/
def State.insertable (s : State) (slot : Nat) (card : CardNumber) : Prop :=
  slot ∈ windowSlots s.geometry card ∧ slot < s.geometry.slots ∧ Memory.verdict s.mem slot = .free
  ∧ ∀ other, other < s.geometry.slots → ¬ s.holdsCard other card

/-- What a decision in service carries agrees with the table (R12, R37, R137). -/
def Decision.Grounded (d : Decision) (s : State) : Prop :=
  (d.stage = .unknown → ∀ slot, d.lookup = some (.notFound (some slot)) → s.insertable slot d.card)
  ∧ (d.built = true → d.wrote = false → s.insertable d.slot d.card ∧ ∀ r, d.record = some r → r.card = d.card)
  ∧ (d.stage = .watch ∨ d.stage = .lookup → d.built = false)

/-- The table and the operation in service on it: R10 in the states that serve the table, FREE slots behind
a clearing, insert slots and charged records as their operations found them. -/
def State.TableSound (s : State) : Prop :=
  (s.service ≠ .unstarted → s.service ≠ .clearing → s.TablePlaced)
  ∧ (∀ n, s.engine = .clearing n → ∀ slot, slot < n → slot < s.geometry.slots → Memory.verdict s.mem slot = .free)
  ∧ (∀ d, s.engine = .deciding d → d.Grounded s)
  ∧ (∀ c v r, s.engine = .committing c → (s.lane c.lane).openVerdict = some v → c.record = some r →
      c.stage = .charge ∨ c.stage = .write → s.holdsCard v.slot r.card)

/-! ### The station link (R158, R167) -/

/-- A DATA entry. -/
def Entry.isData : Entry → Bool
  | .data _ => true
  | .done _ => false
  | .reject _ => false

/-- The link within the ranges of R158: operands still expected with those received make the command's
number, and a result queue of 1 to 64 entries, DATA but for the closing one, which is last. -/
def Link.Legal (k : Link) : Prop :=
  match k.phase with
  | .ready => True
  | .collecting c n ws => 1 ≤ n ∧ n + ws.length = c.operands
  | .executing c ws _ => c.isEngine = true ∧ ws.length = c.operands
  | .results q => ∃ data closing, q = data ++ [closing] ∧ data.all Entry.isData = true
      ∧ closing.isData = false ∧ data.length ≤ 63


/-- An outcome that the result queue can hold: at most 63 DATA words before the closing entry (R158). -/
def Answer.Legal : Answer → Prop
  | .done data _ => data.length ≤ 63
  | .reject _ => True

/-- The link within its ranges, and the outcome that a served host request will hand it (R153, R158). -/
def State.LinkLegal (s : State) : Prop :=
  s.link.Legal ∧ ∀ h a, s.engine = .host h → h.answer = some a → a.Legal

/-! ### What the resets leave (R50, R81, R104, R128, R131, R133, R146, R158, R172, R186, R187) -/

/-- Fare tables with every entry 0 (R50). -/
def FareTables.Cleared (t : FareTables) : Prop :=
  (∀ i : Fin 32, t.base[i] = 0)
  ∧ (∀ b : Fin 6, (t.bands[b]).start = 0 ∧ ∀ f : Fin 4, (t.bands[b]).rates[f] = 0)
  ∧ (∀ f : Fin 4, t.caps[f] = 0 ∧ t.allowances[f] = 0)
  ∧ t.transferWindow = 0 ∧ t.lowThreshold = 0 ∧ t.policy = .refuse ∧ t.provisionalClass = 0

/-- An EMPTY departure holds these values (R81). -/
def Departure.Empty (r : Departure) : Prop :=
  r.state = .empty ∧ r.berth = 0 ∧ r.route = 0 ∧ r.tag = 0 ∧ r.capacity = 0 ∧ r.boarded = 0 ∧ r.held = 0
  ∧ r.margin = 0 ∧ r.armed = false ∧ r.followOn = none ∧ r.autoStart = false ∧ r.takings = 0

/-- Every departure EMPTY and every berth's current absent (R103). -/
def State.PierEmpty (s : State) : Prop := (∀ d : DepIx, (s.dep d).Empty) ∧ ∀ b : Berth, s.berth b = none

/-- A lane port after a cold or warm reset (R104), one LANE STATE CLOSED queued and no frame in reception
(R128); nothing has been sent since (log 16). -/
def LanePort.AtReset (p : LanePort) : Prop :=
  p.berth = 0 ∧ p.kind = .sensed ∧ p.cls = .ordinary ∧ p.timer = 10 ∧ p.state = .down
  ∧ p.closeRequested = false ∧ p.cancelNoted = false ∧ p.expiredLast = false
  ∧ p.tapped = none ∧ p.openVerdict = none ∧ p.secondsLeft = 0
  ∧ p.queue = [.laneState false] ∧ p.reception = none ∧ p.lineOut = []

/-- No request, FIXED, no last-served lane (R131, R133). -/
def Arbiter.Cleared (a : Arbiter) : Prop :=
  (∀ l : Lane, a.tapPending[l] = false ∧ a.commitPending[l] = false)
  ∧ a.hostRequest = false ∧ a.clearingRequest = false
  ∧ a.mode = .fixed ∧ a.lastOrdinary = none ∧ a.lastAssisted = none

/-- Every cause clear, the mask empty, the line released (R172, R174). -/
def Attention.Cleared (a : Attention) : Prop :=
  (∀ n : Fin 11, a.causes[n] = ⟨false, 0, (0, 0)⟩) ∧ a.mask = 0 ∧ a.line = false

/-- The blocks that every reset takes to their reset values (R187). -/
def State.BlocksReset (s : State) : Prop :=
  s.tableCursor = 0 ∧ s.sweepCursor = 0
  ∧ (∀ l : Lane, (s.lane l).AtReset) ∧ s.arbiter.Cleared ∧ s.engine = .idle
  ∧ (∀ e : WatchIx, s.watch[e] = none) ∧ s.link = ⟨.ready, none⟩ ∧ s.attention.Cleared

/-- `t` is `s` after a warm reset: the list of R187, with the table of R103 for the departures. That the queue of
waiting commands and the count of free choices stay is the model's choice (log 17). -/
def State.WarmResetOf (s t : State) : Prop :=
  t.BlocksReset
  ∧ t.keepValid = s.keepValid ∧ t.kept = s.kept ∧ t.clock = s.clock ∧ t.mem = s.mem
  ∧ t.pending = s.pending ∧ t.freeCount = s.freeCount
  ∧ (s.keepValid = true →
      t.service = .resumable ∧ t.geometry = s.kept ∧ t.fares = s.fares ∧ t.enforce = s.enforce
      ∧ (∀ b : Berth, t.berth b = s.berth b)
      ∧ ∀ d : DepIx, t.dep d =
          { s.dep d with
            held := 0
            armed := (s.dep d).armed || decide ((s.dep d).margin < (s.dep d).capacity - (s.dep d).boarded) })
  ∧ (s.keepValid = false →
      t.service = .unstarted ∧ t.geometry = ⟨10, 1⟩ ∧ t.fares.Cleared ∧ t.enforce = false ∧ t.PierEmpty)

/-! ### Messages, releases and endings at a lane (R88, R89, R110, R113, R127) -/

/-- A transmit queue to which messages are offered in order: those that find four in it are discarded. -/
def offered (q ms : List Message) : List Message := (q ++ ms).take (max 4 q.length)

/-- How many of `n` messages offered to a queue are discarded. -/
def dropped (q : List Message) (n : Nat) : Nat := q.length + n - max 4 q.length

/-- An attention unit after a number of occurrences of one cause with one subject. -/
def Attention.occurs (a : Attention) (c : Cause) (x : Subject) (n : Nat) : Attention :=
  (fun b : Attention => b.occur c x)^[n] a

/-- The LANE STATE CLOSED that follows the last message of a lane that was to close. -/
def LanePort.closing (p : LanePort) : List Message := if p.closeRequested then [.laneState false] else []

/-- A departure after one release (R88, R89, R91). -/
def Departure.released (r : Departure) : Departure :=
  if r.state = .empty then r
  else { r with
    held := r.held - 1
    armed := r.armed || decide (r.margin < r.capacity - r.boarded - (r.held - 1)) }

/-- A lane whose open verdict has ended without a passage (R110, R113). -/
def LanePort.ended (p : LanePort) (answer : Answered) (expired : Bool) : LanePort :=
  { p with
    state := if p.closeRequested then .down else .idle
    closeRequested := false
    openVerdict := none
    secondsLeft := 0
    expiredLast := p.expiredLast || expired
    queue := offered p.queue (.passageAnswer answer :: p.closing) }

/-- The open verdict of the lane names the departure. -/
def LanePort.names (p : LanePort) (d : DepIx) : Bool := p.openVerdict.elim false fun v => v.departure == d

/-- `t` is `s` after the open verdict of an AWAITING lane has ended without a passage (R110, R113): its
lane, the departure it named, LANE FAULT for messages that found no room, HALTED when R184 gives it, and
nothing else. -/
def State.EndedUnpassed (s t : State) (l : Lane) (answer : Answered) (expired : Bool) : Prop :=
  t.lane l = (s.lane l).ended answer expired
  ∧ (∀ k : Lane, k ≠ l → t.lane k = s.lane k)
  ∧ (∀ d : DepIx, t.dep d = if (s.lane l).names d then (s.dep d).released else s.dep d)
  ∧ t.attention = s.attention.occurs .laneFault (numberSubject l.val)
      (dropped (s.lane l).queue (1 + (s.lane l).closing.length))
  ∧ t.service = (if s.service = .halting ∧ t.lanesInHand = 0 then .halted else s.service)
  ∧ t = { s with lanes := t.lanes, departures := t.departures, attention := t.attention, service := t.service }

/-- The timer of the lane expires at the next second event (R112). -/
def LanePort.expires (p : LanePort) : Bool := p.state == .awaiting && decide (p.secondsLeft ≤ 1)

/-- The frame in reception after a second event: the first since its start byte is counted, the second
discards the frame (R126). -/
def receptionTicked : Option Reception → Option Reception
  | none => none
  | some r => if r.seconds = 0 then some ⟨r.bytes, 1⟩ else none

/-- A lane port after a second event (R112, R113, R126). -/
def LanePort.ticked (p : LanePort) : LanePort :=
  let timed :=
    if p.expires then p.ended .expired true
    else if p.state = .awaiting then { p with secondsLeft := p.secondsLeft - 1 }
    else p
  { timed with reception := receptionTicked p.reception }

/-- The occurrences of LANE FAULT that a lane raises at a second event: one for each message that finds no room
and one for a frame that is discarded. -/
def LanePort.tickFaults (p : LanePort) : Nat :=
  (if p.expires then dropped p.queue (1 + p.closing.length) else 0)
  + if p.reception.isSome = true ∧ receptionTicked p.reception = none then 1 else 0

/-- How many expiring lanes release a departure at a second event. -/
def State.expiring (s : State) (d : DepIx) : Nat :=
  (List.finRange 12).countP fun l => (s.lane l).expires && (s.lane l).names d

/-- The clock after a second event (R72, R73). -/
def Clock.afterSecond (k : Clock) : Clock :=
  if k.second + 1 < 60 then { k with second := k.second + 1 }
  else ⟨k.day, if k.minute < 1919 then k.minute + 1 else k.minute, 0⟩

/-- A second event brings the minute to 1,919 (R73). -/
def Clock.reachesHold (k : Clock) : Bool := decide (60 ≤ k.second + 1) && decide (k.minute = 1918)

/-! ### Slots stored (R1, R3) -/

/-- `n` is `m` with one slot written: fifteen words and their check word, every byte outside the slot
reading as before. -/
def StoresSlot (m n : List Host.Cell) (slot : Nat) (content : Vector Word 15) : Prop :=
  Memory.readSlot n slot = withCheck content ∧ Memory.wf n = true
  ∧ ∀ a, a / 32 ≠ slot → Memory.read n a = Memory.read m a

/-! ### A tap decision as the manual states it (R85, R86, R137 to R145) -/

/-- The departure on which a hold request at a berth lands, or why it lands on none (R85, R86). -/
def State.holdTarget (s : State) (b : Berth) : Except Reason DepIx :=
  match s.berth b with
  | none => .error .noBoarding
  | some d =>
    if (s.dep d).state ≠ .boarding then .error .noBoarding
    else if 0 < (s.dep d).remaining then .ok d
    else match (s.dep d).followOn with
    | none => .error .full
    | some f =>
      if (s.dep f).state = .boarding ∧ 0 < (s.dep f).remaining then .ok f
      else if (s.dep f).state = .scheduled ∧ (s.dep f).autoStart = true then .ok f
      else .error .full

/-- A decision that the engine has just begun: stage 1 taken, nothing else done (R137). -/
def Decision.Fresh (d : Decision) : Prop :=
  d.stage = .watch ∧ d.refusal = none ∧ d.hold = none ∧ d.record = none ∧ d.built = false
  ∧ d.wrote = false ∧ d.transfer = false ∧ d.fare = FareFields.zero

/-- The slot and record that a decision works on, with the mark that it built the record, or the reason
why it has none (R139). -/
def State.tapRecord (s : State) (d : Decision) : Except Reason (Nat × CardRecord × Bool) :=
  match lookupSlots s.mem d.card (windowSlots s.geometry d.card) none none with
  | .fault _ => .error .fault
  | .found slot r _ => .ok (slot, r, false)
  | .notFound insert =>
    match s.fares.policy, insert with
    | .refuse, _ => .error .unknownCard
    | .provisional, none => .error .tableFull
    | .provisional, some slot => .ok (slot, provisionalRecord s.fares d.card d.day, true)

/-- The charge and the transfer-applied mark of a decision on a record and a departure (R57). -/
def State.tapCharge (s : State) (d : Decision) (r : CardRecord) (x : DepIx) : Nat × Bool :=
  fareCharge s.fares r (s.dep x).route d.day d.minute

/-- Why a tap is refused, in the order of the stages (R138 to R143); nothing where the result is OPEN. -/
def State.tapReason (s : State) (d : Decision) : Option Reason :=
  if (List.finRange 4).any fun e => s.watch[e] == some ⟨d.card, .hold⟩ then some .watch
  else match s.tapRecord d with
  | .error reason => some reason
  | .ok (slot, r, _) =>
    if s.inPassage slot then some .inPassage
    else if r.deny && s.enforce then some .denied
    else if r.product = .purse ∧ r.latch = true then some .overdrawn
    else if r.product = .pass ∧ (d.day < r.passFirst ∨ r.passLast < d.day) then some .passNotValid
    else match s.holdTarget (s.lane d.lane).berth with
    | .error reason => some reason
    | .ok x => if fareSufficient s.fares r (s.tapCharge d r x).1 then none else some .insufficient

/-- The events of a departure on which a hold has landed, in their order (R86, R91, R92). -/
def State.holdEvents (s : State) (x : DepIx) (a : Attention) : Attention :=
  let r := s.dep x
  let rest := r.capacity - r.boarded - (r.held + 1)
  let near := r.margin < r.remaining ∧ rest ≤ r.margin ∧ 0 < r.margin ∧ r.armed = true
  ((a.occurs .followOnStarted (0, word x.val) (if r.state = .scheduled then 1 else 0)).occurs
    .nearFull (0, word x.val) (if near then 1 else 0)).occurs
    .departureFull (0, word x.val) (if 0 < r.remaining ∧ rest = 0 then 1 else 0)

/-- The attention unit after the watch stage: WATCH HIT with the lane and the entry that names the card, in
either mode (R138). -/
def State.watchEvents (s : State) (d : Decision) : Attention :=
  match (List.finRange 4).find? fun e => s.watch[e].elim false fun x => x.card == d.card with
  | some e => s.attention.occur .watchHit (word d.lane.val, word e.val)
  | none => s.attention

/-- The attention unit after the lookup and the unknown-card stage: MEMORY FAULT with the slot that faulted, or
TABLE FULL with the home bucket (R5, R139). -/
def State.lookupEvents (s : State) (d : Decision) : Attention :=
  match lookupSlots s.mem d.card (windowSlots s.geometry d.card) none none with
  | .fault slot => (s.watchEvents d).occur .memoryFault (wideSubject slot)
  | .found _ _ _ => s.watchEvents d
  | .notFound (some _) => s.watchEvents d
  | .notFound none =>
    match s.fares.policy with
    | .refuse => s.watchEvents d
    | .provisional => (s.watchEvents d).occur .tableFull (wideSubject (homeBucket s.geometry d.card))

/-- The attention unit after the stages of a decision, before its end: a HOLD entry ends it before the lookup,
and the events of a hold that landed stand whatever follows, since a release raises none (R88, R138, R142). -/
def State.tapEvents (s : State) (d : Decision) : Attention :=
  match s.tapReason d, s.holdTarget (s.lane d.lane).berth with
  | some .watch, _ => s.watchEvents d
  | some .insufficient, .ok x => s.holdEvents x (s.lookupEvents d)
  | none, .ok x => s.holdEvents x (s.lookupEvents d)
  | _, _ => s.lookupEvents d

/-- A lane that a decision end has refused with a verdict (R115). -/
def LanePort.turnedAway (p : LanePort) (reason : Reason) (f : FareFields) : LanePort :=
  { p with
    tapped := none
    cancelNoted := false
    state := if p.closeRequested then .down else .idle
    closeRequested := false
    queue := offered p.queue (.refuse reason f :: p.closing) }

/-- A departure on which a hold has landed: BOARDING, held one higher, and its near-full report spent where
remaining falls to the margin, armed where it lies above (R85, R86, R91). -/
def Departure.withHold (r : Departure) : Departure :=
  let rest := r.capacity - r.boarded - (r.held + 1)
  let near := r.margin < r.remaining ∧ rest ≤ r.margin ∧ 0 < r.margin ∧ r.armed = true
  { r with
    state := .boarding
    held := r.held + 1
    armed := if near then false else r.armed || decide (r.margin < rest) }

/-- The departures after a decision that gives no OPEN verdict: one on which a hold landed has had it released, and
no other has changed (R88, R142, R143, R145). -/
def State.heldAndReleased (s : State) (d : Decision) : Vector Departure 16 :=
  match s.tapReason d, s.holdTarget (s.lane d.lane).berth with
  | some .insufficient, .ok x => s.departures.set x.val (s.dep x).withHold.released
  | none, .ok x => s.departures.set x.val (s.dep x).withHold.released
  | _, _ => s.departures

/-- The memory after a decision: with the provisional record that an OPEN result has earned (R144). -/
def State.tapMemory (s : State) (d : Decision) : List Host.Cell :=
  match s.tapReason d, s.tapRecord d with
  | none, .ok (slot, r, true) => Memory.writeSlot s.mem slot (encodeRecord r)
  | _, _ => s.mem

/-- The fare fields of a refusal: zero, but for INSUFFICIENT, which shows its charge and the balance as it stands
(R67, R143). -/
def State.refusalFields (s : State) (d : Decision) (reason : Reason) : FareFields :=
  match reason, s.tapRecord d, s.holdTarget (s.lane d.lane).berth with
  | .insufficient, .ok (_, r, _), .ok x =>
    ⟨(s.tapCharge d r x).1, saturateDisplay r.balance, displayClamped r.balance,
      displayLow s.fares.lowThreshold r.balance⟩
  | _, _, _ => FareFields.zero

/-- A lane brought to rest by the end of the engine's operation for it, the engine IDLE again, and HALTED where the
lane was the last in hand (R115, R118, R129, R184). What follows is the arbiter's next grant, `State.settle`. -/
def State.engineEnds (s : State) (l : Lane) (p : LanePort) : State :=
  let t := { s with lanes := s.lanes.set l.val p, engine := .idle }
  { t with service := if s.service = .halting ∧ t.lanesInHand = 0 then .halted else s.service }

/-! ### The charge of a commit as the manual states it (R33, R47, R48) -/

/-- The journey after a commit (R47 step 4). -/
def journeyAfter (v : OpenVerdict) (old : Option Journey) : Journey :=
  match old with
  | some j =>
    if v.transfer then { j with paid := min (j.paid + v.charge) 16777215, route := v.route }
    else ⟨v.day, v.minute, v.route, v.charge⟩
  | none => ⟨v.day, v.minute, v.route, v.charge⟩

/-- The record that a commit writes, for the allowance and the service day it reads (R47, R48). -/
def chargedRecord (r : CardRecord) (v : OpenVerdict) (allowance day : Nat) : CardRecord :=
  let boardings := min (r.boardings + 1) 65535
  if r.product = .purse then
    let balance := max (r.balance - v.charge) (-(allowance : Int))
    { r with
      balance := balance
      latch := r.latch || decide (balance < 0)
      capDay := day
      daySpend := min ((if r.capDay = day then r.daySpend else 0) + v.charge) 16777215
      journey := some (journeyAfter v r.journey)
      boardings := boardings
      changed := true }
  else { r with boardings := boardings, changed := true }

/-- A departure after a commit of count (R90). -/
def Departure.boardedOne (r : Departure) (charge : Nat) : Departure :=
  { r with held := r.held - 1, boarded := r.boarded + 1, takings := min (r.takings + charge) 4294967295 }

/-- A lane after a commit end (R118). -/
def LanePort.finished (p : LanePort) : LanePort :=
  { p with
    state := if p.closeRequested then .down else .idle
    closeRequested := false
    openVerdict := none
    queue := offered p.queue
      ((match p.kind with
        | .sensed => [.passageAnswer .taken]
        | .unsensed => []) ++ p.closing) }

/-! ### The operand words of CARD ADD (R39) -/

/-- The eighteen operand words of CARD ADD decode and lie within their ranges: the card number, the product and class
word, the flags word, the balance, the pass days of a PASS, the day spend, the paid so far, and the start minute and
route class of the journey where its present bit is set (R39, R195). The paid so far is judged whether the journey is
present or not, as R195 decodes every operand before R39 checks it (log 24). -/
def cardAddInRange (ws : List Word) : Bool :=
  let n := fun i => (arg ws i).toNat
  let balance := ofTwoWordsSigned (arg ws 5) (arg ws 6)
  validCard (cardArg ws) && decide (n 3 / 256 ≤ 2) && decide (n 3 % 256 ≤ 3) && decide (n 4 ≤ 31)
  && decide (-5000 ≤ balance) && decide (balance ≤ 999999)
  && (decide (n 3 / 256 ≠ 1) || decide (n 7 ≤ n 8)) && decide (n 10 ≤ 255) && decide (n 15 ≤ 255)
  && (!(arg ws 4).getLsbD 4 || (decide (n 13 ≤ 1919) && decide (n 14 ≤ 7)))

/-- The record that the eighteen operand words of CARD ADD give (R26, R29, R39): the provisional and changed bits
of the flags word ignored, the pass days zero but for a PASS, no journey without its present bit, the latch set
for a balance below zero. -/
def cardAddGives (ws : List Word) : CardRecord :=
  let n := fun i => (arg ws i).toNat
  let balance := ofTwoWordsSigned (arg ws 5) (arg ws 6)
  { card := cardArg ws
    product := if n 3 / 256 = 0 then .purse else if n 3 / 256 = 1 then .pass else .staff
    fareClass := Fin.ofNat 4 (n 3 % 256)
    provisional := false
    deny := (arg ws 4).getLsbD 1
    latch := (arg ws 4).getLsbD 2 || decide (balance < 0)
    changed := false
    balance := balance
    passFirst := if n 3 / 256 = 1 then n 7 else 0
    passLast := if n 3 / 256 = 1 then n 8 else 0
    capDay := n 9
    daySpend := 65536 * n 10 + n 11
    journey := if (arg ws 4).getLsbD 4 then some ⟨n 12, n 13, Fin.ofNat 8 (n 14), 65536 * n 15 + n 16⟩ else none
    boardings := n 17 }

/-! ### The rows of the commands of the link (8.8) -/

/-- The row of a DIRECT command with its operand words; nothing for an ENGINE command. -/
def directRow (k : Cmd) (ws : List Word) : Option Instr :=
  let a := arg ws
  match k with
  | .nop => some .nop
  | .identify => some .identify
  | .start => some (.start (a 0) (a 1))
  | .resume => some .resume
  | .halt => some .halt
  | .continueService => some .continueService
  | .keep => some .keep
  | .restart => some .restart
  | .clockRead => some .clockRead
  | .setTime => some (.setTime (a 0))
  | .newDay => some (.newDay (a 0))
  | .setDay => some (.setDay (a 0) (a 1))
  | .departureDefine => some (.departureDefine (a 0) (a 1) (a 2) (a 3) (a 4) (a 5) (a 6) (a 7))
  | .departureOpen => some (.departureOpen (a 0))
  | .departureClose => some (.departureClose (a 0))
  | .departureSetCapacity => some (.departureSetCapacity (a 0) (a 1) (a 2))
  | .departureLink => some (.departureLink (a 0) (a 1))
  | .departureRead => some (.departureRead (a 0) (a 1))
  | .departureRetire => some (.departureRetire (a 0))
  | .berthSetCurrent => some (.berthSetCurrent (a 0) (a 1))
  | .berthRead => some .berthRead
  | .laneOpen => some (.laneOpen (a 0))
  | .laneClose => some (.laneClose (a 0))
  | .laneSet => some (.laneSet (a 0) (a 1) (a 2) (a 3) (a 4))
  | .laneRead => some (.laneRead (a 0))
  | .arbiterMode => some (.arbiterMode (a 0))
  | .setBottom => some (.setBottom (a 0))
  | .pollLanes => some .pollLanes
  | .attentionRead => some .attentionRead
  | .attentionAck => some (.attentionAck (a 0))
  | .attentionMask => some (.attentionMask (a 0))
  | _ => none

/-- The row of an ENGINE command; nothing for a DIRECT command. -/
def engineRow (k : Cmd) (p : Progress) : Option Instr :=
  match k with
  | .cardAdd => some (.cardAdd p)
  | .cardFind => some (.cardFind p)
  | .addValue => some (.addValue p)
  | .setBalance => some (.setBalance p)
  | .settle => some (.settle p)
  | .setProduct => some (.setProduct p)
  | .deny => some (.deny p)
  | .allow => some (.allow p)
  | .cardRetire => some (.cardRetire p)
  | .enforce => some (.enforce p)
  | .tableSeek => some (.tableSeek p)
  | .tableRead => some (.tableRead p)
  | .tableWrite => some (.tableWrite p)
  | .fareSetBase => some (.fareSetBase p)
  | .fareSetBand => some (.fareSetBand p)
  | .fareSetClass => some (.fareSetClass p)
  | .fareSetPolicy => some (.fareSetPolicy p)
  | .fareRead => some (.fareRead p)
  | .watchSet => some (.watchSet p)
  | .watchClear => some (.watchClear p)
  | .watchRead => some (.watchRead p)
  | .sweepNext => some (.sweepNext p)
  | _ => none

/-- Commands taken one after the other. -/
def runAll : List Instr → State → Result
  | [], s => .next s
  | i :: rest, s =>
    match exec i s with
    | .next t => runAll rest t
    | .fault f => .fault f
    | .refused r => .refused r

/-! ### The order of grants (R132, R133) -/

/-- The request stands before the arbiter. -/
def State.stands (s : State) : Grant → Bool
  | .clearing => s.arbiter.clearingRequest
  | .commit l => s.arbiter.commitPending[l]
  | .host => s.arbiter.hostRequest
  | .tap l => s.arbiter.tapPending[l]

/-- The place of a lane in the order mode of its class: FIXED and a rotation without a last-served lane
count from lane 0, a rotation counts from the lane after the last-served one (R133). -/
def State.place (s : State) (l : Lane) : Nat :=
  match s.arbiter.mode, s.arbiter.last (s.lane l).cls with
  | .rotating, some m => (l.val + 11 - m.val) % 12
  | .rotating, none => l.val
  | .fixed, _ => l.val

/-- The place of a request in the order of R132. -/
def State.rank (s : State) : Grant → Nat
  | .clearing => 0
  | .commit l => 1 + l.val
  | .host => 13
  | .tap l =>
    match (s.lane l).cls with
    | .assisted => 14 + s.place l
    | .ordinary => 26 + s.place l

/-! ### Gate frames (R126, R196) -/

/-- The bytes of a gate's whole frame, start byte first, each with its stop bit. -/
def GateMessage.received (m : GateMessage) : List RxByte := framed (frameBytes m.kind m.payload)

/-- The fields of a message within what its payload can show (11.4). -/
def Message.Sendable : Message → Prop
  | .verdict v => v.fare.charge < 16777216 ∧ -32768 ≤ v.fare.display ∧ v.fare.display ≤ 32767 ∧ v.remaining < 65536
  | .passageAnswer _ => True
  | .laneState _ => True

/-! ### Host record commands (R38) -/

/-- The operands of a command that names a card lie within their ranges (R38, R40 to R46, R195). -/
def operandsInRange (k : Cmd) (ws : List Word) : Bool :=
  validCard (cardArg ws) &&
  match k with
  | .cardFind => decide ((arg ws 3).toNat ≤ 1023)
  | .addValue =>
    decide (1 ≤ ofTwoWordsSigned (arg ws 3) (arg ws 4)) && decide (ofTwoWordsSigned (arg ws 3) (arg ws 4) ≤ 999999)
  | .setBalance =>
    decide (-5000 ≤ ofTwoWordsSigned (arg ws 3) (arg ws 4))
    && decide (ofTwoWordsSigned (arg ws 3) (arg ws 4) ≤ 999999)
  | .setProduct =>
    decide ((arg ws 3).toNat / 256 ≤ 2) && decide ((arg ws 3).toNat % 256 ≤ 3)
    && (decide ((arg ws 3).toNat / 256 ≠ 1) || decide ((arg ws 4).toNat ≤ (arg ws 5).toNat))
  | _ => true

/-- The words of a card record, group by group (R40). -/
def recordTable (r : CardRecord) (slot : Nat) : List (List Word) :=
  let j : Journey := r.journey.getD ⟨0, 0, 0, 0⟩
  [ cardWords r.card, [productWord r.product r.fareClass], [cardFlagsWord r], twoWordsSigned r.balance,
    [word r.passFirst, word r.passLast], [word r.capDay], twoWords r.daySpend,
    [word j.startDay, word j.startMinute, word j.route.val] ++ twoWords j.paid,
    [word r.boardings], twoWords slot ]

/-- The words of a departure record, group by group (R99). -/
def departureTable (r : Departure) : List (List Word) :=
  [ [word r.state.code], [word r.berth.val], [word r.route.val], [r.tag], [word r.capacity], [word r.boarded],
    [word r.held], [word (r.capacity - r.boarded - r.held)], [word r.margin, flagWord r.armed],
    [indexWord r.followOn], [flagWord r.autoStart], twoWords r.takings ]

/-- The groups of a table that a mask selects, in increasing group number (R40, R99). -/
def selected (table : List (List Word)) (mask : Word) : List Word :=
  (table.zipIdx.filter fun g => mask.getLsbD g.2).flatMap (·.1)

end Sys2Proof.Machine
end

