-- ==== Sys2Proof/Certificates/Slice0/Obligations.lean ====
section
/-!
DEFINITION. The statements for the provers, one definition each. Where a statement says of an answer
`exec i s = .next (t.answering a)` or `.next (t.handed a)`, the answer `a` stands on the station link and
nothing else differs from `t` (but for the grant that `handed` makes, `GrantsInOrder`).
-/

section Statements

open Sys2Proof Sys2Proof.Machine

/-! ### Steps and resets -/

/-- A step takes the command at the front of the queue; on an empty queue the part idles (log 14). -/
def Obligations.StepRunsFrontCommand : Prop :=
  (∀ (i : Instr) (rest : List Instr) (s : State),
    step { s with pending := i :: rest } = exec i { s with pending := rest })
  ∧ ∀ s : State, s.pending = [] → step s = .next s

/-- R186 with the values of the blocks. Record memory lists nothing, and the level of the reset line, the
queue and the count of free choices stay: the model's choices (log 1, log 15, log 17). -/
def Obligations.ColdResetLeaves : Prop :=
  ∀ s : State, ∃ t : State, exec .coldReset s = .next t
    ∧ t.BlocksReset ∧ t.PierEmpty
    ∧ t.service = .unstarted ∧ t.keepValid = false ∧ t.kept = ⟨10, 1⟩ ∧ t.geometry = ⟨10, 1⟩
    ∧ t.fares.Cleared ∧ t.enforce = false ∧ t.clock = ⟨0, 0, 0⟩
    ∧ t.mem = [] ∧ t.resetLine = s.resetLine ∧ t.freeCount = s.freeCount ∧ t.pending = s.pending

/-- R187: the reset line on its change to asserted, and RESTART, bring a warm reset; a line held asserted
and a release of the line bring none. That the queue and the count of free choices stay is the model's choice
(log 17). -/
def Obligations.WarmResetTaken : Prop :=
  (∀ s : State, s.resetLine = false →
    ∃ t : State, exec .warmReset s = .next t ∧ t.resetLine = true ∧ s.WarmResetOf t)
  ∧ (∀ s : State, s.resetLine = true → exec .warmReset s = .next s)
  ∧ (∀ s : State, s.takesCommand = true →
    ∃ t : State, exec .restart s = .next t ∧ t.resetLine = s.resetLine ∧ s.WarmResetOf t)
  ∧ ∀ s : State, exec .resetLineRelease s = .next { s with resetLine := false }

/-! ### The service clock -/

/-- R72, R112, R113, R126 whatever order the twelve ports take the event in (log 8): what each lane port with its
timer and the frame it is receiving, each departure, the clock, the service state and the attention unit hold after
a second event, and that nothing else changes but the count of free choices. -/
def Obligations.SecondEventTaken : Prop :=
  ∀ s : State, ∃ (t : State) (order : List Lane), exec .secondEvent s = .next t
    ∧ (∀ l : Lane, t.lane l = (s.lane l).ticked)
    ∧ (∀ d : DepIx, t.dep d = Departure.released^[s.expiring d] (s.dep d))
    ∧ t.clock = s.clock.afterSecond
    ∧ t.service = (if s.service = .halting ∧ (∃ l : Lane, (s.lane l).expires = true) ∧ t.lanesInHand = 0
        then .halted else s.service)
    ∧ order.Perm (List.finRange 12)
    ∧ t.attention =
        (order.foldl (fun a l => a.occurs .laneFault (numberSubject l.val) (s.lane l).tickFaults)
          s.attention).occurs .clockHeld (numberSubject s.clock.day) (if s.clock.reachesHold then 1 else 0)
    ∧ t = { s with
        lanes := t.lanes
        departures := t.departures
        clock := t.clock
        service := t.service
        attention := t.attention
        freeCount := t.freeCount }

/-- R73 for the minute event, and R74, R76 to R78 for the settings of the clock: values, CLOCK HELD and
refusals. -/
def Obligations.ClockMoves : Prop :=
  (∀ s : State, s.clock.minute ≤ 1917 →
    exec .minuteEvent s = .next { s with clock := { s.clock with minute := s.clock.minute + 1 } })
  ∧ (∀ s : State, s.clock.minute = 1918 →
    exec .minuteEvent s = .next { s with
      clock := { s.clock with minute := 1919 }
      attention := s.attention.occur .clockHeld (0, word s.clock.day) })
  ∧ (∀ s : State, s.clock.minute = 1919 → exec .minuteEvent s = .next s)
  ∧ ∀ (s : State) (day m : Word), s.takesCommand = true →
    let set : Nat → State := fun newDay => { s with
      clock := ⟨newDay, m.toNat, 0⟩
      attention :=
        if s.clock.minute < 1919 ∧ m.toNat = 1919 then s.attention.occur .clockHeld (0, word newDay)
        else s.attention }
    (m.toNat ≤ 1919 → exec (.setTime m) s = .next ((set s.clock.day).answering .ok))
    ∧ (m.toNat ≤ 1919 → s.clock.day < 65535 → exec (.newDay m) s = .next ((set (s.clock.day + 1)).answering .ok))
    ∧ (m.toNat ≤ 1919 → exec (.setDay day m) s = .next ((set day.toNat).answering .ok))
    ∧ (1919 < m.toNat →
        exec (.setTime m) s = .next (s.answering (.reject .badOperand))
        ∧ exec (.newDay m) s = .next (s.answering (.reject .badOperand))
        ∧ exec (.setDay day m) s = .next (s.answering (.reject .badOperand)))
    ∧ (s.clock.day = 65535 → exec (.newDay m) s = .next (s.answering (.reject .badOperand)))

/-- R75 and R102: the words of CLOCK READ and of BERTH READ, from one moment, and nothing changed. -/
def Obligations.ClockAndBerthRead : Prop :=
  (∀ s : State, s.takesCommand = true →
    exec .clockRead s = .next (s.answering (.done [word s.clock.day, word s.clock.minute, word s.clock.second] 3))
    ∧ ∀ t u : State, exec .clockRead s = .next t → exec .minuteEvent t = .next u → u.link = t.link)
  ∧ ∀ s : State, s.takesCommand = true → s.inService = true →
    exec .berthRead s = .next (s.answering
      (.done ((List.finRange 4).map fun b => (s.berth b).elim 65535#16 fun d => word d.val) 4))

/-! ### Messages of the gates -/

/-- R108: the five tests in their order, and what the fifth places before the arbiter. The frame in reception
ends with the TAP (R126); behind the beginning of another frame its check byte cannot arrive (R196, log 4). -/
def Obligations.TapJudged : Prop :=
  ∀ (s : State) (l : Lane) (card : CardNumber),
    ((s.lane l).canComplete (.tap card) = false → exec (.tap l card) s = .next s)
    ∧ ((s.lane l).canComplete (.tap card) = true →
      let u := s.endFrame l
      let p := u.lane l
      let cleared := u.setLane l { p with expiredLast := false }
      let placed : State := { u with
        lanes := u.lanes.set l.val { p with expiredLast := false, tapped := some card, state := .pending }
        arbiter := { u.arbiter with tapPending := u.arbiter.tapPending.set l.val true } }
      (p.state = .down → exec (.tap l card) s = .next (u.send l (.refuse .laneClosed FareFields.zero)))
      ∧ (p.state = .idle → s.service ≠ .serving →
          exec (.tap l card) s = .next (cleared.send l (.refuse .notInService FareFields.zero)))
      ∧ (p.state ≠ .down → p.state ≠ .idle → s.service ≠ .serving →
          exec (.tap l card) s = .next (u.send l (.refuse .notInService FareFields.zero)))
      ∧ (p.state ≠ .down → p.state ≠ .idle → s.service = .serving →
          exec (.tap l card) s = .next (u.send l (.refuse .busy FareFields.zero)))
      ∧ (p.state = .idle → s.service = .serving → card = 0 ∨ card = 281474976710655#48 →
          exec (.tap l card) s = .next (cleared.send l (.refuse .unknownCard FareFields.zero)))
      ∧ (p.state = .idle → s.service = .serving → card ≠ 0 → card ≠ 281474976710655#48 →
          exec (.tap l card) s = .next placed.settle
          ∧ (s.engine ≠ .idle → exec (.tap l card) s = .next placed)
          ∧ (s.engine = .idle → s.arbiter.quiet = true →
              ∃ (t : State) (d : Decision), exec (.tap l card) s = .next t ∧ t.engine = .deciding d ∧ d.Fresh
                ∧ d.lane = l ∧ d.card = card ∧ d.day = s.clock.day ∧ d.minute = s.clock.minute
                ∧ t.lane l = { p with expiredLast := false, tapped := some card, state := .deciding }
                ∧ t.arbiter.quiet = true)))

/-- R109: PASSED in AWAITING, late, and in every other case. The frame in reception ends with it (R126); behind
the beginning of another frame its check byte cannot arrive (R196, log 4). That expired-last decides LATE at an
UNSENSED lane too, where R109's last bullet and R119 would have NOT EXPECTED, is the model's choice (log 25). -/
def Obligations.PassedJudged : Prop :=
  ∀ (s : State) (l : Lane),
    ((s.lane l).canComplete .passed = false → exec (.passed l) s = .next s)
    ∧ ((s.lane l).canComplete .passed = true →
      let u := s.endFrame l
      let p := u.lane l
      let placed : State := { u with
        lanes := u.lanes.set l.val { p with secondsLeft := 0, state := .committing }
        arbiter := { u.arbiter with commitPending := u.arbiter.commitPending.set l.val true } }
      (p.state = .awaiting →
        exec (.passed l) s = .next placed.settle
        ∧ (s.engine ≠ .idle → exec (.passed l) s = .next placed)
        ∧ (s.engine = .idle → s.arbiter.quiet = true →
            ∃ t : State, exec (.passed l) s = .next t ∧ t.engine = .committing ⟨l, .count, none⟩
              ∧ t.lanes = placed.lanes ∧ t.arbiter.quiet = true))
      ∧ (p.state = .idle ∨ p.state = .down → p.expiredLast = true →
          exec (.passed l) s = .next
            (((u.setLane l { p with expiredLast := false }).send l (.passageAnswer .late)).raise .latePassage
              (0, word l.val)))
      ∧ (p.state ≠ .awaiting → ¬((p.state = .idle ∨ p.state = .down) ∧ p.expiredLast = true) →
          exec (.passed l) s = .next (u.send l (.passageAnswer .notExpected))))

/-- R110, R111, R113 in AWAITING: WALKAWAY, CANCEL and the expiry of the timer end the open verdict without
a passage; and R110, R111, R112 in the other states. The frame in reception ends with a WALKAWAY or a CANCEL
(R126); behind the beginning of another frame its check byte cannot arrive (R196, log 4). -/
def Obligations.OpenVerdictEnds : Prop :=
  ∀ (s : State) (l : Lane),
    ((s.lane l).state = .awaiting →
      ∃ t : State, exec (.passageTimerExpiry l) s = .next t ∧ s.EndedUnpassed t l .expired true)
    ∧ ((s.lane l).state ≠ .awaiting → exec (.passageTimerExpiry l) s = .next s)
    ∧ ((s.lane l).canComplete .walkaway = false → exec (.walkaway l) s = .next s)
    ∧ ((s.lane l).canComplete .cancel = false → exec (.cancel l) s = .next s)
    ∧ let u := s.endFrame l
      let p := u.lane l
      ((s.lane l).canComplete .walkaway = true →
        (p.state = .awaiting → ∃ t : State, exec (.walkaway l) s = .next t ∧ u.EndedUnpassed t l .taken false)
        ∧ (p.state ≠ .awaiting → exec (.walkaway l) s = .next (u.send l (.passageAnswer .notExpected))))
      ∧ ((s.lane l).canComplete .cancel = true →
        (p.state = .awaiting → ∃ t : State, exec (.cancel l) s = .next t ∧ u.EndedUnpassed t l .taken false)
        ∧ (p.state = .pending →
          exec (.cancel l) s = .next
            (State.send { u with
              lanes := u.lanes.set l.val { p with tapped := none, state := .idle }
              arbiter := { u.arbiter with tapPending := u.arbiter.tapPending.set l.val false } } l
              (.refuse .cancelled FareFields.zero)))
        ∧ (p.state = .deciding →
          exec (.cancel l) s = .next { u with lanes := u.lanes.set l.val { p with cancelNoted := true } })
        ∧ (p.state = .down ∨ p.state = .idle ∨ p.state = .committing → exec (.cancel l) s = .next u))

/-- R126 and R196: an unknown kind, a wrong length, a wrong check byte and a byte without its stop bit
discard a frame with LANE FAULT, the beginning of a frame stays in reception, bytes between frames do nothing
(a start byte without its stop bit among them: the model's choice, log 23), bytes in two runs do what they do
in one, and the second second event since the start byte discards a frame still incomplete. Nothing else
changes. That this second event can be taken alone, for one lane, is the model's choice (log 7); with the
clock and the other lanes it stands in `SecondEventTaken`. -/
def Obligations.FramesDiscarded : Prop :=
  (∀ (s : State) (l : Lane), (s.lane l).reception = none →
    let out : Result := .next { s with attention := s.attention.occur .laneFault (0, word l.val) }
    (∀ kind : Byte, kind ≠ 1 → kind ≠ 2 → kind ≠ 3 → kind ≠ 4 →
        exec (.frameDiscard l (framed [193, kind])) s = out)
    ∧ (∀ (m : GateMessage) (length : Byte), length ≠ BitVec.ofNat 8 m.payload.length →
        exec (.frameDiscard l (framed [193, m.kind, length])) s = out)
    ∧ (∀ (m : GateMessage) (check : Byte), check ≠ frameCheck m.kind m.payload →
        exec (.frameDiscard l (m.received.dropLast ++ [⟨check, true⟩])) s = out)
    ∧ (∀ (m : GateMessage) (n : Nat) (b : Byte), 1 ≤ n → n < m.received.length →
        exec (.frameDiscard l (m.received.take n ++ [⟨b, false⟩])) s = out)
    ∧ (∀ (m : GateMessage) (n : Nat), n < m.afterStart.length →
        exec (.frameDiscard l (m.received.take (n + 1))) s = .next { s with
          lanes := s.lanes.set l.val { s.lane l with reception := some ⟨m.afterStart.take n, 0⟩ } })
    ∧ (∀ b : RxByte, b ≠ ⟨193, true⟩ → exec (.frameDiscard l [b]) s = .next s)
    ∧ ∀ bytes : List RxByte, exec (.frameTimeout l bytes) s = .next s)
  ∧ (∀ (s : State) (l : Lane) (a b : List RxByte), (hear (s.lane l).reception (a ++ b)).messages = [] →
    exec (.frameDiscard l (a ++ b)) s = runAll [.frameDiscard l a, .frameDiscard l b] s)
  ∧ (∀ (s : State) (l : Lane) (bytes : List RxByte), (hear (s.lane l).reception bytes).messages ≠ [] →
    exec (.frameDiscard l bytes) s = .next s)
  ∧ ∀ (s : State) (l : Lane) (r : Reception), (s.lane l).reception = some r →
    (1 ≤ r.seconds →
      exec (.frameTimeout l (framed r.bytes)) s = .next { s with
        lanes := s.lanes.set l.val { s.lane l with reception := none }
        attention := s.attention.occur .laneFault (0, word l.val) })
    ∧ (r.seconds = 0 → exec (.frameTimeout l (framed r.bytes)) s = .next s)
    ∧ ∀ bytes : List RxByte, bytes ≠ framed r.bytes → exec (.frameTimeout l bytes) s = .next s

/-- 11.3 and 11.4: every message of a gate is read back from its frame, and no two messages of the part
with sendable fields make one frame. -/
def Obligations.FramesAgree : Prop :=
  (∀ m : GateMessage, hear none m.received = ⟨none, 0, [m]⟩)
  ∧ ∀ m n : Message, m.Sendable → n.Sendable → m.frame = n.frame → m = n

/-- R127 and R173: a message is queued or discarded with LANE FAULT, the oldest is sent first, and what one
occurrence does to the attention unit. That the line shows the frame last sent, and that a frame sent from an empty
queue changes nothing, are the model's choices (log 16, log 4). -/
def Obligations.MessagesAndOccurrences : Prop :=
  (∀ (s : State) (l : Lane) (m : Message), (s.lane l).queue.length ≤ 3 →
    s.send l m = { s with lanes := s.lanes.set l.val { s.lane l with queue := (s.lane l).queue ++ [m] } })
  ∧ (∀ (s : State) (l : Lane) (m : Message), 4 ≤ (s.lane l).queue.length →
    s.send l m = { s with attention := s.attention.occur .laneFault (0, word l.val) })
  ∧ (∀ (s : State) (l : Lane) (m : Message) (rest : List Message), (s.lane l).queue = m :: rest →
    exec (.frameSent l) s = .next
      { s with lanes := s.lanes.set l.val { s.lane l with queue := rest, lineOut := m.frame } })
  ∧ (∀ (s : State) (l : Lane), (s.lane l).queue = [] → exec (.frameSent l) s = .next s)
  ∧ ∀ (a : Attention) (k : Cause) (x : Subject),
    (a.occur k x).causes[k.index] = ⟨true, min ((a.causes[k.index]).count + 1) 255, x⟩
    ∧ (∀ n : Fin 11, n ≠ k.index → (a.occur k x).causes[n] = a.causes[n])
    ∧ (a.occur k x).mask = a.mask
    ∧ ((a.occur k x).line = true ↔
        ∃ n : Fin 11, ((a.occur k x).causes[n]).pending = true ∧ a.mask.getLsbD n.val = false)

/-! ### Lane commands -/

/-- R121 to R123: LANE OPEN and LANE CLOSE in every lane state. -/
def Obligations.LaneOpenAndClose : Prop :=
  ∀ (s : State), s.takesCommand = true → s.inService = true →
    (∀ l : Lane,
      let p := s.lane l
      (p.state = .down → s.service ≠ .halting →
        exec (.laneOpen (word l.val)) s = .next
          (((s.setLane l { p with
              state := .idle, expiredLast := false, closeRequested := false, cancelNoted := false }).send l
            (.laneState true)).answering .ok))
      ∧ (s.service = .halting ∨ p.state ≠ .down →
        exec (.laneOpen (word l.val)) s = .next (s.answering (.reject .wrongState)))
      ∧ (p.state = .down → exec (.laneClose (word l.val)) s = .next (s.answering .ok))
      ∧ (p.state = .idle →
        exec (.laneClose (word l.val)) s = .next
          (((s.setLane l { p with state := .down }).send l (.laneState false)).answering .ok))
      ∧ (p.state = .pending →
        exec (.laneClose (word l.val)) s = .next
          (State.answering
            ((State.send
              { s with
                lanes := s.lanes.set l.val { p with tapped := none, state := .down }
                arbiter := { s.arbiter with tapPending := s.arbiter.tapPending.set l.val false } } l
              (.refuse .laneClosed FareFields.zero)).send l (.laneState false)) .ok))
      ∧ (p.state = .deciding ∨ p.state = .awaiting ∨ p.state = .committing →
        exec (.laneClose (word l.val)) s = .next
          ((s.setLane l { p with closeRequested := true }).answering .ok)))
    ∧ ∀ w : Word, 12 ≤ w.toNat →
      exec (.laneOpen w) s = .next (s.answering (.reject .badOperand))
      ∧ exec (.laneClose w) s = .next (s.answering (.reject .badOperand))

/-- R124: LANE SET, its range checks first, then the state of the lane. -/
def Obligations.LaneSetTaken : Prop :=
  ∀ (s : State) (lane berth kind cls timer : Word), s.takesCommand = true → s.inService = true →
    (∀ (l : Lane) (b : Berth) (k : LaneKind) (g : LaneClass), lane = word l.val → berth = word b.val →
      kind = word k.code → cls = word g.code → 1 ≤ timer.toNat → timer.toNat ≤ 60 →
      ((s.lane l).state = .down →
        exec (.laneSet lane berth kind cls timer) s = .next
          (State.answering { s with
            lanes := s.lanes.set l.val { s.lane l with berth := b, kind := k, cls := g, timer := timer.toNat } }
            .ok))
      ∧ ((s.lane l).state ≠ .down →
        exec (.laneSet lane berth kind cls timer) s = .next (s.answering (.reject .wrongState))))
    ∧ (12 ≤ lane.toNat ∨ 4 ≤ berth.toNat ∨ 2 ≤ kind.toNat ∨ 2 ≤ cls.toNat ∨ timer.toNat = 0 ∨ 60 < timer.toNat →
        exec (.laneSet lane berth kind cls timer) s = .next (s.answering (.reject .badOperand)))

/-- R99, R125: the words of LANE READ and DEPARTURE READ, and their refusals. -/
def Obligations.LaneAndDepartureRead : Prop :=
  ∀ (s : State), s.takesCommand = true → s.inService = true →
    (∀ l : Lane,
      let p := s.lane l
      let bit : Bool → Nat := fun b => if b then 1 else 0
      let head : Word → List Word := fun flags =>
        [word p.state.code, word p.berth.val, word p.kind.code, word p.cls.code, word p.timer, flags,
          word p.secondsLeft, word p.queue.length] ++ cardWords (p.tapped.getD 0)
      let flags := bit p.closeRequested + 2 * bit p.cancelNoted + 4 * bit p.expiredLast
      (p.openVerdict = none →
        exec (.laneRead (word l.val)) s = .next (s.answering
          (.done (head (word flags) ++ List.replicate 11 0) 22)))
      ∧ ∀ v, p.openVerdict = some v →
        exec (.laneRead (word l.val)) s = .next (s.answering
          (.done (head (word (flags + 8 + 16 * bit v.transfer + 32 * bit v.provisional))
            ++ twoWords v.slot ++ cardWords v.card ++ [word v.departure.val] ++ twoWords v.charge
            ++ [word v.day, word v.minute, word v.route.val]) 22)))
    ∧ (∀ w : Word, 12 ≤ w.toNat → exec (.laneRead w) s = .next (s.answering (.reject .badOperand)))
    ∧ (∀ (d : DepIx) (mask : Word), mask.toNat ≤ 4095 →
        exec (.departureRead (word d.val) mask) s = .next (s.answering
          (.counted (selected (departureTable (s.dep d)) mask))))
    ∧ ∀ w mask : Word, 16 ≤ w.toNat ∨ 4096 ≤ mask.toNat →
        exec (.departureRead w mask) s = .next (s.answering (.reject .badOperand))

/-! ### Departures and berths -/

/-- R94 to R96: DEPARTURE DEFINE, OPEN and CLOSE with their checks in order, and where a close moves the
berth's current. -/
def Obligations.DepartureDefinedOpenedClosed : Prop :=
  (∀ (s : State) (d : DepIx) (b : Berth) (r : RouteClass) (tag cap margin : Word) (f : Option DepIx) (auto : Bool),
    s.takesCommand = true → s.inService = true →
    1 ≤ cap.toNat → cap.toNat ≤ 400 → margin.toNat ≤ cap.toNat →
    let i := Instr.departureDefine (word d.val) (word b.val) (word r.val) tag cap margin (indexWord f) (flagWord auto)
    let fits := ∀ g, f = some g →
      ((s.dep g).state = .scheduled ∨ (s.dep g).state = .boarding) ∧ (s.dep g).berth = b
    ((s.dep d).state = .empty → fits →
      exec i s = .next (State.answering { s with
        departures := s.departures.set d.val
          { state := .scheduled, berth := b, route := r, tag := tag, capacity := cap.toNat, boarded := 0, held := 0
            margin := margin.toNat, armed := true, followOn := f, autoStart := auto, takings := 0 } } .ok))
    ∧ ((s.dep d).state = .empty → ¬fits → exec i s = .next (s.answering (.reject .badOperand)))
    ∧ ((s.dep d).state ≠ .empty → exec i s = .next (s.answering (.reject .wrongState))))
  ∧ (∀ (s : State) (d b r tag cap margin f auto : Word), s.takesCommand = true → s.inService = true →
    16 ≤ d.toNat ∨ 4 ≤ b.toNat ∨ 8 ≤ r.toNat ∨ cap.toNat = 0 ∨ 400 < cap.toNat ∨ cap.toNat < margin.toNat
      ∨ (16 ≤ f.toNat ∧ f ≠ 65535#16) ∨ 2 ≤ auto.toNat →
    exec (.departureDefine d b r tag cap margin f auto) s = .next (s.answering (.reject .badOperand)))
  ∧ ∀ (s : State), s.takesCommand = true → s.inService = true →
    (∀ d : DepIx,
      let r := s.dep d
      let openNow := r.state = .scheduled ∨ r.state = .boarding
      (r.state = .scheduled →
        exec (.departureOpen (word d.val)) s = .next
          (State.answering { s with departures := s.departures.set d.val { r with state := .boarding } } .ok))
      ∧ (r.state ≠ .scheduled → exec (.departureOpen (word d.val)) s = .next (s.answering (.reject .wrongState)))
      ∧ (openNow →
        exec (.departureClose (word d.val)) s = .next
          (State.answering { s with
            departures := s.departures.set d.val { r with state := .closed }
            berths :=
              if s.berth r.berth = some d then
                s.berths.set r.berth.val (r.followOn.filter fun f => f != d && (s.dep f).isOpen)
              else s.berths } .ok))
      ∧ (¬openNow → exec (.departureClose (word d.val)) s = .next (s.answering (.reject .wrongState))))
    ∧ ∀ w : Word, 16 ≤ w.toNat →
      exec (.departureOpen w) s = .next (s.answering (.reject .badOperand))
      ∧ exec (.departureClose w) s = .next (s.answering (.reject .badOperand))

/-- R91, R92, R97, R98, R100, R101: SET CAPACITY with the events it raises, LINK, RETIRE, and BERTH SET
CURRENT. The order of the checks of SET CAPACITY and of LINK is the model's reading (log 13). -/
def Obligations.DepartureChanged : Prop :=
  ∀ (s : State), s.takesCommand = true → s.inService = true →
    (∀ (d : DepIx) (cap margin : Word),
      let r := s.dep d
      let rest := cap.toNat - r.boarded - r.held
      let near := r.margin < r.remaining ∧ rest ≤ margin.toNat ∧ 0 < margin.toNat ∧ r.armed = true
      let full := 0 < r.remaining ∧ rest = 0
      let fits := 1 ≤ cap.toNat ∧ cap.toNat ≤ 400 ∧ margin.toNat ≤ cap.toNat
      let openNow := r.state = .scheduled ∨ r.state = .boarding
      let i := Instr.departureSetCapacity (word d.val) cap margin
      (fits → openNow → r.boarded + r.held ≤ cap.toNat →
        exec i s = .next (State.answering { s with
          departures := s.departures.set d.val { r with
            capacity := cap.toNat
            margin := margin.toNat
            armed := if near then false else r.armed || decide (margin.toNat < rest) }
          attention :=
            (s.attention.occurs .nearFull (0, word d.val) (if near then 1 else 0)).occurs .departureFull
              (0, word d.val) (if full then 1 else 0) } .ok))
      ∧ (fits → openNow → cap.toNat < r.boarded + r.held → exec i s = .next (s.answering (.reject .badOperand)))
      ∧ (fits → ¬openNow → exec i s = .next (s.answering (.reject .wrongState)))
      ∧ (¬fits → exec i s = .next (s.answering (.reject .badOperand))))
    ∧ (∀ (d : DepIx) (f : Option DepIx),
      let r := s.dep d
      let openNow := r.state = .scheduled ∨ r.state = .boarding
      let fits := ∀ g, f = some g → g ≠ d
        ∧ ((s.dep g).state = .scheduled ∨ (s.dep g).state = .boarding) ∧ (s.dep g).berth = r.berth
      let i := Instr.departureLink (word d.val) (indexWord f)
      (openNow → fits →
        exec i s = .next (State.answering { s with departures := s.departures.set d.val { r with followOn := f } } .ok))
      ∧ (openNow → ¬fits → exec i s = .next (s.answering (.reject .badOperand)))
      ∧ (¬openNow → exec i s = .next (s.answering (.reject .wrongState))))
    ∧ (∀ d : DepIx,
      let r := s.dep d
      (r.state = .closed → r.held = 0 →
        ∃ t : State, exec (.departureRetire (word d.val)) s = .next (t.answering .ok)
          ∧ (t.dep d).Empty
          ∧ (∀ e : DepIx, e ≠ d → t.dep e = if (s.dep e).followOn = some d then { s.dep e with followOn := none } else s.dep e)
          ∧ t = { s with departures := t.departures })
      ∧ (r.state ≠ .closed ∨ r.held ≠ 0 →
        exec (.departureRetire (word d.val)) s = .next (s.answering (.reject .wrongState))))
    ∧ (∀ b : Berth,
      exec (.berthSetCurrent (word b.val) 65535#16) s = .next
        (State.answering { s with berths := s.berths.set b.val none } .ok)
      ∧ ∀ d : DepIx,
        let openNow := (s.dep d).state = .scheduled ∨ (s.dep d).state = .boarding
        let i := Instr.berthSetCurrent (word b.val) (word d.val)
        ((s.dep d).berth = b → openNow →
          exec i s = .next (State.answering { s with berths := s.berths.set b.val (some d) } .ok))
        ∧ ((s.dep d).berth = b → ¬openNow → exec i s = .next (s.answering (.reject .wrongState)))
        ∧ ((s.dep d).berth ≠ b → exec i s = .next (s.answering (.reject .badOperand))))
    ∧ ∀ d x y : Word, 16 ≤ d.toNat →
        exec (.departureSetCapacity d x y) s = .next (s.answering (.reject .badOperand))
        ∧ exec (.departureLink d x) s = .next (s.answering (.reject .badOperand))
        ∧ exec (.departureRetire d) s = .next (s.answering (.reject .badOperand))
        ∧ (d ≠ 65535#16 → exec (.departureLink x d) s = .next (s.answering (.reject .badOperand))
            ∧ exec (.berthSetCurrent x d) s = .next (s.answering (.reject .badOperand)))
        ∧ (4 ≤ x.toNat → exec (.berthSetCurrent x y) s = .next (s.answering (.reject .badOperand)))

/-- R85, R86, R91, R92: where a hold request at a berth lands, the particulars it returns, and the events it
raises. -/
def Obligations.HoldsLand : Prop :=
  ∀ (s : State) (b : Berth),
    (s.holdTarget b = .error .noBoarding → s.holdRequest b = (.noBoarding, s))
    ∧ (s.holdTarget b = .error .full → s.holdRequest b = (.full, s))
    ∧ (∀ x, s.holdTarget b = .ok x →
      let r := s.dep x
      s.holdRequest b = (.held ⟨x, r.tag, r.route, r.capacity - r.boarded - (r.held + 1)⟩,
        { s with
          departures := s.departures.set x.val r.withHold
          attention := s.holdEvents x s.attention }))
    ∧ (s.holdTarget b = .error .noBoarding ∨ s.holdTarget b = .error .full ∨ ∃ x, s.holdTarget b = .ok x)

/-! ### The lane arbiter -/

/-- R134 to R136: ARBITER MODE, SET BOTTOM and POLL LANES. -/
def Obligations.ArbiterCommanded : Prop :=
  (∀ (s : State), s.takesCommand = true → s.inService = true →
    exec (.arbiterMode 0) s = .next (State.answering { s with arbiter := { s.arbiter with mode := .fixed } } .ok)
    ∧ exec (.arbiterMode 1) s = .next (State.answering { s with arbiter := { s.arbiter with mode := .rotating } } .ok)
    ∧ (∀ w : Word, 2 ≤ w.toNat → exec (.arbiterMode w) s = .next (s.answering (.reject .badOperand)))
    ∧ (∀ l : Lane,
      ((s.lane l).cls = .ordinary → exec (.setBottom (word l.val)) s = .next
        (State.answering { s with arbiter := { s.arbiter with lastOrdinary := some l } } .ok))
      ∧ ((s.lane l).cls = .assisted → exec (.setBottom (word l.val)) s = .next
        (State.answering { s with arbiter := { s.arbiter with lastAssisted := some l } } .ok)))
    ∧ ∀ w : Word, 12 ≤ w.toNat → exec (.setBottom w) s = .next (s.answering (.reject .badOperand)))
  ∧ ∀ (s : State), s.takesCommand = true →
    ∃ taps commits nextGrant : Word,
      exec .pollLanes s = .next (s.answering (.done
        [taps, commits, flagWord s.arbiter.hostRequest, nextGrant, word s.engine.code,
          indexWord (if s.engine.decision.isSome then s.engine.decision.map (·.lane) else s.engine.commit.map (·.lane)),
          word s.arbiter.mode.code, indexWord s.arbiter.lastOrdinary, indexWord s.arbiter.lastAssisted] 9))
      ∧ (∀ n : Fin 16, taps.getLsbD n.val = true ↔ ∃ l : Lane, l.val = n.val ∧ s.arbiter.tapPending[l] = true)
      ∧ (∀ n : Fin 16, commits.getLsbD n.val = true ↔ ∃ l : Lane, l.val = n.val ∧ s.arbiter.commitPending[l] = true)
      ∧ nextGrant =
        match s.nextGrant with
        | some (.tap l) => word l.val
        | some (.commit l) => word l.val
        | some .host => 12
        | some .clearing => 13
        | none => 65535

/-- R131 to R133: the next grant is the standing request of the least place in the order, none exactly when
no request stands; a grant is made only with the engine IDLE; and what each grant does. -/
def Obligations.GrantsInOrder : Prop :=
  (∀ (s : State) (g : Grant), s.nextGrant = some g →
    s.stands g = true ∧ ∀ h, s.stands h = true → h ≠ g → s.rank g < s.rank h)
  ∧ (∀ s : State, s.nextGrant = none ↔ ∀ g, s.stands g = false)
  ∧ (∀ s : State, s.engine ≠ .idle → s.settle = s)
  ∧ (∀ s : State, s.nextGrant = none → s.settle = s)
  ∧ (∀ s : State, s.engine = .idle → s.nextGrant = some .clearing →
    s.settle = { s with arbiter := { s.arbiter with clearingRequest := false }, engine := .clearing 0 })
  ∧ (∀ (s : State) (l : Lane), s.engine = .idle → s.nextGrant = some (.commit l) →
    s.settle = { s with
      arbiter := { s.arbiter with commitPending := s.arbiter.commitPending.set l.val false }
      engine := .committing ⟨l, .count, none⟩ })
  ∧ (∀ (s : State) (k : Cmd) (ws : List Word) (late : Bool), s.engine = .idle → s.nextGrant = some .host →
    s.link.phase = .executing k ws late →
    s.settle = { s with arbiter := { s.arbiter with hostRequest := false }, engine := .host ⟨k, ws, none⟩ })
  ∧ ∀ (s : State) (l : Lane), s.engine = .idle → s.nextGrant = some (.tap l) →
    let p := s.lane l
    ∃ d, s.settle = { s with
        lanes := s.lanes.set l.val { p with state := .deciding }
        arbiter := { s.arbiter with
          tapPending := s.arbiter.tapPending.set l.val false
          lastOrdinary := if p.cls = .ordinary then some l else s.arbiter.lastOrdinary
          lastAssisted := if p.cls = .assisted then some l else s.arbiter.lastAssisted }
        engine := .deciding d }
      ∧ d.Fresh ∧ d.lane = l ∧ (∀ card, p.tapped = some card → d.card = card)
      ∧ d.day = s.clock.day ∧ d.minute = s.clock.minute

/-! ### Attention commands -/

/-- R174 to R178: ATTENTION READ, ACK and MASK, with the line judged again. -/
def Obligations.AttentionCommanded : Prop :=
  ∀ (s : State), s.takesCommand = true →
    (∃ set : Word,
      exec .attentionRead s = .next (s.answering (.done
        (set :: s.attention.mask.setWidth 16 :: (List.finRange 11).flatMap fun n =>
          [word (s.attention.causes[n]).count, (s.attention.causes[n]).subject.1, (s.attention.causes[n]).subject.2])
        35))
      ∧ ∀ n : Fin 16, set.getLsbD n.val = true ↔ ∃ m : Fin 11, m.val = n.val ∧ (s.attention.causes[m]).pending = true)
    ∧ (∀ w : Word, w.toNat ≤ 2047 →
      (∃ t : State, exec (.attentionAck w) s = .next (t.answering .ok)
        ∧ t = { s with attention := t.attention }
        ∧ (∀ n : Fin 11, t.attention.causes[n] = if w.getLsbD n.val then ⟨false, 0, (0, 0)⟩ else s.attention.causes[n])
        ∧ t.attention.mask = s.attention.mask
        ∧ (t.attention.line = true ↔
            ∃ n : Fin 11, (t.attention.causes[n]).pending = true ∧ t.attention.mask.getLsbD n.val = false))
      ∧ ∃ t : State, exec (.attentionMask w) s = .next (t.answering .ok)
        ∧ t = { s with attention := t.attention }
        ∧ t.attention.causes = s.attention.causes
        ∧ (∀ n : Fin 11, t.attention.mask.getLsbD n.val = w.getLsbD n.val)
        ∧ (t.attention.line = true ↔
            ∃ n : Fin 11, (t.attention.causes[n]).pending = true ∧ t.attention.mask.getLsbD n.val = false))
    ∧ ∀ w : Word, 2047 < w.toNat →
      exec (.attentionAck w) s = .next (s.answering (.reject .badOperand))
      ∧ exec (.attentionMask w) s = .next (s.answering (.reject .badOperand))

/-! ### Service control -/

/-- R6, R17, R104, R128, R172, R189: what START leaves, and its refusals (R185). A LANE FAULT that its own
messages raise may stand in the attention unit afterwards, since R172 leaves the order open (log 9). -/
def Obligations.StartTaken : Prop :=
  ∀ (s : State) (k p : Word), s.takesCommand = true →
    (s.service = .unstarted ∨ s.service = .halted ∨ s.service = .resumable →
      10 ≤ k.toNat → k.toNat ≤ 18 → 1 ≤ p.toNat → p.toNat ≤ 8 → s.engine = .idle →
      ∃ t : State, exec (.start k p) s = .next t
        ∧ t.keepValid = false ∧ t.service = .clearing ∧ t.geometry = ⟨k.toNat, p.toNat⟩
        ∧ t.tableCursor = 0 ∧ t.sweepCursor = 0 ∧ t.PierEmpty
        ∧ (∀ l : Lane, t.lane l = { s.lane l with
            state := .down, closeRequested := false, cancelNoted := false, expiredLast := false
            tapped := none, openVerdict := none, secondsLeft := 0
            queue := if (s.lane l).state = .down then (s.lane l).queue
              else offered (s.lane l).queue [.laneState false] })
        ∧ t.arbiter.Cleared ∧ t.engine = .clearing 0 ∧ (∀ e : WatchIx, t.watch[e] = none)
        ∧ t.link = ⟨.results [.done 0], none⟩
        ∧ (∀ n : Fin 11, n ≠ Cause.laneFault.index → t.attention.causes[n] = ⟨false, 0, (0, 0)⟩)
        ∧ (t.attention.causes[Cause.laneFault.index]).count
            ≤ (List.finRange 12).countP (fun l => (s.lane l).state != .down && decide (4 ≤ (s.lane l).queue.length))
        ∧ t.attention.mask = 0 ∧ t.attention.Consistent
        ∧ t.fares = s.fares ∧ t.enforce = s.enforce ∧ t.clock = s.clock ∧ t.mem = s.mem ∧ t.kept = s.kept
        ∧ t.resetLine = s.resetLine ∧ t.pending = s.pending)
    ∧ (s.service = .unstarted ∨ s.service = .halted ∨ s.service = .resumable →
      k.toNat < 10 ∨ 18 < k.toNat ∨ p.toNat = 0 ∨ 8 < p.toNat →
      exec (.start k p) s = .next (s.answering (.reject .badOperand)))
    ∧ (s.service = .clearing ∨ s.service = .serving ∨ s.service = .halting →
      exec (.start k p) s = .next (s.answering (.reject .wrongState)))

/-- R185, R188, R191, R193: RESUME, CONTINUE and KEEP where they are taken, and every refusal of the table
for them and for HALT. -/
def Obligations.ServiceCommanded : Prop :=
  ∀ (s : State), s.takesCommand = true →
    let notStarted := Host.Outcome.next (ρ := Refusal) (φ := Fault) (s.answering (.reject .notStarted))
    let wrongState := Host.Outcome.next (ρ := Refusal) (φ := Fault) (s.answering (.reject .wrongState))
    let kept : State := { s with kept := s.geometry, keepValid := true }
    (s.service = .resumable →
      exec .resume s = .next (State.answering { s with keepValid := false, service := .serving } .ok)
      ∧ exec .halt s = notStarted ∧ exec .continueService s = notStarted ∧ exec .keep s = notStarted)
    ∧ (s.service = .unstarted →
      exec .resume s = notStarted ∧ exec .halt s = notStarted ∧ exec .continueService s = notStarted
      ∧ exec .keep s = notStarted)
    ∧ (s.service = .clearing →
      exec .resume s = wrongState ∧ exec .halt s = wrongState ∧ exec .continueService s = wrongState
      ∧ exec .keep s = wrongState)
    ∧ (s.service = .serving →
      exec .resume s = wrongState ∧ exec .continueService s = wrongState ∧ exec .keep s = .next (kept.answering .ok))
    ∧ (s.service = .halting →
      exec .resume s = wrongState ∧ exec .continueService s = wrongState ∧ exec .keep s = wrongState)
    ∧ (s.service = .halted →
      exec .resume s = wrongState
      ∧ exec .continueService s = .next (State.answering { s with service := .serving } .ok)
      ∧ exec .keep s = .next (kept.answering .ok))

/-- R120, R192: HALT in SERVING gives every lane the halt notice, in whatever order the ports take it (log
8), and counts the lanes in hand; in HALTING and HALTED it only counts. -/
def Obligations.HaltTaken : Prop :=
  (∀ (s : State), s.takesCommand = true → s.service = .serving →
    ∃ (t : State) (order : List Lane),
      exec .halt s = .next (t.answering (.done [] (word s.lanesInHand)))
      ∧ (∀ l : Lane, t.lane l =
          if (s.lane l).state = .pending then
            { s.lane l with
              tapped := none
              state := .idle
              queue := offered (s.lane l).queue [.refuse .notInService FareFields.zero] }
          else s.lane l)
      ∧ (∀ l : Lane, t.arbiter.tapPending[l] =
          if (s.lane l).state = .pending then false else s.arbiter.tapPending[l])
      ∧ t.service = (if s.lanesInHand = 0 then .halted else .halting)
      ∧ t.lanesInHand = s.lanesInHand
      ∧ order.Perm (List.finRange 12)
      ∧ t.attention = order.foldl (fun a l => a.occurs .laneFault (numberSubject l.val)
          (if (s.lane l).state = .pending then dropped (s.lane l).queue 1 else 0)) s.attention
      ∧ t = { s with
          lanes := t.lanes
          arbiter := { s.arbiter with tapPending := t.arbiter.tapPending }
          service := t.service
          attention := t.attention
          freeCount := t.freeCount })
  ∧ ∀ (s : State), s.takesCommand = true → s.service = .halting ∨ s.service = .halted →
    exec .halt s = .next (s.answering (.done [] (word s.lanesInHand)))

/-! ### The station link -/

/-- R159, R160: the 24 bits that a transfer carries out, by the phase at its beginning, and the transfer that
is void. While a transfer is in progress no other begins (log 4). -/
def Obligations.TransferBegins : Prop :=
  ∀ (s : State),
    let begun : BitVec 24 → Bool → Result := fun bits carries =>
      .next { s with link := ⟨s.link.phase, some ⟨bits, carries⟩⟩ }
    (s.link.transfer = none →
      (s.link.phase = .ready → exec .transferBegin s = begun (1#8 ++ 0#16) false)
      ∧ (∀ k n ws, s.link.phase = .collecting k n ws → exec .transferBegin s = begun (2#8 ++ word n) false)
      ∧ (∀ k ws late, s.link.phase = .executing k ws late → exec .transferBegin s = begun (2#8 ++ 0#16) false)
      ∧ (∀ w q, s.link.phase = .results (.data w :: q) → exec .transferBegin s = begun (3#8 ++ w) true)
      ∧ (∀ w q, s.link.phase = .results (.done w :: q) → exec .transferBegin s = begun (4#8 ++ w) true)
      ∧ ∀ r q, s.link.phase = .results (.reject r :: q) → exec .transferBegin s = begun (5#8 ++ word r.code) true)
    ∧ (s.link.transfer ≠ none → exec .transferBegin s = .next s)
    ∧ exec .transferVoid s = .next { s with link := ⟨s.link.phase, none⟩ }

/-- R159, R161 to R164, R166, R167: the host's kind and word in every phase of the link. -/
def Obligations.WordsTaken : Prop :=
  ∀ (s : State) (x : Transfer) (w : Word),
    let ready : State := { s with link := ⟨.ready, none⟩ }
    let unknown : Result := .next (s.answering (.reject .unknownCommand))
    s.link.transfer = some x →
    (s.link.phase = .ready →
      (∀ kind : Byte, kind ≠ 90 → kind ≠ 165 → exec (.transferComplete kind w) s = .next ready)
      ∧ exec (.transferComplete 165 w) s = unknown)
    ∧ (s.link.phase = .ready ∨ (∃ q, s.link.phase = .results q) →
      (Cmd.ofCode w = none → exec (.transferComplete 90 w) s = unknown)
      ∧ ∀ k : Cmd, w = word k.code →
        (0 < k.operands →
          exec (.transferComplete 90 w) s = .next { s with link := ⟨.collecting k k.operands [], none⟩ })
        ∧ (∀ i, k.operands = 0 → directRow k [] = some i → exec (.transferComplete 90 w) s = exec i ready)
        ∧ (k.operands = 0 → k.isEngine = true → exec (.transferComplete 90 w) s = .next (ready.request k [])))
    ∧ (∀ q, s.link.phase = .results q →
      let left := if x.carries then q.tail else q
      (∀ kind : Byte, kind ≠ 90 → kind ≠ 165 → kind ≠ 60 →
        exec (.transferComplete kind w) s =
          .next (if left = [] then ready else { s with link := ⟨.results left, none⟩ }))
      ∧ (left = [] → exec (.transferComplete 165 w) s = unknown)
      ∧ (left ≠ [] → exec (.transferComplete 165 w) s = .next { s with link := ⟨.results left, none⟩ })
      ∧ exec (.transferComplete 60 w) s = .next ready)
    ∧ (∀ k n ws, s.link.phase = .collecting k n ws →
      exec (.transferComplete 0 w) s = .next { s with link := ⟨.collecting k n ws, none⟩ }
      ∧ exec (.transferComplete 60 w) s = .next (s.answering (.reject .aborted))
      ∧ (∀ kind : Byte, kind ≠ 0 → kind ≠ 165 → kind ≠ 60 → exec (.transferComplete kind w) s = unknown)
      ∧ (2 ≤ n → exec (.transferComplete 165 w) s =
          .next { s with link := ⟨.collecting k (n - 1) (ws ++ [w]), none⟩ })
      ∧ (∀ i, n = 1 → directRow k (ws ++ [w]) = some i → exec (.transferComplete 165 w) s = exec i ready)
      ∧ (n = 1 → k.isEngine = true → exec (.transferComplete 165 w) s = .next (ready.request k (ws ++ [w]))))
    ∧ ∀ k ws late, s.link.phase = .executing k ws late →
      (∀ kind : Byte, kind ≠ 60 →
        exec (.transferComplete kind w) s = .next { s with link := ⟨.executing k ws late, none⟩ })
      ∧ (late = true → exec (.transferComplete 60 w) s = .next { s with link := ⟨.executing k ws late, none⟩ })
      ∧ (late = false → s.arbiter.hostRequest = true →
        exec (.transferComplete 60 w) s = .next
          (State.answering { s with arbiter := { s.arbiter with hostRequest := false } } (.reject .aborted)))
      ∧ (late = false → s.arbiter.hostRequest = false →
        exec (.transferComplete 60 w) s = .next { s with link := ⟨.executing k ws true, none⟩ })

/-- R162 to R167: a DIRECT command sent over the link word by word does, in every phase of the link, what its row
does at once: it is taken in READY and RESULTS, ends a command in COLLECTING, and is discarded in EXECUTING. -/
def Obligations.LinkDeliversDirect : Prop :=
  ∀ (s : State) (k : Cmd) (ws : List Word) (i : Instr),
    directRow k ws = some i → ws.length = k.operands → runAll (hostSends k ws) s = exec i s

/-- R131, R132, R153, R162 to R167: an ENGINE command sent over the link word by word, from READY or RESULTS, is
judged by the service state, and then stands before the arbiter with its operands, or is granted at once; from
COLLECTING it ends the command being collected and is not started, and in EXECUTING it is discarded. -/
def Obligations.LinkDeliversEngine : Prop :=
  ∀ (s : State) (k : Cmd) (ws : List Word), k.isEngine = true → ws.length = k.operands →
    let placed : State := { s with
      link := ⟨.executing k ws false, none⟩
      arbiter := { s.arbiter with hostRequest := true } }
    (s.takesCommand = true → s.service = .clearing →
      runAll (hostSends k ws) s = .next (s.answering (.reject .wrongState)))
    ∧ (s.takesCommand = true → s.service = .unstarted ∨ s.service = .resumable → k.group = .record →
      runAll (hostSends k ws) s = .next (s.answering (.reject .notStarted)))
    ∧ (s.takesCommand = true → s.inService = true ∨ (k.group = .fare ∧ s.service ≠ .clearing) →
      runAll (hostSends k ws) s = .next placed.settle
      ∧ (s.engine ≠ .idle → runAll (hostSends k ws) s = .next placed)
      ∧ (s.engine = .idle → s.arbiter.quiet = true →
        runAll (hostSends k ws) s = .next { s with
          link := ⟨.executing k ws false, none⟩
          engine := .host ⟨k, ws, none⟩ }))
    ∧ (∀ c n words, s.link.phase = .collecting c n words →
      runAll (hostSends k ws) s = .next (s.answering (.reject .unknownCommand)))
    ∧ (s.linkFree = false → runAll (hostSends k ws) s = .next { s with link := ⟨s.link.phase, none⟩ })

/-- R169, R170: NOP and IDENTIFY in every service state, and what a COMMAND 1 shows the host about the link
in READY and RESULTS, in COLLECTING and in EXECUTING. -/
def Obligations.NopAndIdentify : Prop :=
  (∀ s : State, s.takesCommand = true →
    exec .nop s = .next (s.answering (.done [] 0))
    ∧ exec .identify s = .next (s.answering (.done [24013, 412, 1] 3)))
  ∧ ∀ s : State, s.link.transfer = none →
    ∃ t : State, runAll [.transferBegin, .transferComplete 90 1, .transferBegin] s = .next t
      ∧ (s.link.phase = .ready ∨ (∃ q, s.link.phase = .results q) → t.link.transfer = some ⟨4#8 ++ 0#16, true⟩)
      ∧ (∀ k n ws, s.link.phase = .collecting k n ws → t.link.transfer = some ⟨5#8 ++ 1#16, true⟩)
      ∧ ∀ k ws late, s.link.phase = .executing k ws late → t.link.transfer = some ⟨2#8 ++ 0#16, false⟩

/-- R164 to R166, R168: the row of a DIRECT command in the phases that do not start it, and the DIRECT commands that
need service refused by the service state before any operand is looked at. In COLLECTING the row ends the command
being collected with REJECT UNKNOWN COMMAND, and in EXECUTING its words are discarded; the row stands for the
transfers that carry its words (log 5). -/
def Obligations.DirectJudged : Prop :=
  ∀ (s : State) (k : Cmd) (ws : List Word) (i : Instr), directRow k ws = some i →
    (s.takesCommand = true → k.group = .service → s.service = .unstarted ∨ s.service = .resumable →
      exec i s = .next (s.answering (.reject .notStarted)))
    ∧ (s.takesCommand = true → k.group = .service → s.service = .clearing →
      exec i s = .next (s.answering (.reject .wrongState)))
    ∧ (∀ c n words, s.link.phase = .collecting c n words →
      exec i s = .next (s.answering (.reject .unknownCommand)))
    ∧ (s.linkFree = false → exec i s = .next { s with link := ⟨s.link.phase, none⟩ })

/-! ### The record engine -/

/-- R129, R137, R150, R153, R156: the operation in service moves on stage by stage and no further; a host
request is served in one stage and handed over in the next, as ABORTED LATE where an ABORT met it. A row whose
operation is not in service changes nothing (log 4). -/
def Obligations.OperationsMoveByStages : Prop :=
  (∀ (s : State) (d : Decision) (n : Nat), s.engine = .deciding d → d.stage ≠ .decisionEnd →
    ∃ t : State, exec (.tapDecision (.stages 1)) s = .next t
      ∧ exec (.tapDecision (.stages (n + 1))) s = exec (.tapDecision (.stages n)) t)
  ∧ (∀ (s : State) (g : Commit) (n : Nat), s.engine = .committing g → g.stage ≠ .commitEnd →
    ∃ t : State, exec (.commit (.stages 1)) s = .next t
      ∧ exec (.commit (.stages (n + 1))) s = exec (.commit (.stages n)) t)
  ∧ (∀ (s : State) (k : Cmd) (ws : List Word) (one whole : Instr), s.hosts k ws →
    engineRow k (.stages 1) = some one → engineRow k .whole = some whole →
    ∃ (t : State) (a : Answer), exec one s = .next t
      ∧ t.engine = .host ⟨k, ws, some a⟩ ∧ t.link = s.link
      ∧ exec whole s = exec one t ∧ exec one t = .next (t.handed a)
      ∧ ∀ x, exec one { t with link := ⟨.executing k ws true, x⟩ } =
          .next (State.handed { t with link := ⟨.executing k ws true, x⟩ } (.reject .abortedLate)))
  ∧ ∀ (s : State) (p : Progress),
    (s.engine.decision = none → exec (.tapDecision p) s = .next s)
    ∧ (s.engine.commit = none → exec (.commit p) s = .next s)
    ∧ (s.engine.clearingAt = none → exec (.clearing p) s = .next s ∧ exec .clearingComplete s = .next s)
    ∧ ∀ k i, engineRow k p = some i → (∀ h, s.engine = .host h → h.cmd ≠ k) → exec i s = .next s

/-- R5, R88, R115, R117, R129, R132, R137 to R145: a decision run to its end refuses with the reason of the first
stage that refuses, or with CANCELLED where a cancel was noted, an OPEN result among them. The whole state that it
leaves: the lane at rest with its VERDICT REFUSE, a hold that landed given back, the memory with a provisional
record where an OPEN result had earned it, the attention unit with what the stages raise and then LANE FAULT for the
messages that found no room, the engine IDLE, and then the arbiter's next grant. -/
def Obligations.DecisionRefuses : Prop :=
  ∀ (s : State) (d : Decision), s.engine = .deciding d → d.Fresh → WatchLegal s.watch →
    let p := s.lane d.lane
    let refused : Reason → FareFields → Result := fun reason fields =>
      .next (State.settle (State.engineEnds { s with
        departures := s.heldAndReleased d
        mem := s.tapMemory d
        attention := (s.tapEvents d).occurs .laneFault (numberSubject d.lane.val)
          (dropped p.queue (1 + p.closing.length)) } d.lane (p.turnedAway reason fields)))
    (∀ reason, s.tapReason d = some reason →
      exec (.tapDecision .whole) s =
        if p.cancelNoted then refused .cancelled FareFields.zero else refused reason (s.refusalFields d reason))
    ∧ (s.tapReason d = none → p.cancelNoted = true →
      exec (.tapDecision .whole) s = refused .cancelled FareFields.zero)

/-- R107, R116, R119, R129, R132, R138, R143 to R145: a decision run to its end with an OPEN result. The whole state
that it leaves: the lane with its open verdict and its VERDICT OPEN queued, AWAITING with its timer or, on an
UNSENSED lane, COMMITTING with its commit request placed; one hold on the departure where it landed; the memory with
a provisional record where the decision built one; the attention unit with what the stages raise (WATCH HIT for an
entry in NOTE mode, the events of the hold) and LANE FAULT where the verdict found no room; the engine IDLE, and
then the arbiter's next grant. -/
def Obligations.DecisionOpens : Prop :=
  ∀ (s : State) (d : Decision) (slot : Nat) (r : CardRecord) (built : Bool) (x : DepIx),
    s.engine = .deciding d → d.Fresh → WatchLegal s.watch →
    s.tapReason d = none → s.tapRecord d = .ok (slot, r, built) → s.holdTarget (s.lane d.lane).berth = .ok x →
    (s.lane d.lane).cancelNoted = false →
    let p := s.lane d.lane
    let fare := s.tapCharge d r x
    let figure : Int := r.balance - fare.1
    let fields : FareFields :=
      if r.product = .purse then
        ⟨fare.1, saturateDisplay figure, displayClamped figure, displayLow s.fares.lowThreshold figure⟩
      else FareFields.zero
    let opened : LanePort := { p with
      tapped := none
      openVerdict := some ⟨slot, d.card, x, fare.1, fare.2, d.day, d.minute, (s.dep x).route, built⟩
      state := if p.kind = .sensed then .awaiting else .committing
      secondsLeft := if p.kind = .sensed then p.timer else p.secondsLeft
      queue := offered p.queue [.verdict ⟨none, fields, (s.dep x).tag, (s.dep x).remaining - 1⟩] }
    exec (.tapDecision .whole) s = .next (State.settle { s with
      lanes := s.lanes.set d.lane.val opened
      departures := s.departures.set x.val (s.dep x).withHold
      mem := if built then Memory.writeSlot s.mem slot (encodeRecord r) else s.mem
      attention := (s.tapEvents d).occurs .laneFault (numberSubject d.lane.val) (dropped p.queue 1)
      arbiter :=
        if p.kind = .sensed then s.arbiter
        else { s.arbiter with commitPending := s.arbiter.commitPending.set d.lane.val true }
      engine := .idle })

/-- R49, R58 to R64: the band in force, the rounding of the raw fare, transfer credit, the daily cap, the
bound on every charge, and the sufficiency test. -/
def Obligations.FareStages : Prop :=
  ∀ (t : FareTables) (day minute : Nat), t.Legal →
    (∃ b : BandIx, bandInForce t.bands minute = t.bands[b] ∧ bandUsed b t.bands[b] = true
      ∧ (t.bands[b]).start ≤ minute
      ∧ ∀ e : BandIx, bandUsed e t.bands[e] = true → (t.bands[e]).start ≤ minute →
          (t.bands[e]).start ≤ (t.bands[b]).start)
    ∧ ∀ (r : CardRecord) (route : RouteClass),
      (r.product = .purse →
        let b := t.baseFare route r.fareClass
        let k := (bandInForce t.bands minute).rates[r.fareClass]
        let raw := rawFare b k
        let cap := t.caps[r.fareClass]
        let spend := if r.capDay = day then r.daySpend else 0
        let credited := fun j : Journey => 0 < t.transferWindow ∧ j.startDay = day ∧ j.startMinute ≤ minute
          ∧ minute ≤ j.startMinute + t.transferWindow ∧ j.route ≠ route
        let capped := fun figure : Nat => if cap = 0 then figure else min figure (cap - spend)
        32768 * raw ≤ b * k + 16384 ∧ b * k + 16384 < 32768 * (raw + 1) ∧ raw ≤ 119998
        ∧ (∀ j, r.journey = some j → credited j →
            fareCharge t r route day minute = (capped (raw - j.paid), true))
        ∧ ((∀ j, r.journey = some j → ¬credited j) →
            fareCharge t r route day minute = (capped raw, false))
        ∧ (fareCharge t r route day minute).1 ≤ raw
        ∧ ∀ charge : Nat, fareSufficient t r charge = true ↔
            -(t.allowances[r.fareClass] : Int) ≤ r.balance - charge)
      ∧ (r.product ≠ .purse →
        fareCharge t r route day minute = (0, false)
        ∧ ∀ charge : Nat, fareSufficient t r charge = true ∧ openFareFields t r charge = FareFields.zero)

/-- R47, R48, R80, R90, R118, R129, R132, R150 to R152: a commit run to its end counts the passenger in every case,
and charges the card where the slot reads LIVE with it; an uncharged passage writes nothing and is reported. The
whole state that it leaves, the engine IDLE in it, and then the arbiter's next grant. -/
def Obligations.CommitTaken : Prop :=
  ∀ (s : State) (l : Lane) (v : OpenVerdict), s.engine = .committing ⟨l, .count, none⟩ →
    (s.lane l).openVerdict = some v → (s.dep v.departure).state ≠ .empty → Memory.wf s.mem = true →
    let p := s.lane l
    let drops := dropped p.queue ((if p.kind = .sensed then 1 else 0) + p.closing.length)
    let ended : List Host.Cell → Attention → Result := fun mem attention =>
      .next (State.settle (State.engineEnds { s with
        departures := s.departures.set v.departure.val ((s.dep v.departure).boardedOne v.charge)
        mem := mem
        attention := attention.occurs .laneFault (numberSubject l.val) drops } l p.finished))
    (∀ r, Memory.verdict s.mem v.slot = .live r → r.card = v.card →
      let allowance := s.fares.allowances[r.fareClass]
      ∃ m, StoresSlot s.mem m v.slot (encodeRecord (chargedRecord r v allowance s.clock.day))
        ∧ exec (.commit .whole) s = ended m
            (s.attention.occurs .balanceClamped (wideSubject v.slot)
              (if r.product = .purse ∧ r.balance - v.charge < -(allowance : Int) then 1 else 0)))
    ∧ ((∀ r, Memory.verdict s.mem v.slot = .live r → r.card ≠ v.card) →
      exec (.commit .whole) s = ended s.mem
        ((s.attention.occurs .memoryFault (wideSubject v.slot)
          (if Memory.verdict s.mem v.slot = .fault then 1 else 0)).occurs
          .unchargedPassage (numberSubject l.val) 1))

/-- R17, R190: clearing makes each slot of the table FREE in its order and touches no other byte; its
completion brings SERVING. The slots as the measure of progress, and that a completion before the last slot changes
nothing, are the model's (log 3, log 4). -/
def Obligations.ClearingTaken : Prop :=
  ∀ (s : State) (first : Nat), s.engine = .clearing first → Memory.wf s.mem = true →
    (∀ p : Progress, ∃ (m : List Host.Cell) (upto : Nat),
      exec (.clearing p) s = .next { s with mem := m, engine := .clearing upto }
      ∧ Memory.wf m = true
      ∧ (∀ n, p = .stages n → upto = max first (min (first + n) s.geometry.slots))
      ∧ (p = .whole → upto = max first s.geometry.slots)
      ∧ (∀ slot, first ≤ slot → slot < upto → Memory.readSlot m slot = withCheck freeContent)
      ∧ ∀ a, a < 32 * first ∨ 32 * upto ≤ a → Memory.read m a = Memory.read s.mem a)
    ∧ (s.geometry.slots ≤ first →
      exec .clearingComplete s = .next (State.settle { s with service := .serving, engine := .idle })
      ∧ (s.arbiter.quiet = true →
        exec .clearingComplete s = .next { s with service := .serving, engine := .idle }))
    ∧ (first < s.geometry.slots → exec .clearingComplete s = .next s)

/-! ### Host record commands -/

/-- R13, R38, R40: CARD FIND on a card that the table holds; and for every command that names a card: BAD
OPERAND before any slot is read, FAULT with MEMORY FAULT raised, NOT FOUND. -/
def Obligations.CardCommandsLookUp : Prop :=
  (∀ (s : State) (card : CardNumber) (mask : Word) (slot : Nat) (r : CardRecord),
    s.hosts .cardFind (cardWords card ++ [mask]) → validCard card = true → mask.toNat ≤ 1023 → s.finds card slot r →
    exec (.cardFind .whole) s = .next (s.handed (.counted (selected (recordTable r slot) mask))))
  ∧ ∀ (s : State) (k : Cmd) (ws : List Word) (i : Instr),
    k ∈ [Cmd.cardFind, .addValue, .setBalance, .settle, .setProduct, .deny, .allow, .cardRetire] →
    engineRow k .whole = some i → s.hosts k ws →
    (operandsInRange k ws = false → exec i s = .next (s.handed (.reject .badOperand)))
    ∧ (∀ slot, operandsInRange k ws = true →
        lookupSlots s.mem (cardArg ws) (windowSlots s.geometry (cardArg ws)) none none = .fault slot →
        exec i s = .next (State.handed { s with
          attention := s.attention.occur .memoryFault (word (slot / 65536), word slot) } (.reject .fault)))
    ∧ (∀ insert, operandsInRange k ws = true →
        lookupSlots s.mem (cardArg ws) (windowSlots s.geometry (cardArg ws)) none none = .notFound insert →
        exec i s = .next (s.handed (.reject .notFound)))

/-- R14, R26, R29, R39, R195: the record that the eighteen words of CARD ADD give, whatever they are within
their ranges, is stored in the insert slot; and the refusals. That the paid so far is decoded for a journey that is
absent too is the model's reading (log 24). -/
def Obligations.CardAddTaken : Prop :=
  ∀ (s : State) (ws : List Word), s.hosts .cardAdd ws → Memory.wf s.mem = true →
    let r := cardAddGives ws
    let result := lookupSlots s.mem r.card (windowSlots s.geometry r.card) none none
    (cardAddInRange ws = true →
      (∀ slot, result = .notFound (some slot) →
        ∃ m, StoresSlot s.mem m slot (encodeRecord r)
          ∧ exec (.cardAdd .whole) s = .next (State.handed { s with mem := m } .ok))
      ∧ (result = .notFound none →
        exec (.cardAdd .whole) s = .next (State.handed { s with
          attention := s.attention.occur .tableFull (wideSubject (homeBucket s.geometry r.card)) }
          (.reject .tableFull)))
      ∧ (∀ slot old insert, result = .found slot old insert →
        exec (.cardAdd .whole) s = .next (s.handed (.reject .duplicate)))
      ∧ (∀ slot, result = .fault slot →
        exec (.cardAdd .whole) s = .next (State.handed { s with
          attention := s.attention.occur .memoryFault (wideSubject slot) } (.reject .fault))))
    ∧ (cardAddInRange ws = false → exec (.cardAdd .whole) s = .next (s.handed (.reject .badOperand)))

/-- R29, R41 to R43: ADD VALUE, SET BALANCE and SETTLE on a card that the table holds. -/
def Obligations.BalancesChanged : Prop :=
  ∀ (s : State) (card : CardNumber) (slot : Nat) (r : CardRecord),
    validCard card = true → s.finds card slot r → Memory.wf s.mem = true →
    (∀ amount : Int, s.hosts .addValue (cardWords card ++ twoWordsSigned amount) → 1 ≤ amount → amount ≤ 999999 →
      (r.balance + amount ≤ 999999 →
        ∃ m, StoresSlot s.mem m slot (encodeRecord { r with balance := r.balance + amount })
          ∧ exec (.addValue .whole) s = .next
              (State.handed { s with mem := m } (.done (twoWordsSigned (r.balance + amount)) 0)))
      ∧ (999999 < r.balance + amount → exec (.addValue .whole) s = .next (s.handed (.reject .ceiling))))
    ∧ (∀ value : Int, s.hosts .setBalance (cardWords card ++ twoWordsSigned value) → -5000 ≤ value → value ≤ 999999 →
      ∃ m, StoresSlot s.mem m slot
          (encodeRecord { r with balance := value, latch := r.latch || decide (value < 0) })
        ∧ exec (.setBalance .whole) s = .next (State.handed { s with mem := m } .ok))
    ∧ (s.hosts .settle (cardWords card) →
      (0 ≤ r.balance →
        ∃ m, StoresSlot s.mem m slot (encodeRecord { r with latch := false, provisional := false })
          ∧ exec (.settle .whole) s = .next (State.handed { s with mem := m } .ok))
      ∧ (r.balance < 0 → exec (.settle .whole) s = .next (s.handed (.reject .badOperand))))

/-- R16, R26, R44 to R46: SET PRODUCT, DENY, ALLOW and CARD RETIRE on a card that the table holds. -/
def Obligations.RecordsChanged : Prop :=
  ∀ (s : State) (card : CardNumber) (slot : Nat) (r : CardRecord),
    validCard card = true → s.finds card slot r → Memory.wf s.mem = true →
    (∀ (f : FareClass) (first last : Word),
      (s.hosts .setProduct (cardWords card ++ [word (256 + f.val), first, last]) → first.toNat ≤ last.toNat →
        ∃ m, StoresSlot s.mem m slot (encodeRecord { r with
              product := .pass, fareClass := f, passFirst := first.toNat, passLast := last.toNat })
          ∧ exec (.setProduct .whole) s = .next (State.handed { s with mem := m } .ok))
      ∧ (s.hosts .setProduct (cardWords card ++ [word f.val, first, last]) →
        ∃ m, StoresSlot s.mem m slot (encodeRecord { r with
              product := .purse, fareClass := f, passFirst := 0, passLast := 0 })
          ∧ exec (.setProduct .whole) s = .next (State.handed { s with mem := m } .ok))
      ∧ (s.hosts .setProduct (cardWords card ++ [word (512 + f.val), first, last]) →
        ∃ m, StoresSlot s.mem m slot (encodeRecord { r with
              product := .staff, fareClass := f, passFirst := 0, passLast := 0 })
          ∧ exec (.setProduct .whole) s = .next (State.handed { s with mem := m } .ok)))
    ∧ (s.hosts .deny (cardWords card) →
      ∃ m, StoresSlot s.mem m slot (encodeRecord { r with deny := true })
        ∧ exec (.deny .whole) s = .next (State.handed { s with mem := m } .ok))
    ∧ (s.hosts .allow (cardWords card) →
      ∃ m, StoresSlot s.mem m slot (encodeRecord { r with deny := false })
        ∧ exec (.allow .whole) s = .next (State.handed { s with mem := m } .ok))
    ∧ (s.hosts .cardRetire (cardWords card) →
      ((∀ l : Lane, (s.lane l).holdsSlot slot = false) →
        ∃ m, StoresSlot s.mem m slot freeContent
          ∧ exec (.cardRetire .whole) s = .next (State.handed { s with mem := m } .ok))
      ∧ ((∃ l : Lane, (s.lane l).holdsSlot slot = true) →
        exec (.cardRetire .whole) s = .next (s.handed (.reject .inPassage))))

/-! ### Fare tables, the switch and the watch list -/

/-- R31, R52 to R55: ENFORCE and the four fare-table writes: the entries written, or BAD OPERAND and nothing
written. -/
def Obligations.FareTablesWritten : Prop :=
  ∀ (s : State),
    let refused : Result := .next (s.handed (.reject .badOperand))
    let fares : FareTables → Result := fun t => .next (State.handed { s with fares := t } .ok)
    (∀ w : Word, s.hosts .enforce [w] →
      (w = 1 → exec (.enforce .whole) s = .next (State.handed { s with enforce := true } .ok))
      ∧ (w = 0 → exec (.enforce .whole) s = .next (State.handed { s with enforce := false } .ok))
      ∧ (2 ≤ w.toNat → exec (.enforce .whole) s = refused))
    ∧ (∀ r f b : Word, s.hosts .fareSetBase [r, f, b] →
      (∀ (route : RouteClass) (fc : FareClass), r = word route.val → f = word fc.val → b.toNat ≤ 60000 →
        exec (.fareSetBase .whole) s =
          fares { s.fares with base := s.fares.base.set (4 * route.val + fc.val) b.toNat (by omega) })
      ∧ (8 ≤ r.toNat ∨ 4 ≤ f.toNat ∨ 60000 < b.toNat → exec (.fareSetBase .whole) s = refused))
    ∧ (∀ n start k0 k1 k2 k3 : Word, s.hosts .fareSetBand [n, start, k0, k1, k2, k3] →
      (∀ b : BandIx, n = word b.val →
        let bands := s.fares.bands.set b.val ⟨start.toNat, #v[k0.toNat, k1.toNat, k2.toNat, k3.toNat]⟩
        let startOk := if b = 0 then start = 0 else (1 ≤ start.toNat ∧ start.toNat ≤ 1919) ∨ start = 65535#16
        let rising := ∀ x y : BandIx, x < y → bandUsed x bands[x] = true → bandUsed y bands[y] = true →
          (bands[x]).start < (bands[y]).start
        (startOk → rising → exec (.fareSetBand .whole) s = fares { s.fares with bands := bands })
        ∧ (¬(startOk ∧ rising) → exec (.fareSetBand .whole) s = refused))
      ∧ (6 ≤ n.toNat → exec (.fareSetBand .whole) s = refused))
    ∧ (∀ f cap allowance : Word, s.hosts .fareSetClass [f, cap, allowance] →
      (∀ fc : FareClass, f = word fc.val → cap.toNat ≤ 65000 → allowance.toNat ≤ 5000 →
        exec (.fareSetClass .whole) s = fares { s.fares with
          caps := s.fares.caps.set fc.val cap.toNat
          allowances := s.fares.allowances.set fc.val allowance.toNat })
      ∧ (4 ≤ f.toNat ∨ 65000 < cap.toNat ∨ 5000 < allowance.toNat → exec (.fareSetClass .whole) s = refused))
    ∧ ∀ window low policy f : Word, s.hosts .fareSetPolicy [window, low, policy, f] →
      (∀ (q : UnknownPolicy) (fc : FareClass), policy = word q.code → f = word fc.val →
        window.toNat ≤ 240 → low.toNat ≤ 65000 →
        exec (.fareSetPolicy .whole) s = fares { s.fares with
          transferWindow := window.toNat
          lowThreshold := low.toNat
          policy := q
          provisionalClass := fc })
      ∧ (240 < window.toNat ∨ 65000 < low.toNat ∨ 2 ≤ policy.toNat ∨ 4 ≤ f.toNat →
        exec (.fareSetPolicy .whole) s = refused)

/-- R56: the four parts of FARE READ, and any other part. -/
def Obligations.FaresRead : Prop :=
  ∀ (s : State) (part : Word), s.hosts .fareRead [part] →
    let answered : List Word → Word → Prop := fun data n =>
      exec (.fareRead .whole) s = .next (s.handed (.done data n))
    (part = 0 → answered ((List.finRange 32).map fun i => word s.fares.base[i]) 32)
    ∧ (part = 1 → answered ((List.finRange 6).flatMap fun b =>
        let band := s.fares.bands[b]
        [word band.start, word band.rates[(0 : Fin 4)], word band.rates[(1 : Fin 4)], word band.rates[(2 : Fin 4)],
          word band.rates[(3 : Fin 4)]]) 30)
    ∧ (part = 2 → answered
        ((List.finRange 4).flatMap fun f => [word s.fares.caps[f], word s.fares.allowances[f]]) 8)
    ∧ (part = 3 → answered
        [word s.fares.transferWindow, word s.fares.lowThreshold, word s.fares.policy.code,
          word s.fares.provisionalClass.val] 4)
    ∧ (4 ≤ part.toNat → exec (.fareRead .whole) s = .next (s.handed (.reject .badOperand)))

/-- R148, R149: WATCH SET with its checks, WATCH CLEAR and WATCH READ. -/
def Obligations.WatchListCommanded : Prop :=
  ∀ (s : State),
    let refused : Result := .next (s.handed (.reject .badOperand))
    (∀ (e : WatchIx) (card : CardNumber) (mode : WatchMode),
      s.hosts .watchSet (word e.val :: cardWords card ++ [word mode.code]) → validCard card = true →
      let heldElsewhere := ∃ i : WatchIx, i ≠ e ∧ ∃ m, s.watch[i] = some ⟨card, m⟩
      (¬heldElsewhere →
        exec (.watchSet .whole) s = .next (State.handed { s with watch := s.watch.set e.val (some ⟨card, mode⟩) } .ok))
      ∧ (heldElsewhere → exec (.watchSet .whole) s = .next (s.handed (.reject .duplicate))))
    ∧ (∀ (n mode : Word) (card : CardNumber), s.hosts .watchSet (n :: cardWords card ++ [mode]) →
      4 ≤ n.toNat ∨ validCard card = false ∨ mode = 0 ∨ 3 ≤ mode.toNat → exec (.watchSet .whole) s = refused)
    ∧ (∀ n : Word, s.hosts .watchClear [n] →
      (∀ e : WatchIx, n = word e.val →
        exec (.watchClear .whole) s = .next (State.handed { s with watch := s.watch.set e.val none } .ok))
      ∧ (4 ≤ n.toNat → exec (.watchClear .whole) s = refused))
    ∧ (s.hosts .watchRead [] →
      exec (.watchRead .whole) s = .next (s.handed (.done
        ((List.finRange 4).flatMap fun e =>
          match s.watch[e] with
          | none => [0, 0, 0, 0]
          | some x => cardWords x.card ++ [word x.mode.code]) 16)))

/-! ### The card table -/

/-- R20, R21: TABLE SEEK and TABLE READ, with the movement of the cursor. -/
def Obligations.TableSoughtAndRead : Prop :=
  (∀ (s : State) (hi lo : Word), s.hosts .tableSeek [hi, lo] →
    let index := 65536 * hi.toNat + lo.toNat
    (index < 4 * 2 ^ s.geometry.k →
      exec (.tableSeek .whole) s = .next (State.handed { s with tableCursor := index } .ok))
    ∧ (4 * 2 ^ s.geometry.k ≤ index → exec (.tableSeek .whole) s = .next (s.handed (.reject .badOperand))))
  ∧ ∀ (s : State), s.hosts .tableRead [] → s.tableCursor < 4 * 2 ^ s.geometry.k →
    let after := if s.tableCursor + 1 = 4 * 2 ^ s.geometry.k then 0 else s.tableCursor + 1
    (Memory.verdict s.mem s.tableCursor ≠ .fault →
      exec (.tableRead .whole) s = .next (State.handed { s with tableCursor := after }
        (.done (Memory.readSlot s.mem s.tableCursor).toList 0)))
    ∧ (Memory.verdict s.mem s.tableCursor = .fault →
      exec (.tableRead .whole) s = .next (State.handed { s with
        tableCursor := after
        attention := s.attention.occur .memoryFault (wideSubject s.tableCursor) } (.reject .fault)))

/-- R22, R23: TABLE WRITE of FREE content and of a record, with every refusal in the order of its steps. That
step 4 reads every slot of the window, and that a fault there wins over an earlier duplicate, is the model's
reading (log 21). -/
def Obligations.TableWritten : Prop :=
  ∀ (s : State) (ws : Vector Word 15), s.hosts .tableWrite ws.toList → s.tableCursor < 4 * 2 ^ s.geometry.k →
    Memory.wf s.mem = true →
    let after := if s.tableCursor + 1 = 4 * 2 ^ s.geometry.k then 0 else s.tableCursor + 1
    let state := (ws[(0 : Fin 15)]).toNat % 4
    let done := fun (m : List Host.Cell) => State.handed { s with mem := m, tableCursor := after } .ok
    let inPassage := ∃ l : Lane, (s.lane l).holdsSlot s.tableCursor = true
    (state = 0 →
      (¬inPassage → ∃ m, StoresSlot s.mem m s.tableCursor freeContent ∧ exec (.tableWrite .whole) s = .next (done m))
      ∧ (inPassage → exec (.tableWrite .whole) s = .next (s.handed (.reject .inPassage))))
    ∧ (2 ≤ state → exec (.tableWrite .whole) s = .next (s.handed (.reject .badOperand)))
    ∧ (state = 1 → decodeRecord ws = none → exec (.tableWrite .whole) s = .next (s.handed (.reject .badOperand)))
    ∧ ∀ r, state = 1 → decodeRecord ws = some r →
      let window := windowSlots s.geometry r.card
      let others := window.filter (· ≠ s.tableCursor)
      let faulty := others.find? fun slot => Memory.verdict s.mem slot == .fault
      let held := ∃ slot ∈ others, s.holdsCard slot r.card
      (s.tableCursor ∉ window → exec (.tableWrite .whole) s = .next (s.handed (.reject .badOperand)))
      ∧ (s.tableCursor ∈ window → ∀ slot, faulty = some slot →
        exec (.tableWrite .whole) s = .next (State.handed { s with
          attention := s.attention.occur .memoryFault (wideSubject slot) } (.reject .fault)))
      ∧ (s.tableCursor ∈ window → faulty = none → held →
        exec (.tableWrite .whole) s = .next (s.handed (.reject .duplicate)))
      ∧ (s.tableCursor ∈ window → faulty = none → ¬held → inPassage →
        exec (.tableWrite .whole) s = .next (s.handed (.reject .inPassage)))
      ∧ (s.tableCursor ∈ window → faulty = none → ¬held → ¬inPassage →
        ∃ m, StoresSlot s.mem m s.tableCursor (encodeRecord { r with latch := r.latch || decide (r.balance < 0) })
          ∧ exec (.tableWrite .whole) s = .next (done m))

/-- R179 to R181: the sweep stops at the first changed record or slot fault of the 256 slots from its cursor
on, and otherwise passes them all. -/
def Obligations.SweepTaken : Prop :=
  ∀ (s : State), s.hosts .sweepNext [] → s.sweepCursor < 4 * 2 ^ s.geometry.k → 10 ≤ s.geometry.k →
    Memory.wf s.mem = true →
    let slots := 4 * 2 ^ s.geometry.k
    let spot := fun n : Nat => (s.sweepCursor + n) % slots
    let passed := fun n : Nat =>
      Memory.verdict s.mem (spot n) = .free ∨ ∃ r, Memory.verdict s.mem (spot n) = .live r ∧ r.changed = false
    (∀ (n : Nat) (r : CardRecord), n < 256 → (∀ i, i < n → passed i) → Memory.verdict s.mem (spot n) = .live r →
      r.changed = true →
      ∃ m, StoresSlot s.mem m (spot n) (encodeRecord { r with changed := false })
        ∧ exec (.sweepNext .whole) s = .next (State.handed { s with mem := m, sweepCursor := spot (n + 1) }
            (.done (recordTable r (spot n)).flatten 20)))
    ∧ (∀ n : Nat, n < 256 → (∀ i, i < n → passed i) → Memory.verdict s.mem (spot n) = .fault →
      exec (.sweepNext .whole) s = .next (State.handed { s with
        sweepCursor := spot (n + 1)
        attention := s.attention.occur .memoryFault (wideSubject (spot n)) } (.reject .fault)))
    ∧ ((∀ i, i < 256 → passed i) →
      exec (.sweepNext .whole) s = .next (State.handed { s with sweepCursor := spot 256 } .ok))

/-- R1: the device holds other words in a slot from then on, and every other byte is as it was. A slot that
the largest table does not have is the model's fault (1.3, log 22). -/
def Obligations.SlotDecays : Prop :=
  ∀ (s : State) (slot : Nat) (words : Vector Word 16), Memory.wf s.mem = true →
    (slot ≤ 1048575 → ∃ m, exec (.slotDecay slot words) s = .next { s with mem := m }
      ∧ Memory.readSlot m slot = words ∧ Memory.wf m = true
      ∧ ∀ a, a / 32 ≠ slot → Memory.read m a = Memory.read s.mem a)
    ∧ (1048576 ≤ slot → exec (.slotDecay slot words) s = .fault .noSuchSlot)

/-- R3: the check word of a slot write, for any content, and of the FREE pattern. -/
def Obligations.CheckWordWritten : Prop :=
  (∀ (m : List Host.Cell) (slot : Nat) (content : Vector Word 15), Memory.wf m = true →
    let stored := Memory.readSlot (Memory.writeSlot m slot content) slot
    let low := (content.toList.map BitVec.toNat).sum
    (∀ i : Fin 15, stored[i.castSucc] = content[i])
    ∧ (stored[(15 : Fin 16)]).toNat = 65535 - low % 65536
    ∧ (stored.toList.map BitVec.toNat).sum % 65536 = 65535
    ∧ ∀ a, a / 32 ≠ slot → Memory.read (Memory.writeSlot m slot content) a = Memory.read m a)
  ∧ ∀ (m : List Host.Cell) (slot : Nat), Memory.wf m = true →
    (Memory.readSlot (Memory.writeSlot m slot freeContent) slot)[(15 : Fin 16)] = 65535

/-- R8, R9, R11 to R13: the probe window, and what a lookup makes of its slots: the first fault, or the slot
that holds the card, or that none does, with the first FREE slot as insert slot. -/
def Obligations.LookupDecides : Prop :=
  (∀ (g : Geometry) (card : CardNumber), g.Legal →
    let window := windowSlots g card
    let home := (card.toNat / 16777216 ^^^ card.toNat % 16777216) % 2 ^ g.k
    window.length = 4 * g.p ∧ window.Nodup ∧ (∀ slot ∈ window, slot < 4 * 2 ^ g.k)
    ∧ ∀ i, i < 4 * g.p → window[i]? = some (4 * ((home + i / 4) % 2 ^ g.k) + i % 4))
  ∧ ∀ (m : List Host.Cell) (card : CardNumber) (window : List Nat),
    let result := lookupSlots m card window none none
    let holds := fun slot => ∃ r, Memory.verdict m slot = .live r ∧ r.card = card
    (∀ slot, result = .fault slot ↔ window.find? (fun x => Memory.verdict m x == .fault) = some slot)
    ∧ ((∀ x ∈ window, Memory.verdict m x ≠ .fault) →
      (∀ slot r, slot ∈ window → Memory.verdict m slot = .live r → r.card = card →
        (∀ x ∈ window, holds x → x = slot) →
          result = .found slot r (window.find? fun x => Memory.verdict m x == .free))
      ∧ ((∀ x ∈ window, ¬holds x) →
          result = .notFound (window.find? fun x => Memory.verdict m x == .free)))

/-- 11.5, R4, R25, R26, R29, R197: the sixteen words of a slot and what the port reads in them agree both
ways, so that no bit of a record is dropped and no other words read as a record or as FREE. -/
def Obligations.SlotsAgree : Prop :=
  (∀ r : CardRecord, r.inRange = true → r.latchConsistent = true →
    slotVerdict (withCheck (encodeRecord r)) = .live r)
  ∧ (∀ (v : Vector Word 16) (r : CardRecord), slotVerdict v = .live r →
    v = withCheck (encodeRecord r) ∧ r.inRange = true ∧ r.latchConsistent = true)
  ∧ ∀ v : Vector Word 16, slotVerdict v = .free ↔ v = withCheck freeContent

/-! ### Laws that every step keeps -/

/-- R172 to R174. -/
def Obligations.StepKeepsAttentionConsistent : Prop :=
  ∀ s t : State, s.attention.Consistent → step s = .next t → t.attention.Consistent

/-- R6, R19, R49, R53, R71, R146, R148, R183. -/
def Obligations.StepKeepsSettingsLegal : Prop :=
  ∀ s t : State, s.SettingsLegal → step s = .next t → t.SettingsLegal

/-- R104 to R107, R112, R126, R129 to R132, R184, R189, R192. -/
def Obligations.StepKeepsCoherent : Prop :=
  ∀ s t : State, s.Coherent → step s = .next t → t.Coherent

/-- R81, R87 to R91, R142, R145. -/
def Obligations.StepKeepsHoldsCounted : Prop :=
  ∀ s t : State, s.Coherent → s.HoldsCounted → step s = .next t → t.HoldsCounted

/-- R82, R94, R96, R98, R100, R101. -/
def Obligations.StepKeepsBerthsLegal : Prop :=
  ∀ s t : State, s.BerthsLegal → step s = .next t → t.BerthsLegal

/-- R15, R140. -/
def Obligations.StepKeepsOneVerdictPerSlot : Prop :=
  ∀ s t : State, s.Coherent → s.OneVerdictPerSlot → step s = .next t → t.OneVerdictPerSlot

/-- R10, R12, R17, while the device loses nothing: the command at the front is no SLOT_DECAY. -/
def Obligations.StepKeepsTableSound : Prop :=
  ∀ s t : State, s.SettingsLegal → s.Coherent → Memory.wf s.mem = true → s.TableSound →
    (∀ slot words, s.pending.head? ≠ some (.slotDecay slot words)) →
    step s = .next t → t.TableSound

/-- R158. -/
def Obligations.StepKeepsLinkLegal : Prop :=
  ∀ s t : State, s.LinkLegal → step s = .next t → t.LinkLegal

/-- The canonical form of the record memory, so that equal memories are equal data. -/
def Obligations.StepKeepsMemoryCanonical : Prop :=
  ∀ s t : State, Memory.wf s.mem = true → step s = .next t → Memory.wf t.mem = true

/-- Every law above holds right after a cold reset. -/
def Obligations.ResetMeetsTheLaws : Prop :=
  State.reset.attention.Consistent ∧ State.reset.SettingsLegal ∧ State.reset.Coherent ∧ State.reset.HoldsCounted
  ∧ State.reset.BerthsLegal ∧ State.reset.OneVerdictPerSlot ∧ State.reset.TableSound ∧ State.reset.LinkLegal
  ∧ Memory.wf State.reset.mem = true

end Statements
end

