-- ==== Sys2Proof/Laws/Endings.lean ====
section
/-!
SUPPORT. The small lemmas of what the statements conclude of the end of an engine operation: a hold landed and given
back, and the state at the end before the next grant.
-/

namespace Sys2Proof.Machine

/-! ### A hold landed (R85, R86, R91) -/

@[simp] theorem Departure.withHold_state (r : Departure) : r.withHold.state = .boarding := rfl
@[simp] theorem Departure.withHold_held (r : Departure) : r.withHold.held = r.held + 1 := rfl
@[simp] theorem Departure.withHold_boarded (r : Departure) : r.withHold.boarded = r.boarded := rfl
@[simp] theorem Departure.withHold_capacity (r : Departure) : r.withHold.capacity = r.capacity := rfl
@[simp] theorem Departure.withHold_margin (r : Departure) : r.withHold.margin = r.margin := rfl
@[simp] theorem Departure.withHold_route (r : Departure) : r.withHold.route = r.route := rfl
@[simp] theorem Departure.withHold_tag (r : Departure) : r.withHold.tag = r.tag := rfl
@[simp] theorem Departure.withHold_followOn (r : Departure) : r.withHold.followOn = r.followOn := rfl
@[simp] theorem Departure.withHold_takings (r : Departure) : r.withHold.takings = r.takings := rfl

/-- A hold given back leaves held as it was, and the report armed where remaining lies above the margin (R88, R91). -/
theorem Departure.withHold_released (r : Departure) :
    r.withHold.released =
      { r with
        state := .boarding
        armed := r.withHold.armed || decide (r.margin < r.capacity - r.boarded - r.held) } := by
  simp [Departure.released]
  simp [Departure.withHold]

/-! ### The end of an operation (R115, R118, R129, R184) -/

@[simp] theorem State.engineEnds_engine (s : State) (l : Lane) (p : LanePort) : (s.engineEnds l p).engine = .idle := rfl
@[simp] theorem State.engineEnds_lanes (s : State) (l : Lane) (p : LanePort) :
    (s.engineEnds l p).lanes = s.lanes.set l.val p := rfl
@[simp] theorem State.engineEnds_departures (s : State) (l : Lane) (p : LanePort) :
    (s.engineEnds l p).departures = s.departures := rfl
@[simp] theorem State.engineEnds_mem (s : State) (l : Lane) (p : LanePort) : (s.engineEnds l p).mem = s.mem := rfl
@[simp] theorem State.engineEnds_attention (s : State) (l : Lane) (p : LanePort) :
    (s.engineEnds l p).attention = s.attention := rfl
@[simp] theorem State.engineEnds_arbiter (s : State) (l : Lane) (p : LanePort) :
    (s.engineEnds l p).arbiter = s.arbiter := rfl
@[simp] theorem State.engineEnds_link (s : State) (l : Lane) (p : LanePort) : (s.engineEnds l p).link = s.link := rfl
@[simp] theorem State.engineEnds_clock (s : State) (l : Lane) (p : LanePort) : (s.engineEnds l p).clock = s.clock := rfl

/-- The lane brought to rest is the one given, and every other is as it was. -/
theorem State.engineEnds_lane (s : State) (l k : Lane) (p : LanePort) :
    (s.engineEnds l p).lane k = if k = l then p else s.lane k := by
  by_cases h : k = l
  · subst h; simp [State.lane]
  · have apart : l.val ≠ k.val := fun e => h (Fin.ext e.symm)
    simp [State.lane, h, Vector.getElem_set_ne, apart]

end Sys2Proof.Machine
end

