-- ==== Sys2Proof/Laws/State.lean ====
section
/-!
SUPPORT. One lemma per field per update of the state, true by `rfl`, so that no later proof unfolds a record
update, and the reading of one lane, departure or berth after a write of one.
-/

namespace Sys2Proof.Machine

/-! ### A lane, departure or berth after a write -/

@[simp] theorem State.setLane_lane (s : State) (l m : Lane) (p : LanePort) :
    (s.setLane l p).lane m = if m = l then p else s.lane m := by
  by_cases h : m = l
  · subst h; simp [State.lane, State.setLane]
  · have : l.val ≠ m.val := fun e => h (Fin.ext e.symm)
    simp [State.lane, State.setLane, h, Vector.getElem_set_ne, this]

@[simp] theorem State.setDep_dep (s : State) (d e : DepIx) (r : Departure) :
    (s.setDep d r).dep e = if e = d then r else s.dep e := by
  by_cases h : e = d
  · subst h; simp [State.dep, State.setDep]
  · have : d.val ≠ e.val := fun x => h (Fin.ext x.symm)
    simp [State.dep, State.setDep, h, Vector.getElem_set_ne, this]

@[simp] theorem State.setBerth_berth (s : State) (b a : Berth) (d : Option DepIx) :
    (s.setBerth b d).berth a = if a = b then d else s.berth a := by
  by_cases h : a = b
  · subst h; simp [State.berth, State.setBerth]
  · have : b.val ≠ a.val := fun x => h (Fin.ext x.symm)
    simp [State.berth, State.setBerth, h, Vector.getElem_set_ne, this]

/-! ### Fields that an update leaves -/

@[simp] theorem State.setLane_service (s : State) (l : Lane) (p : LanePort) : (s.setLane l p).service = s.service := rfl
@[simp] theorem State.setLane_keepValid (s : State) (l : Lane) (p : LanePort) : (s.setLane l p).keepValid = s.keepValid := rfl
@[simp] theorem State.setLane_kept (s : State) (l : Lane) (p : LanePort) : (s.setLane l p).kept = s.kept := rfl
@[simp] theorem State.setLane_geometry (s : State) (l : Lane) (p : LanePort) : (s.setLane l p).geometry = s.geometry := rfl
@[simp] theorem State.setLane_tableCursor (s : State) (l : Lane) (p : LanePort) : (s.setLane l p).tableCursor = s.tableCursor := rfl
@[simp] theorem State.setLane_sweepCursor (s : State) (l : Lane) (p : LanePort) : (s.setLane l p).sweepCursor = s.sweepCursor := rfl
@[simp] theorem State.setLane_mem (s : State) (l : Lane) (p : LanePort) : (s.setLane l p).mem = s.mem := rfl
@[simp] theorem State.setLane_fares (s : State) (l : Lane) (p : LanePort) : (s.setLane l p).fares = s.fares := rfl
@[simp] theorem State.setLane_enforce (s : State) (l : Lane) (p : LanePort) : (s.setLane l p).enforce = s.enforce := rfl
@[simp] theorem State.setLane_clock (s : State) (l : Lane) (p : LanePort) : (s.setLane l p).clock = s.clock := rfl
@[simp] theorem State.setLane_departures (s : State) (l : Lane) (p : LanePort) : (s.setLane l p).departures = s.departures := rfl
@[simp] theorem State.setLane_berths (s : State) (l : Lane) (p : LanePort) : (s.setLane l p).berths = s.berths := rfl
@[simp] theorem State.setLane_arbiter (s : State) (l : Lane) (p : LanePort) : (s.setLane l p).arbiter = s.arbiter := rfl
@[simp] theorem State.setLane_engine (s : State) (l : Lane) (p : LanePort) : (s.setLane l p).engine = s.engine := rfl
@[simp] theorem State.setLane_watch (s : State) (l : Lane) (p : LanePort) : (s.setLane l p).watch = s.watch := rfl
@[simp] theorem State.setLane_link (s : State) (l : Lane) (p : LanePort) : (s.setLane l p).link = s.link := rfl
@[simp] theorem State.setLane_attention (s : State) (l : Lane) (p : LanePort) : (s.setLane l p).attention = s.attention := rfl
@[simp] theorem State.setLane_resetLine (s : State) (l : Lane) (p : LanePort) : (s.setLane l p).resetLine = s.resetLine := rfl
@[simp] theorem State.setLane_freeCount (s : State) (l : Lane) (p : LanePort) : (s.setLane l p).freeCount = s.freeCount := rfl
@[simp] theorem State.setLane_pending (s : State) (l : Lane) (p : LanePort) : (s.setLane l p).pending = s.pending := rfl
@[simp] theorem State.setLane_dep (s : State) (l : Lane) (p : LanePort) (k : DepIx) : (s.setLane l p).dep k = s.dep k := rfl
@[simp] theorem State.setLane_berth (s : State) (l : Lane) (p : LanePort) (k : Berth) : (s.setLane l p).berth k = s.berth k := rfl

@[simp] theorem State.setDep_service (s : State) (d : DepIx) (r : Departure) : (s.setDep d r).service = s.service := rfl
@[simp] theorem State.setDep_keepValid (s : State) (d : DepIx) (r : Departure) : (s.setDep d r).keepValid = s.keepValid := rfl
@[simp] theorem State.setDep_kept (s : State) (d : DepIx) (r : Departure) : (s.setDep d r).kept = s.kept := rfl
@[simp] theorem State.setDep_geometry (s : State) (d : DepIx) (r : Departure) : (s.setDep d r).geometry = s.geometry := rfl
@[simp] theorem State.setDep_tableCursor (s : State) (d : DepIx) (r : Departure) : (s.setDep d r).tableCursor = s.tableCursor := rfl
@[simp] theorem State.setDep_sweepCursor (s : State) (d : DepIx) (r : Departure) : (s.setDep d r).sweepCursor = s.sweepCursor := rfl
@[simp] theorem State.setDep_mem (s : State) (d : DepIx) (r : Departure) : (s.setDep d r).mem = s.mem := rfl
@[simp] theorem State.setDep_fares (s : State) (d : DepIx) (r : Departure) : (s.setDep d r).fares = s.fares := rfl
@[simp] theorem State.setDep_enforce (s : State) (d : DepIx) (r : Departure) : (s.setDep d r).enforce = s.enforce := rfl
@[simp] theorem State.setDep_clock (s : State) (d : DepIx) (r : Departure) : (s.setDep d r).clock = s.clock := rfl
@[simp] theorem State.setDep_berths (s : State) (d : DepIx) (r : Departure) : (s.setDep d r).berths = s.berths := rfl
@[simp] theorem State.setDep_lanes (s : State) (d : DepIx) (r : Departure) : (s.setDep d r).lanes = s.lanes := rfl
@[simp] theorem State.setDep_arbiter (s : State) (d : DepIx) (r : Departure) : (s.setDep d r).arbiter = s.arbiter := rfl
@[simp] theorem State.setDep_engine (s : State) (d : DepIx) (r : Departure) : (s.setDep d r).engine = s.engine := rfl
@[simp] theorem State.setDep_watch (s : State) (d : DepIx) (r : Departure) : (s.setDep d r).watch = s.watch := rfl
@[simp] theorem State.setDep_link (s : State) (d : DepIx) (r : Departure) : (s.setDep d r).link = s.link := rfl
@[simp] theorem State.setDep_attention (s : State) (d : DepIx) (r : Departure) : (s.setDep d r).attention = s.attention := rfl
@[simp] theorem State.setDep_resetLine (s : State) (d : DepIx) (r : Departure) : (s.setDep d r).resetLine = s.resetLine := rfl
@[simp] theorem State.setDep_freeCount (s : State) (d : DepIx) (r : Departure) : (s.setDep d r).freeCount = s.freeCount := rfl
@[simp] theorem State.setDep_pending (s : State) (d : DepIx) (r : Departure) : (s.setDep d r).pending = s.pending := rfl
@[simp] theorem State.setDep_lane (s : State) (d : DepIx) (r : Departure) (k : Lane) : (s.setDep d r).lane k = s.lane k := rfl
@[simp] theorem State.setDep_berth (s : State) (d : DepIx) (r : Departure) (k : Berth) : (s.setDep d r).berth k = s.berth k := rfl

@[simp] theorem State.setBerth_service (s : State) (b : Berth) (d : Option DepIx) : (s.setBerth b d).service = s.service := rfl
@[simp] theorem State.setBerth_keepValid (s : State) (b : Berth) (d : Option DepIx) : (s.setBerth b d).keepValid = s.keepValid := rfl
@[simp] theorem State.setBerth_kept (s : State) (b : Berth) (d : Option DepIx) : (s.setBerth b d).kept = s.kept := rfl
@[simp] theorem State.setBerth_geometry (s : State) (b : Berth) (d : Option DepIx) : (s.setBerth b d).geometry = s.geometry := rfl
@[simp] theorem State.setBerth_tableCursor (s : State) (b : Berth) (d : Option DepIx) : (s.setBerth b d).tableCursor = s.tableCursor := rfl
@[simp] theorem State.setBerth_sweepCursor (s : State) (b : Berth) (d : Option DepIx) : (s.setBerth b d).sweepCursor = s.sweepCursor := rfl
@[simp] theorem State.setBerth_mem (s : State) (b : Berth) (d : Option DepIx) : (s.setBerth b d).mem = s.mem := rfl
@[simp] theorem State.setBerth_fares (s : State) (b : Berth) (d : Option DepIx) : (s.setBerth b d).fares = s.fares := rfl
@[simp] theorem State.setBerth_enforce (s : State) (b : Berth) (d : Option DepIx) : (s.setBerth b d).enforce = s.enforce := rfl
@[simp] theorem State.setBerth_clock (s : State) (b : Berth) (d : Option DepIx) : (s.setBerth b d).clock = s.clock := rfl
@[simp] theorem State.setBerth_departures (s : State) (b : Berth) (d : Option DepIx) : (s.setBerth b d).departures = s.departures := rfl
@[simp] theorem State.setBerth_lanes (s : State) (b : Berth) (d : Option DepIx) : (s.setBerth b d).lanes = s.lanes := rfl
@[simp] theorem State.setBerth_arbiter (s : State) (b : Berth) (d : Option DepIx) : (s.setBerth b d).arbiter = s.arbiter := rfl
@[simp] theorem State.setBerth_engine (s : State) (b : Berth) (d : Option DepIx) : (s.setBerth b d).engine = s.engine := rfl
@[simp] theorem State.setBerth_watch (s : State) (b : Berth) (d : Option DepIx) : (s.setBerth b d).watch = s.watch := rfl
@[simp] theorem State.setBerth_link (s : State) (b : Berth) (d : Option DepIx) : (s.setBerth b d).link = s.link := rfl
@[simp] theorem State.setBerth_attention (s : State) (b : Berth) (d : Option DepIx) : (s.setBerth b d).attention = s.attention := rfl
@[simp] theorem State.setBerth_resetLine (s : State) (b : Berth) (d : Option DepIx) : (s.setBerth b d).resetLine = s.resetLine := rfl
@[simp] theorem State.setBerth_freeCount (s : State) (b : Berth) (d : Option DepIx) : (s.setBerth b d).freeCount = s.freeCount := rfl
@[simp] theorem State.setBerth_pending (s : State) (b : Berth) (d : Option DepIx) : (s.setBerth b d).pending = s.pending := rfl
@[simp] theorem State.setBerth_lane (s : State) (b : Berth) (d : Option DepIx) (k : Lane) : (s.setBerth b d).lane k = s.lane k := rfl
@[simp] theorem State.setBerth_dep (s : State) (b : Berth) (d : Option DepIx) (k : DepIx) : (s.setBerth b d).dep k = s.dep k := rfl

@[simp] theorem State.raise_service (s : State) (c : Cause) (x : Subject) : (s.raise c x).service = s.service := rfl
@[simp] theorem State.raise_keepValid (s : State) (c : Cause) (x : Subject) : (s.raise c x).keepValid = s.keepValid := rfl
@[simp] theorem State.raise_kept (s : State) (c : Cause) (x : Subject) : (s.raise c x).kept = s.kept := rfl
@[simp] theorem State.raise_geometry (s : State) (c : Cause) (x : Subject) : (s.raise c x).geometry = s.geometry := rfl
@[simp] theorem State.raise_tableCursor (s : State) (c : Cause) (x : Subject) : (s.raise c x).tableCursor = s.tableCursor := rfl
@[simp] theorem State.raise_sweepCursor (s : State) (c : Cause) (x : Subject) : (s.raise c x).sweepCursor = s.sweepCursor := rfl
@[simp] theorem State.raise_mem (s : State) (c : Cause) (x : Subject) : (s.raise c x).mem = s.mem := rfl
@[simp] theorem State.raise_fares (s : State) (c : Cause) (x : Subject) : (s.raise c x).fares = s.fares := rfl
@[simp] theorem State.raise_enforce (s : State) (c : Cause) (x : Subject) : (s.raise c x).enforce = s.enforce := rfl
@[simp] theorem State.raise_clock (s : State) (c : Cause) (x : Subject) : (s.raise c x).clock = s.clock := rfl
@[simp] theorem State.raise_departures (s : State) (c : Cause) (x : Subject) : (s.raise c x).departures = s.departures := rfl
@[simp] theorem State.raise_berths (s : State) (c : Cause) (x : Subject) : (s.raise c x).berths = s.berths := rfl
@[simp] theorem State.raise_lanes (s : State) (c : Cause) (x : Subject) : (s.raise c x).lanes = s.lanes := rfl
@[simp] theorem State.raise_arbiter (s : State) (c : Cause) (x : Subject) : (s.raise c x).arbiter = s.arbiter := rfl
@[simp] theorem State.raise_engine (s : State) (c : Cause) (x : Subject) : (s.raise c x).engine = s.engine := rfl
@[simp] theorem State.raise_watch (s : State) (c : Cause) (x : Subject) : (s.raise c x).watch = s.watch := rfl
@[simp] theorem State.raise_link (s : State) (c : Cause) (x : Subject) : (s.raise c x).link = s.link := rfl
@[simp] theorem State.raise_resetLine (s : State) (c : Cause) (x : Subject) : (s.raise c x).resetLine = s.resetLine := rfl
@[simp] theorem State.raise_freeCount (s : State) (c : Cause) (x : Subject) : (s.raise c x).freeCount = s.freeCount := rfl
@[simp] theorem State.raise_pending (s : State) (c : Cause) (x : Subject) : (s.raise c x).pending = s.pending := rfl
@[simp] theorem State.raise_lane (s : State) (c : Cause) (x : Subject) (k : Lane) : (s.raise c x).lane k = s.lane k := rfl
@[simp] theorem State.raise_dep (s : State) (c : Cause) (x : Subject) (k : DepIx) : (s.raise c x).dep k = s.dep k := rfl
@[simp] theorem State.raise_berth (s : State) (c : Cause) (x : Subject) (k : Berth) : (s.raise c x).berth k = s.berth k := rfl

@[simp] theorem State.portWrite_service (s : State) (n : Nat) (v : Vector Word 15) : (s.portWrite n v).service = s.service := rfl
@[simp] theorem State.portWrite_keepValid (s : State) (n : Nat) (v : Vector Word 15) : (s.portWrite n v).keepValid = s.keepValid := rfl
@[simp] theorem State.portWrite_kept (s : State) (n : Nat) (v : Vector Word 15) : (s.portWrite n v).kept = s.kept := rfl
@[simp] theorem State.portWrite_geometry (s : State) (n : Nat) (v : Vector Word 15) : (s.portWrite n v).geometry = s.geometry := rfl
@[simp] theorem State.portWrite_tableCursor (s : State) (n : Nat) (v : Vector Word 15) : (s.portWrite n v).tableCursor = s.tableCursor := rfl
@[simp] theorem State.portWrite_sweepCursor (s : State) (n : Nat) (v : Vector Word 15) : (s.portWrite n v).sweepCursor = s.sweepCursor := rfl
@[simp] theorem State.portWrite_fares (s : State) (n : Nat) (v : Vector Word 15) : (s.portWrite n v).fares = s.fares := rfl
@[simp] theorem State.portWrite_enforce (s : State) (n : Nat) (v : Vector Word 15) : (s.portWrite n v).enforce = s.enforce := rfl
@[simp] theorem State.portWrite_clock (s : State) (n : Nat) (v : Vector Word 15) : (s.portWrite n v).clock = s.clock := rfl
@[simp] theorem State.portWrite_departures (s : State) (n : Nat) (v : Vector Word 15) : (s.portWrite n v).departures = s.departures := rfl
@[simp] theorem State.portWrite_berths (s : State) (n : Nat) (v : Vector Word 15) : (s.portWrite n v).berths = s.berths := rfl
@[simp] theorem State.portWrite_lanes (s : State) (n : Nat) (v : Vector Word 15) : (s.portWrite n v).lanes = s.lanes := rfl
@[simp] theorem State.portWrite_arbiter (s : State) (n : Nat) (v : Vector Word 15) : (s.portWrite n v).arbiter = s.arbiter := rfl
@[simp] theorem State.portWrite_engine (s : State) (n : Nat) (v : Vector Word 15) : (s.portWrite n v).engine = s.engine := rfl
@[simp] theorem State.portWrite_watch (s : State) (n : Nat) (v : Vector Word 15) : (s.portWrite n v).watch = s.watch := rfl
@[simp] theorem State.portWrite_link (s : State) (n : Nat) (v : Vector Word 15) : (s.portWrite n v).link = s.link := rfl
@[simp] theorem State.portWrite_attention (s : State) (n : Nat) (v : Vector Word 15) : (s.portWrite n v).attention = s.attention := rfl
@[simp] theorem State.portWrite_resetLine (s : State) (n : Nat) (v : Vector Word 15) : (s.portWrite n v).resetLine = s.resetLine := rfl
@[simp] theorem State.portWrite_freeCount (s : State) (n : Nat) (v : Vector Word 15) : (s.portWrite n v).freeCount = s.freeCount := rfl
@[simp] theorem State.portWrite_pending (s : State) (n : Nat) (v : Vector Word 15) : (s.portWrite n v).pending = s.pending := rfl
@[simp] theorem State.portWrite_lane (s : State) (n : Nat) (v : Vector Word 15) (k : Lane) : (s.portWrite n v).lane k = s.lane k := rfl
@[simp] theorem State.portWrite_dep (s : State) (n : Nat) (v : Vector Word 15) (k : DepIx) : (s.portWrite n v).dep k = s.dep k := rfl
@[simp] theorem State.portWrite_berth (s : State) (n : Nat) (v : Vector Word 15) (k : Berth) : (s.portWrite n v).berth k = s.berth k := rfl

@[simp] theorem State.writeRecord_service (s : State) (n : Nat) (r : CardRecord) : (s.writeRecord n r).service = s.service := State.portWrite_service s n (encodeRecord r)
@[simp] theorem State.writeRecord_keepValid (s : State) (n : Nat) (r : CardRecord) : (s.writeRecord n r).keepValid = s.keepValid := State.portWrite_keepValid s n (encodeRecord r)
@[simp] theorem State.writeRecord_kept (s : State) (n : Nat) (r : CardRecord) : (s.writeRecord n r).kept = s.kept := State.portWrite_kept s n (encodeRecord r)
@[simp] theorem State.writeRecord_geometry (s : State) (n : Nat) (r : CardRecord) : (s.writeRecord n r).geometry = s.geometry := State.portWrite_geometry s n (encodeRecord r)
@[simp] theorem State.writeRecord_tableCursor (s : State) (n : Nat) (r : CardRecord) : (s.writeRecord n r).tableCursor = s.tableCursor := State.portWrite_tableCursor s n (encodeRecord r)
@[simp] theorem State.writeRecord_sweepCursor (s : State) (n : Nat) (r : CardRecord) : (s.writeRecord n r).sweepCursor = s.sweepCursor := State.portWrite_sweepCursor s n (encodeRecord r)
@[simp] theorem State.writeRecord_fares (s : State) (n : Nat) (r : CardRecord) : (s.writeRecord n r).fares = s.fares := State.portWrite_fares s n (encodeRecord r)
@[simp] theorem State.writeRecord_enforce (s : State) (n : Nat) (r : CardRecord) : (s.writeRecord n r).enforce = s.enforce := State.portWrite_enforce s n (encodeRecord r)
@[simp] theorem State.writeRecord_clock (s : State) (n : Nat) (r : CardRecord) : (s.writeRecord n r).clock = s.clock := State.portWrite_clock s n (encodeRecord r)
@[simp] theorem State.writeRecord_departures (s : State) (n : Nat) (r : CardRecord) : (s.writeRecord n r).departures = s.departures := State.portWrite_departures s n (encodeRecord r)
@[simp] theorem State.writeRecord_berths (s : State) (n : Nat) (r : CardRecord) : (s.writeRecord n r).berths = s.berths := State.portWrite_berths s n (encodeRecord r)
@[simp] theorem State.writeRecord_lanes (s : State) (n : Nat) (r : CardRecord) : (s.writeRecord n r).lanes = s.lanes := State.portWrite_lanes s n (encodeRecord r)
@[simp] theorem State.writeRecord_arbiter (s : State) (n : Nat) (r : CardRecord) : (s.writeRecord n r).arbiter = s.arbiter := State.portWrite_arbiter s n (encodeRecord r)
@[simp] theorem State.writeRecord_engine (s : State) (n : Nat) (r : CardRecord) : (s.writeRecord n r).engine = s.engine := State.portWrite_engine s n (encodeRecord r)
@[simp] theorem State.writeRecord_watch (s : State) (n : Nat) (r : CardRecord) : (s.writeRecord n r).watch = s.watch := State.portWrite_watch s n (encodeRecord r)
@[simp] theorem State.writeRecord_link (s : State) (n : Nat) (r : CardRecord) : (s.writeRecord n r).link = s.link := State.portWrite_link s n (encodeRecord r)
@[simp] theorem State.writeRecord_attention (s : State) (n : Nat) (r : CardRecord) : (s.writeRecord n r).attention = s.attention := State.portWrite_attention s n (encodeRecord r)
@[simp] theorem State.writeRecord_resetLine (s : State) (n : Nat) (r : CardRecord) : (s.writeRecord n r).resetLine = s.resetLine := State.portWrite_resetLine s n (encodeRecord r)
@[simp] theorem State.writeRecord_freeCount (s : State) (n : Nat) (r : CardRecord) : (s.writeRecord n r).freeCount = s.freeCount := State.portWrite_freeCount s n (encodeRecord r)
@[simp] theorem State.writeRecord_pending (s : State) (n : Nat) (r : CardRecord) : (s.writeRecord n r).pending = s.pending := State.portWrite_pending s n (encodeRecord r)
@[simp] theorem State.writeRecord_lane (s : State) (n : Nat) (r : CardRecord) (k : Lane) : (s.writeRecord n r).lane k = s.lane k := State.portWrite_lane s n (encodeRecord r) k
@[simp] theorem State.writeRecord_dep (s : State) (n : Nat) (r : CardRecord) (k : DepIx) : (s.writeRecord n r).dep k = s.dep k := State.portWrite_dep s n (encodeRecord r) k
@[simp] theorem State.writeRecord_berth (s : State) (n : Nat) (r : CardRecord) (k : Berth) : (s.writeRecord n r).berth k = s.berth k := State.portWrite_berth s n (encodeRecord r) k

@[simp] theorem State.setTapPending_service (s : State) (l : Lane) (b : Bool) : (s.setTapPending l b).service = s.service := rfl
@[simp] theorem State.setTapPending_keepValid (s : State) (l : Lane) (b : Bool) : (s.setTapPending l b).keepValid = s.keepValid := rfl
@[simp] theorem State.setTapPending_kept (s : State) (l : Lane) (b : Bool) : (s.setTapPending l b).kept = s.kept := rfl
@[simp] theorem State.setTapPending_geometry (s : State) (l : Lane) (b : Bool) : (s.setTapPending l b).geometry = s.geometry := rfl
@[simp] theorem State.setTapPending_tableCursor (s : State) (l : Lane) (b : Bool) : (s.setTapPending l b).tableCursor = s.tableCursor := rfl
@[simp] theorem State.setTapPending_sweepCursor (s : State) (l : Lane) (b : Bool) : (s.setTapPending l b).sweepCursor = s.sweepCursor := rfl
@[simp] theorem State.setTapPending_mem (s : State) (l : Lane) (b : Bool) : (s.setTapPending l b).mem = s.mem := rfl
@[simp] theorem State.setTapPending_fares (s : State) (l : Lane) (b : Bool) : (s.setTapPending l b).fares = s.fares := rfl
@[simp] theorem State.setTapPending_enforce (s : State) (l : Lane) (b : Bool) : (s.setTapPending l b).enforce = s.enforce := rfl
@[simp] theorem State.setTapPending_clock (s : State) (l : Lane) (b : Bool) : (s.setTapPending l b).clock = s.clock := rfl
@[simp] theorem State.setTapPending_departures (s : State) (l : Lane) (b : Bool) : (s.setTapPending l b).departures = s.departures := rfl
@[simp] theorem State.setTapPending_berths (s : State) (l : Lane) (b : Bool) : (s.setTapPending l b).berths = s.berths := rfl
@[simp] theorem State.setTapPending_lanes (s : State) (l : Lane) (b : Bool) : (s.setTapPending l b).lanes = s.lanes := rfl
@[simp] theorem State.setTapPending_engine (s : State) (l : Lane) (b : Bool) : (s.setTapPending l b).engine = s.engine := rfl
@[simp] theorem State.setTapPending_watch (s : State) (l : Lane) (b : Bool) : (s.setTapPending l b).watch = s.watch := rfl
@[simp] theorem State.setTapPending_link (s : State) (l : Lane) (b : Bool) : (s.setTapPending l b).link = s.link := rfl
@[simp] theorem State.setTapPending_attention (s : State) (l : Lane) (b : Bool) : (s.setTapPending l b).attention = s.attention := rfl
@[simp] theorem State.setTapPending_resetLine (s : State) (l : Lane) (b : Bool) : (s.setTapPending l b).resetLine = s.resetLine := rfl
@[simp] theorem State.setTapPending_freeCount (s : State) (l : Lane) (b : Bool) : (s.setTapPending l b).freeCount = s.freeCount := rfl
@[simp] theorem State.setTapPending_pending (s : State) (l : Lane) (b : Bool) : (s.setTapPending l b).pending = s.pending := rfl
@[simp] theorem State.setTapPending_lane (s : State) (l : Lane) (b : Bool) (k : Lane) : (s.setTapPending l b).lane k = s.lane k := rfl
@[simp] theorem State.setTapPending_dep (s : State) (l : Lane) (b : Bool) (k : DepIx) : (s.setTapPending l b).dep k = s.dep k := rfl
@[simp] theorem State.setTapPending_berth (s : State) (l : Lane) (b : Bool) (k : Berth) : (s.setTapPending l b).berth k = s.berth k := rfl

@[simp] theorem State.setCommitPending_service (s : State) (l : Lane) (b : Bool) : (s.setCommitPending l b).service = s.service := rfl
@[simp] theorem State.setCommitPending_keepValid (s : State) (l : Lane) (b : Bool) : (s.setCommitPending l b).keepValid = s.keepValid := rfl
@[simp] theorem State.setCommitPending_kept (s : State) (l : Lane) (b : Bool) : (s.setCommitPending l b).kept = s.kept := rfl
@[simp] theorem State.setCommitPending_geometry (s : State) (l : Lane) (b : Bool) : (s.setCommitPending l b).geometry = s.geometry := rfl
@[simp] theorem State.setCommitPending_tableCursor (s : State) (l : Lane) (b : Bool) : (s.setCommitPending l b).tableCursor = s.tableCursor := rfl
@[simp] theorem State.setCommitPending_sweepCursor (s : State) (l : Lane) (b : Bool) : (s.setCommitPending l b).sweepCursor = s.sweepCursor := rfl
@[simp] theorem State.setCommitPending_mem (s : State) (l : Lane) (b : Bool) : (s.setCommitPending l b).mem = s.mem := rfl
@[simp] theorem State.setCommitPending_fares (s : State) (l : Lane) (b : Bool) : (s.setCommitPending l b).fares = s.fares := rfl
@[simp] theorem State.setCommitPending_enforce (s : State) (l : Lane) (b : Bool) : (s.setCommitPending l b).enforce = s.enforce := rfl
@[simp] theorem State.setCommitPending_clock (s : State) (l : Lane) (b : Bool) : (s.setCommitPending l b).clock = s.clock := rfl
@[simp] theorem State.setCommitPending_departures (s : State) (l : Lane) (b : Bool) : (s.setCommitPending l b).departures = s.departures := rfl
@[simp] theorem State.setCommitPending_berths (s : State) (l : Lane) (b : Bool) : (s.setCommitPending l b).berths = s.berths := rfl
@[simp] theorem State.setCommitPending_lanes (s : State) (l : Lane) (b : Bool) : (s.setCommitPending l b).lanes = s.lanes := rfl
@[simp] theorem State.setCommitPending_engine (s : State) (l : Lane) (b : Bool) : (s.setCommitPending l b).engine = s.engine := rfl
@[simp] theorem State.setCommitPending_watch (s : State) (l : Lane) (b : Bool) : (s.setCommitPending l b).watch = s.watch := rfl
@[simp] theorem State.setCommitPending_link (s : State) (l : Lane) (b : Bool) : (s.setCommitPending l b).link = s.link := rfl
@[simp] theorem State.setCommitPending_attention (s : State) (l : Lane) (b : Bool) : (s.setCommitPending l b).attention = s.attention := rfl
@[simp] theorem State.setCommitPending_resetLine (s : State) (l : Lane) (b : Bool) : (s.setCommitPending l b).resetLine = s.resetLine := rfl
@[simp] theorem State.setCommitPending_freeCount (s : State) (l : Lane) (b : Bool) : (s.setCommitPending l b).freeCount = s.freeCount := rfl
@[simp] theorem State.setCommitPending_pending (s : State) (l : Lane) (b : Bool) : (s.setCommitPending l b).pending = s.pending := rfl
@[simp] theorem State.setCommitPending_lane (s : State) (l : Lane) (b : Bool) (k : Lane) : (s.setCommitPending l b).lane k = s.lane k := rfl
@[simp] theorem State.setCommitPending_dep (s : State) (l : Lane) (b : Bool) (k : DepIx) : (s.setCommitPending l b).dep k = s.dep k := rfl
@[simp] theorem State.setCommitPending_berth (s : State) (l : Lane) (b : Bool) (k : Berth) : (s.setCommitPending l b).berth k = s.berth k := rfl

@[simp] theorem State.setHostRequest_service (s : State) (b : Bool) : (s.setHostRequest b).service = s.service := rfl
@[simp] theorem State.setHostRequest_keepValid (s : State) (b : Bool) : (s.setHostRequest b).keepValid = s.keepValid := rfl
@[simp] theorem State.setHostRequest_kept (s : State) (b : Bool) : (s.setHostRequest b).kept = s.kept := rfl
@[simp] theorem State.setHostRequest_geometry (s : State) (b : Bool) : (s.setHostRequest b).geometry = s.geometry := rfl
@[simp] theorem State.setHostRequest_tableCursor (s : State) (b : Bool) : (s.setHostRequest b).tableCursor = s.tableCursor := rfl
@[simp] theorem State.setHostRequest_sweepCursor (s : State) (b : Bool) : (s.setHostRequest b).sweepCursor = s.sweepCursor := rfl
@[simp] theorem State.setHostRequest_mem (s : State) (b : Bool) : (s.setHostRequest b).mem = s.mem := rfl
@[simp] theorem State.setHostRequest_fares (s : State) (b : Bool) : (s.setHostRequest b).fares = s.fares := rfl
@[simp] theorem State.setHostRequest_enforce (s : State) (b : Bool) : (s.setHostRequest b).enforce = s.enforce := rfl
@[simp] theorem State.setHostRequest_clock (s : State) (b : Bool) : (s.setHostRequest b).clock = s.clock := rfl
@[simp] theorem State.setHostRequest_departures (s : State) (b : Bool) : (s.setHostRequest b).departures = s.departures := rfl
@[simp] theorem State.setHostRequest_berths (s : State) (b : Bool) : (s.setHostRequest b).berths = s.berths := rfl
@[simp] theorem State.setHostRequest_lanes (s : State) (b : Bool) : (s.setHostRequest b).lanes = s.lanes := rfl
@[simp] theorem State.setHostRequest_engine (s : State) (b : Bool) : (s.setHostRequest b).engine = s.engine := rfl
@[simp] theorem State.setHostRequest_watch (s : State) (b : Bool) : (s.setHostRequest b).watch = s.watch := rfl
@[simp] theorem State.setHostRequest_link (s : State) (b : Bool) : (s.setHostRequest b).link = s.link := rfl
@[simp] theorem State.setHostRequest_attention (s : State) (b : Bool) : (s.setHostRequest b).attention = s.attention := rfl
@[simp] theorem State.setHostRequest_resetLine (s : State) (b : Bool) : (s.setHostRequest b).resetLine = s.resetLine := rfl
@[simp] theorem State.setHostRequest_freeCount (s : State) (b : Bool) : (s.setHostRequest b).freeCount = s.freeCount := rfl
@[simp] theorem State.setHostRequest_pending (s : State) (b : Bool) : (s.setHostRequest b).pending = s.pending := rfl
@[simp] theorem State.setHostRequest_lane (s : State) (b : Bool) (k : Lane) : (s.setHostRequest b).lane k = s.lane k := rfl
@[simp] theorem State.setHostRequest_dep (s : State) (b : Bool) (k : DepIx) : (s.setHostRequest b).dep k = s.dep k := rfl
@[simp] theorem State.setHostRequest_berth (s : State) (b : Bool) (k : Berth) : (s.setHostRequest b).berth k = s.berth k := rfl

@[simp] theorem State.setClearingRequest_service (s : State) (b : Bool) : (s.setClearingRequest b).service = s.service := rfl
@[simp] theorem State.setClearingRequest_keepValid (s : State) (b : Bool) : (s.setClearingRequest b).keepValid = s.keepValid := rfl
@[simp] theorem State.setClearingRequest_kept (s : State) (b : Bool) : (s.setClearingRequest b).kept = s.kept := rfl
@[simp] theorem State.setClearingRequest_geometry (s : State) (b : Bool) : (s.setClearingRequest b).geometry = s.geometry := rfl
@[simp] theorem State.setClearingRequest_tableCursor (s : State) (b : Bool) : (s.setClearingRequest b).tableCursor = s.tableCursor := rfl
@[simp] theorem State.setClearingRequest_sweepCursor (s : State) (b : Bool) : (s.setClearingRequest b).sweepCursor = s.sweepCursor := rfl
@[simp] theorem State.setClearingRequest_mem (s : State) (b : Bool) : (s.setClearingRequest b).mem = s.mem := rfl
@[simp] theorem State.setClearingRequest_fares (s : State) (b : Bool) : (s.setClearingRequest b).fares = s.fares := rfl
@[simp] theorem State.setClearingRequest_enforce (s : State) (b : Bool) : (s.setClearingRequest b).enforce = s.enforce := rfl
@[simp] theorem State.setClearingRequest_clock (s : State) (b : Bool) : (s.setClearingRequest b).clock = s.clock := rfl
@[simp] theorem State.setClearingRequest_departures (s : State) (b : Bool) : (s.setClearingRequest b).departures = s.departures := rfl
@[simp] theorem State.setClearingRequest_berths (s : State) (b : Bool) : (s.setClearingRequest b).berths = s.berths := rfl
@[simp] theorem State.setClearingRequest_lanes (s : State) (b : Bool) : (s.setClearingRequest b).lanes = s.lanes := rfl
@[simp] theorem State.setClearingRequest_engine (s : State) (b : Bool) : (s.setClearingRequest b).engine = s.engine := rfl
@[simp] theorem State.setClearingRequest_watch (s : State) (b : Bool) : (s.setClearingRequest b).watch = s.watch := rfl
@[simp] theorem State.setClearingRequest_link (s : State) (b : Bool) : (s.setClearingRequest b).link = s.link := rfl
@[simp] theorem State.setClearingRequest_attention (s : State) (b : Bool) : (s.setClearingRequest b).attention = s.attention := rfl
@[simp] theorem State.setClearingRequest_resetLine (s : State) (b : Bool) : (s.setClearingRequest b).resetLine = s.resetLine := rfl
@[simp] theorem State.setClearingRequest_freeCount (s : State) (b : Bool) : (s.setClearingRequest b).freeCount = s.freeCount := rfl
@[simp] theorem State.setClearingRequest_pending (s : State) (b : Bool) : (s.setClearingRequest b).pending = s.pending := rfl
@[simp] theorem State.setClearingRequest_lane (s : State) (b : Bool) (k : Lane) : (s.setClearingRequest b).lane k = s.lane k := rfl
@[simp] theorem State.setClearingRequest_dep (s : State) (b : Bool) (k : DepIx) : (s.setClearingRequest b).dep k = s.dep k := rfl
@[simp] theorem State.setClearingRequest_berth (s : State) (b : Bool) (k : Berth) : (s.setClearingRequest b).berth k = s.berth k := rfl

@[simp] theorem State.answerLink_service (s : State) (a : Answer) : (s.answerLink a).service = s.service := rfl
@[simp] theorem State.answerLink_keepValid (s : State) (a : Answer) : (s.answerLink a).keepValid = s.keepValid := rfl
@[simp] theorem State.answerLink_kept (s : State) (a : Answer) : (s.answerLink a).kept = s.kept := rfl
@[simp] theorem State.answerLink_geometry (s : State) (a : Answer) : (s.answerLink a).geometry = s.geometry := rfl
@[simp] theorem State.answerLink_tableCursor (s : State) (a : Answer) : (s.answerLink a).tableCursor = s.tableCursor := rfl
@[simp] theorem State.answerLink_sweepCursor (s : State) (a : Answer) : (s.answerLink a).sweepCursor = s.sweepCursor := rfl
@[simp] theorem State.answerLink_mem (s : State) (a : Answer) : (s.answerLink a).mem = s.mem := rfl
@[simp] theorem State.answerLink_fares (s : State) (a : Answer) : (s.answerLink a).fares = s.fares := rfl
@[simp] theorem State.answerLink_enforce (s : State) (a : Answer) : (s.answerLink a).enforce = s.enforce := rfl
@[simp] theorem State.answerLink_clock (s : State) (a : Answer) : (s.answerLink a).clock = s.clock := rfl
@[simp] theorem State.answerLink_departures (s : State) (a : Answer) : (s.answerLink a).departures = s.departures := rfl
@[simp] theorem State.answerLink_berths (s : State) (a : Answer) : (s.answerLink a).berths = s.berths := rfl
@[simp] theorem State.answerLink_lanes (s : State) (a : Answer) : (s.answerLink a).lanes = s.lanes := rfl
@[simp] theorem State.answerLink_arbiter (s : State) (a : Answer) : (s.answerLink a).arbiter = s.arbiter := rfl
@[simp] theorem State.answerLink_engine (s : State) (a : Answer) : (s.answerLink a).engine = s.engine := rfl
@[simp] theorem State.answerLink_watch (s : State) (a : Answer) : (s.answerLink a).watch = s.watch := rfl
@[simp] theorem State.answerLink_attention (s : State) (a : Answer) : (s.answerLink a).attention = s.attention := rfl
@[simp] theorem State.answerLink_resetLine (s : State) (a : Answer) : (s.answerLink a).resetLine = s.resetLine := rfl
@[simp] theorem State.answerLink_freeCount (s : State) (a : Answer) : (s.answerLink a).freeCount = s.freeCount := rfl
@[simp] theorem State.answerLink_pending (s : State) (a : Answer) : (s.answerLink a).pending = s.pending := rfl
@[simp] theorem State.answerLink_lane (s : State) (a : Answer) (k : Lane) : (s.answerLink a).lane k = s.lane k := rfl
@[simp] theorem State.answerLink_dep (s : State) (a : Answer) (k : DepIx) : (s.answerLink a).dep k = s.dep k := rfl
@[simp] theorem State.answerLink_berth (s : State) (a : Answer) (k : Berth) : (s.answerLink a).berth k = s.berth k := rfl

@[simp] theorem State.setPhase_service (s : State) (p : Phase) : (s.setPhase p).service = s.service := rfl
@[simp] theorem State.setPhase_keepValid (s : State) (p : Phase) : (s.setPhase p).keepValid = s.keepValid := rfl
@[simp] theorem State.setPhase_kept (s : State) (p : Phase) : (s.setPhase p).kept = s.kept := rfl
@[simp] theorem State.setPhase_geometry (s : State) (p : Phase) : (s.setPhase p).geometry = s.geometry := rfl
@[simp] theorem State.setPhase_tableCursor (s : State) (p : Phase) : (s.setPhase p).tableCursor = s.tableCursor := rfl
@[simp] theorem State.setPhase_sweepCursor (s : State) (p : Phase) : (s.setPhase p).sweepCursor = s.sweepCursor := rfl
@[simp] theorem State.setPhase_mem (s : State) (p : Phase) : (s.setPhase p).mem = s.mem := rfl
@[simp] theorem State.setPhase_fares (s : State) (p : Phase) : (s.setPhase p).fares = s.fares := rfl
@[simp] theorem State.setPhase_enforce (s : State) (p : Phase) : (s.setPhase p).enforce = s.enforce := rfl
@[simp] theorem State.setPhase_clock (s : State) (p : Phase) : (s.setPhase p).clock = s.clock := rfl
@[simp] theorem State.setPhase_departures (s : State) (p : Phase) : (s.setPhase p).departures = s.departures := rfl
@[simp] theorem State.setPhase_berths (s : State) (p : Phase) : (s.setPhase p).berths = s.berths := rfl
@[simp] theorem State.setPhase_lanes (s : State) (p : Phase) : (s.setPhase p).lanes = s.lanes := rfl
@[simp] theorem State.setPhase_arbiter (s : State) (p : Phase) : (s.setPhase p).arbiter = s.arbiter := rfl
@[simp] theorem State.setPhase_engine (s : State) (p : Phase) : (s.setPhase p).engine = s.engine := rfl
@[simp] theorem State.setPhase_watch (s : State) (p : Phase) : (s.setPhase p).watch = s.watch := rfl
@[simp] theorem State.setPhase_attention (s : State) (p : Phase) : (s.setPhase p).attention = s.attention := rfl
@[simp] theorem State.setPhase_resetLine (s : State) (p : Phase) : (s.setPhase p).resetLine = s.resetLine := rfl
@[simp] theorem State.setPhase_freeCount (s : State) (p : Phase) : (s.setPhase p).freeCount = s.freeCount := rfl
@[simp] theorem State.setPhase_pending (s : State) (p : Phase) : (s.setPhase p).pending = s.pending := rfl
@[simp] theorem State.setPhase_lane (s : State) (p : Phase) (k : Lane) : (s.setPhase p).lane k = s.lane k := rfl
@[simp] theorem State.setPhase_dep (s : State) (p : Phase) (k : DepIx) : (s.setPhase p).dep k = s.dep k := rfl
@[simp] theorem State.setPhase_berth (s : State) (p : Phase) (k : Berth) : (s.setPhase p).berth k = s.berth k := rfl

@[simp] theorem State.confirm_service (s : State) (d : DepIx) : (s.confirm d).service = s.service := rfl
@[simp] theorem State.confirm_keepValid (s : State) (d : DepIx) : (s.confirm d).keepValid = s.keepValid := rfl
@[simp] theorem State.confirm_kept (s : State) (d : DepIx) : (s.confirm d).kept = s.kept := rfl
@[simp] theorem State.confirm_geometry (s : State) (d : DepIx) : (s.confirm d).geometry = s.geometry := rfl
@[simp] theorem State.confirm_tableCursor (s : State) (d : DepIx) : (s.confirm d).tableCursor = s.tableCursor := rfl
@[simp] theorem State.confirm_sweepCursor (s : State) (d : DepIx) : (s.confirm d).sweepCursor = s.sweepCursor := rfl
@[simp] theorem State.confirm_mem (s : State) (d : DepIx) : (s.confirm d).mem = s.mem := rfl
@[simp] theorem State.confirm_fares (s : State) (d : DepIx) : (s.confirm d).fares = s.fares := rfl
@[simp] theorem State.confirm_enforce (s : State) (d : DepIx) : (s.confirm d).enforce = s.enforce := rfl
@[simp] theorem State.confirm_clock (s : State) (d : DepIx) : (s.confirm d).clock = s.clock := rfl
@[simp] theorem State.confirm_departures (s : State) (d : DepIx) : (s.confirm d).departures = s.departures := rfl
@[simp] theorem State.confirm_berths (s : State) (d : DepIx) : (s.confirm d).berths = s.berths := rfl
@[simp] theorem State.confirm_lanes (s : State) (d : DepIx) : (s.confirm d).lanes = s.lanes := rfl
@[simp] theorem State.confirm_arbiter (s : State) (d : DepIx) : (s.confirm d).arbiter = s.arbiter := rfl
@[simp] theorem State.confirm_engine (s : State) (d : DepIx) : (s.confirm d).engine = s.engine := rfl
@[simp] theorem State.confirm_watch (s : State) (d : DepIx) : (s.confirm d).watch = s.watch := rfl
@[simp] theorem State.confirm_link (s : State) (d : DepIx) : (s.confirm d).link = s.link := rfl
@[simp] theorem State.confirm_attention (s : State) (d : DepIx) : (s.confirm d).attention = s.attention := rfl
@[simp] theorem State.confirm_resetLine (s : State) (d : DepIx) : (s.confirm d).resetLine = s.resetLine := rfl
@[simp] theorem State.confirm_freeCount (s : State) (d : DepIx) : (s.confirm d).freeCount = s.freeCount := rfl
@[simp] theorem State.confirm_pending (s : State) (d : DepIx) : (s.confirm d).pending = s.pending := rfl
@[simp] theorem State.confirm_lane (s : State) (d : DepIx) (k : Lane) : (s.confirm d).lane k = s.lane k := rfl
@[simp] theorem State.confirm_dep (s : State) (d : DepIx) (k : DepIx) : (s.confirm d).dep k = s.dep k := rfl
@[simp] theorem State.confirm_berth (s : State) (d : DepIx) (k : Berth) : (s.confirm d).berth k = s.berth k := rfl

/-! ### Fields that an update writes -/

@[simp] theorem State.raise_attention (s : State) (c : Cause) (x : Subject) :
    (s.raise c x).attention = s.attention.occur c x := rfl
@[simp] theorem State.portWrite_mem (s : State) (n : Nat) (v : Vector Word 15) :
    (s.portWrite n v).mem = Memory.writeSlot s.mem n v := rfl
@[simp] theorem State.writeRecord_mem (s : State) (n : Nat) (r : CardRecord) :
    (s.writeRecord n r).mem = Memory.writeSlot s.mem n (encodeRecord r) :=
  State.portWrite_mem s n (encodeRecord r)
@[simp] theorem State.answerLink_phase (s : State) (a : Answer) : (s.answerLink a).link.phase = .results a.entries := rfl
@[simp] theorem State.answerLink_transfer (s : State) (a : Answer) : (s.answerLink a).link.transfer = s.link.transfer := rfl
@[simp] theorem State.setPhase_phase (s : State) (p : Phase) : (s.setPhase p).link.phase = p := rfl
@[simp] theorem State.setPhase_transfer (s : State) (p : Phase) : (s.setPhase p).link.transfer = s.link.transfer := rfl
@[simp] theorem State.setHostRequest_hostRequest (s : State) (b : Bool) :
    (s.setHostRequest b).arbiter.hostRequest = b := rfl
@[simp] theorem State.setHostRequest_tapPending (s : State) (b : Bool) :
    (s.setHostRequest b).arbiter.tapPending = s.arbiter.tapPending := rfl
@[simp] theorem State.setHostRequest_commitPending (s : State) (b : Bool) :
    (s.setHostRequest b).arbiter.commitPending = s.arbiter.commitPending := rfl

@[simp] theorem State.setTapPending_get (s : State) (l m : Lane) (b : Bool) :
    (s.setTapPending l b).arbiter.tapPending[m] = if m = l then b else s.arbiter.tapPending[m] := by
  by_cases h : m = l
  · subst h; simp [State.setTapPending]
  · have : l.val ≠ m.val := fun e => h (Fin.ext e.symm)
    simp [State.setTapPending, h, Vector.getElem_set_ne, this]

@[simp] theorem State.setCommitPending_get (s : State) (l m : Lane) (b : Bool) :
    (s.setCommitPending l b).arbiter.commitPending[m] = if m = l then b else s.arbiter.commitPending[m] := by
  by_cases h : m = l
  · subst h; simp [State.setCommitPending]
  · have : l.val ≠ m.val := fun e => h (Fin.ext e.symm)
    simp [State.setCommitPending, h, Vector.getElem_set_ne, this]

@[simp] theorem State.setTapPending_commitPending (s : State) (l : Lane) (b : Bool) :
    (s.setTapPending l b).arbiter.commitPending = s.arbiter.commitPending := rfl
@[simp] theorem State.setCommitPending_tapPending (s : State) (l : Lane) (b : Bool) :
    (s.setCommitPending l b).arbiter.tapPending = s.arbiter.tapPending := rfl

end Sys2Proof.Machine
end

