-- ==== Sys2Proof/Laws/Frames.lean ====
section
/-!
SUPPORT. The frame of each shared operation, field by field: what it can never change.
-/

namespace Sys2Proof.Machine

/-! ### send -/

@[simp] theorem State.send_service (s : State) (l : Lane) (m : Message) : (s.send l m).service = s.service := by
  simp only [State.send]; repeat' split
  all_goals simp
@[simp] theorem State.send_keepValid (s : State) (l : Lane) (m : Message) : (s.send l m).keepValid = s.keepValid := by
  simp only [State.send]; repeat' split
  all_goals simp
@[simp] theorem State.send_kept (s : State) (l : Lane) (m : Message) : (s.send l m).kept = s.kept := by
  simp only [State.send]; repeat' split
  all_goals simp
@[simp] theorem State.send_geometry (s : State) (l : Lane) (m : Message) : (s.send l m).geometry = s.geometry := by
  simp only [State.send]; repeat' split
  all_goals simp
@[simp] theorem State.send_tableCursor (s : State) (l : Lane) (m : Message) : (s.send l m).tableCursor = s.tableCursor := by
  simp only [State.send]; repeat' split
  all_goals simp
@[simp] theorem State.send_sweepCursor (s : State) (l : Lane) (m : Message) : (s.send l m).sweepCursor = s.sweepCursor := by
  simp only [State.send]; repeat' split
  all_goals simp
@[simp] theorem State.send_mem (s : State) (l : Lane) (m : Message) : (s.send l m).mem = s.mem := by
  simp only [State.send]; repeat' split
  all_goals simp
@[simp] theorem State.send_fares (s : State) (l : Lane) (m : Message) : (s.send l m).fares = s.fares := by
  simp only [State.send]; repeat' split
  all_goals simp
@[simp] theorem State.send_enforce (s : State) (l : Lane) (m : Message) : (s.send l m).enforce = s.enforce := by
  simp only [State.send]; repeat' split
  all_goals simp
@[simp] theorem State.send_clock (s : State) (l : Lane) (m : Message) : (s.send l m).clock = s.clock := by
  simp only [State.send]; repeat' split
  all_goals simp
@[simp] theorem State.send_departures (s : State) (l : Lane) (m : Message) : (s.send l m).departures = s.departures := by
  simp only [State.send]; repeat' split
  all_goals simp
@[simp] theorem State.send_berths (s : State) (l : Lane) (m : Message) : (s.send l m).berths = s.berths := by
  simp only [State.send]; repeat' split
  all_goals simp
@[simp] theorem State.send_arbiter (s : State) (l : Lane) (m : Message) : (s.send l m).arbiter = s.arbiter := by
  simp only [State.send]; repeat' split
  all_goals simp
@[simp] theorem State.send_engine (s : State) (l : Lane) (m : Message) : (s.send l m).engine = s.engine := by
  simp only [State.send]; repeat' split
  all_goals simp
@[simp] theorem State.send_watch (s : State) (l : Lane) (m : Message) : (s.send l m).watch = s.watch := by
  simp only [State.send]; repeat' split
  all_goals simp
@[simp] theorem State.send_link (s : State) (l : Lane) (m : Message) : (s.send l m).link = s.link := by
  simp only [State.send]; repeat' split
  all_goals simp
@[simp] theorem State.send_resetLine (s : State) (l : Lane) (m : Message) : (s.send l m).resetLine = s.resetLine := by
  simp only [State.send]; repeat' split
  all_goals simp
@[simp] theorem State.send_freeCount (s : State) (l : Lane) (m : Message) : (s.send l m).freeCount = s.freeCount := by
  simp only [State.send]; repeat' split
  all_goals simp
@[simp] theorem State.send_pending (s : State) (l : Lane) (m : Message) : (s.send l m).pending = s.pending := by
  simp only [State.send]; repeat' split
  all_goals simp
@[simp] theorem State.send_dep (s : State) (l : Lane) (m : Message) (k : DepIx) : (s.send l m).dep k = s.dep k := by simp only [State.dep, State.send_departures]
@[simp] theorem State.send_berth (s : State) (l : Lane) (m : Message) (k : Berth) : (s.send l m).berth k = s.berth k := by simp only [State.berth, State.send_berths]

/-! ### changeDep -/

@[simp] theorem State.changeDep_service (s : State) (d : DepIx) (r : Departure) : (s.changeDep d r).service = s.service := by
  simp only [State.changeDep]; repeat' split
  all_goals simp
@[simp] theorem State.changeDep_keepValid (s : State) (d : DepIx) (r : Departure) : (s.changeDep d r).keepValid = s.keepValid := by
  simp only [State.changeDep]; repeat' split
  all_goals simp
@[simp] theorem State.changeDep_kept (s : State) (d : DepIx) (r : Departure) : (s.changeDep d r).kept = s.kept := by
  simp only [State.changeDep]; repeat' split
  all_goals simp
@[simp] theorem State.changeDep_geometry (s : State) (d : DepIx) (r : Departure) : (s.changeDep d r).geometry = s.geometry := by
  simp only [State.changeDep]; repeat' split
  all_goals simp
@[simp] theorem State.changeDep_tableCursor (s : State) (d : DepIx) (r : Departure) : (s.changeDep d r).tableCursor = s.tableCursor := by
  simp only [State.changeDep]; repeat' split
  all_goals simp
@[simp] theorem State.changeDep_sweepCursor (s : State) (d : DepIx) (r : Departure) : (s.changeDep d r).sweepCursor = s.sweepCursor := by
  simp only [State.changeDep]; repeat' split
  all_goals simp
@[simp] theorem State.changeDep_mem (s : State) (d : DepIx) (r : Departure) : (s.changeDep d r).mem = s.mem := by
  simp only [State.changeDep]; repeat' split
  all_goals simp
@[simp] theorem State.changeDep_fares (s : State) (d : DepIx) (r : Departure) : (s.changeDep d r).fares = s.fares := by
  simp only [State.changeDep]; repeat' split
  all_goals simp
@[simp] theorem State.changeDep_enforce (s : State) (d : DepIx) (r : Departure) : (s.changeDep d r).enforce = s.enforce := by
  simp only [State.changeDep]; repeat' split
  all_goals simp
@[simp] theorem State.changeDep_clock (s : State) (d : DepIx) (r : Departure) : (s.changeDep d r).clock = s.clock := by
  simp only [State.changeDep]; repeat' split
  all_goals simp
@[simp] theorem State.changeDep_berths (s : State) (d : DepIx) (r : Departure) : (s.changeDep d r).berths = s.berths := by
  simp only [State.changeDep]; repeat' split
  all_goals simp
@[simp] theorem State.changeDep_lanes (s : State) (d : DepIx) (r : Departure) : (s.changeDep d r).lanes = s.lanes := by
  simp only [State.changeDep]; repeat' split
  all_goals simp
@[simp] theorem State.changeDep_arbiter (s : State) (d : DepIx) (r : Departure) : (s.changeDep d r).arbiter = s.arbiter := by
  simp only [State.changeDep]; repeat' split
  all_goals simp
@[simp] theorem State.changeDep_engine (s : State) (d : DepIx) (r : Departure) : (s.changeDep d r).engine = s.engine := by
  simp only [State.changeDep]; repeat' split
  all_goals simp
@[simp] theorem State.changeDep_watch (s : State) (d : DepIx) (r : Departure) : (s.changeDep d r).watch = s.watch := by
  simp only [State.changeDep]; repeat' split
  all_goals simp
@[simp] theorem State.changeDep_link (s : State) (d : DepIx) (r : Departure) : (s.changeDep d r).link = s.link := by
  simp only [State.changeDep]; repeat' split
  all_goals simp
@[simp] theorem State.changeDep_resetLine (s : State) (d : DepIx) (r : Departure) : (s.changeDep d r).resetLine = s.resetLine := by
  simp only [State.changeDep]; repeat' split
  all_goals simp
@[simp] theorem State.changeDep_freeCount (s : State) (d : DepIx) (r : Departure) : (s.changeDep d r).freeCount = s.freeCount := by
  simp only [State.changeDep]; repeat' split
  all_goals simp
@[simp] theorem State.changeDep_pending (s : State) (d : DepIx) (r : Departure) : (s.changeDep d r).pending = s.pending := by
  simp only [State.changeDep]; repeat' split
  all_goals simp
@[simp] theorem State.changeDep_lane (s : State) (d : DepIx) (r : Departure) (k : Lane) : (s.changeDep d r).lane k = s.lane k := by simp only [State.lane, State.changeDep_lanes]
@[simp] theorem State.changeDep_berth (s : State) (d : DepIx) (r : Departure) (k : Berth) : (s.changeDep d r).berth k = s.berth k := by simp only [State.berth, State.changeDep_berths]

/-! ### takeHold -/

@[simp] theorem State.takeHold_service (s : State) (d : DepIx) : (s.takeHold d).service = s.service := by
  simp [State.takeHold]
@[simp] theorem State.takeHold_keepValid (s : State) (d : DepIx) : (s.takeHold d).keepValid = s.keepValid := by
  simp [State.takeHold]
@[simp] theorem State.takeHold_kept (s : State) (d : DepIx) : (s.takeHold d).kept = s.kept := by
  simp [State.takeHold]
@[simp] theorem State.takeHold_geometry (s : State) (d : DepIx) : (s.takeHold d).geometry = s.geometry := by
  simp [State.takeHold]
@[simp] theorem State.takeHold_tableCursor (s : State) (d : DepIx) : (s.takeHold d).tableCursor = s.tableCursor := by
  simp [State.takeHold]
@[simp] theorem State.takeHold_sweepCursor (s : State) (d : DepIx) : (s.takeHold d).sweepCursor = s.sweepCursor := by
  simp [State.takeHold]
@[simp] theorem State.takeHold_mem (s : State) (d : DepIx) : (s.takeHold d).mem = s.mem := by
  simp [State.takeHold]
@[simp] theorem State.takeHold_fares (s : State) (d : DepIx) : (s.takeHold d).fares = s.fares := by
  simp [State.takeHold]
@[simp] theorem State.takeHold_enforce (s : State) (d : DepIx) : (s.takeHold d).enforce = s.enforce := by
  simp [State.takeHold]
@[simp] theorem State.takeHold_clock (s : State) (d : DepIx) : (s.takeHold d).clock = s.clock := by
  simp [State.takeHold]
@[simp] theorem State.takeHold_berths (s : State) (d : DepIx) : (s.takeHold d).berths = s.berths := by
  simp [State.takeHold]
@[simp] theorem State.takeHold_lanes (s : State) (d : DepIx) : (s.takeHold d).lanes = s.lanes := by
  simp [State.takeHold]
@[simp] theorem State.takeHold_arbiter (s : State) (d : DepIx) : (s.takeHold d).arbiter = s.arbiter := by
  simp [State.takeHold]
@[simp] theorem State.takeHold_engine (s : State) (d : DepIx) : (s.takeHold d).engine = s.engine := by
  simp [State.takeHold]
@[simp] theorem State.takeHold_watch (s : State) (d : DepIx) : (s.takeHold d).watch = s.watch := by
  simp [State.takeHold]
@[simp] theorem State.takeHold_link (s : State) (d : DepIx) : (s.takeHold d).link = s.link := by
  simp [State.takeHold]
@[simp] theorem State.takeHold_resetLine (s : State) (d : DepIx) : (s.takeHold d).resetLine = s.resetLine := by
  simp [State.takeHold]
@[simp] theorem State.takeHold_freeCount (s : State) (d : DepIx) : (s.takeHold d).freeCount = s.freeCount := by
  simp [State.takeHold]
@[simp] theorem State.takeHold_pending (s : State) (d : DepIx) : (s.takeHold d).pending = s.pending := by
  simp [State.takeHold]
@[simp] theorem State.takeHold_lane (s : State) (d : DepIx) (k : Lane) : (s.takeHold d).lane k = s.lane k := by simp only [State.lane, State.takeHold_lanes]
@[simp] theorem State.takeHold_berth (s : State) (d : DepIx) (k : Berth) : (s.takeHold d).berth k = s.berth k := by simp only [State.berth, State.takeHold_berths]

/-! ### autoStart -/

@[simp] theorem State.autoStart_service (s : State) (d : DepIx) : (s.autoStart d).service = s.service := by
  simp [State.autoStart]
@[simp] theorem State.autoStart_keepValid (s : State) (d : DepIx) : (s.autoStart d).keepValid = s.keepValid := by
  simp [State.autoStart]
@[simp] theorem State.autoStart_kept (s : State) (d : DepIx) : (s.autoStart d).kept = s.kept := by
  simp [State.autoStart]
@[simp] theorem State.autoStart_geometry (s : State) (d : DepIx) : (s.autoStart d).geometry = s.geometry := by
  simp [State.autoStart]
@[simp] theorem State.autoStart_tableCursor (s : State) (d : DepIx) : (s.autoStart d).tableCursor = s.tableCursor := by
  simp [State.autoStart]
@[simp] theorem State.autoStart_sweepCursor (s : State) (d : DepIx) : (s.autoStart d).sweepCursor = s.sweepCursor := by
  simp [State.autoStart]
@[simp] theorem State.autoStart_mem (s : State) (d : DepIx) : (s.autoStart d).mem = s.mem := by
  simp [State.autoStart]
@[simp] theorem State.autoStart_fares (s : State) (d : DepIx) : (s.autoStart d).fares = s.fares := by
  simp [State.autoStart]
@[simp] theorem State.autoStart_enforce (s : State) (d : DepIx) : (s.autoStart d).enforce = s.enforce := by
  simp [State.autoStart]
@[simp] theorem State.autoStart_clock (s : State) (d : DepIx) : (s.autoStart d).clock = s.clock := by
  simp [State.autoStart]
@[simp] theorem State.autoStart_berths (s : State) (d : DepIx) : (s.autoStart d).berths = s.berths := by
  simp [State.autoStart]
@[simp] theorem State.autoStart_lanes (s : State) (d : DepIx) : (s.autoStart d).lanes = s.lanes := by
  simp [State.autoStart]
@[simp] theorem State.autoStart_arbiter (s : State) (d : DepIx) : (s.autoStart d).arbiter = s.arbiter := by
  simp [State.autoStart]
@[simp] theorem State.autoStart_engine (s : State) (d : DepIx) : (s.autoStart d).engine = s.engine := by
  simp [State.autoStart]
@[simp] theorem State.autoStart_watch (s : State) (d : DepIx) : (s.autoStart d).watch = s.watch := by
  simp [State.autoStart]
@[simp] theorem State.autoStart_link (s : State) (d : DepIx) : (s.autoStart d).link = s.link := by
  simp [State.autoStart]
@[simp] theorem State.autoStart_resetLine (s : State) (d : DepIx) : (s.autoStart d).resetLine = s.resetLine := by
  simp [State.autoStart]
@[simp] theorem State.autoStart_freeCount (s : State) (d : DepIx) : (s.autoStart d).freeCount = s.freeCount := by
  simp [State.autoStart]
@[simp] theorem State.autoStart_pending (s : State) (d : DepIx) : (s.autoStart d).pending = s.pending := by
  simp [State.autoStart]
@[simp] theorem State.autoStart_lane (s : State) (d : DepIx) (k : Lane) : (s.autoStart d).lane k = s.lane k := by simp only [State.lane, State.autoStart_lanes]
@[simp] theorem State.autoStart_berth (s : State) (d : DepIx) (k : Berth) : (s.autoStart d).berth k = s.berth k := by simp only [State.berth, State.autoStart_berths]

/-! ### holdOn -/

@[simp] theorem State.holdOn_service (s : State) (d : DepIx) : ((s.holdOn d).2).service = s.service := by
  simp [State.holdOn]
@[simp] theorem State.holdOn_keepValid (s : State) (d : DepIx) : ((s.holdOn d).2).keepValid = s.keepValid := by
  simp [State.holdOn]
@[simp] theorem State.holdOn_kept (s : State) (d : DepIx) : ((s.holdOn d).2).kept = s.kept := by
  simp [State.holdOn]
@[simp] theorem State.holdOn_geometry (s : State) (d : DepIx) : ((s.holdOn d).2).geometry = s.geometry := by
  simp [State.holdOn]
@[simp] theorem State.holdOn_tableCursor (s : State) (d : DepIx) : ((s.holdOn d).2).tableCursor = s.tableCursor := by
  simp [State.holdOn]
@[simp] theorem State.holdOn_sweepCursor (s : State) (d : DepIx) : ((s.holdOn d).2).sweepCursor = s.sweepCursor := by
  simp [State.holdOn]
@[simp] theorem State.holdOn_mem (s : State) (d : DepIx) : ((s.holdOn d).2).mem = s.mem := by
  simp [State.holdOn]
@[simp] theorem State.holdOn_fares (s : State) (d : DepIx) : ((s.holdOn d).2).fares = s.fares := by
  simp [State.holdOn]
@[simp] theorem State.holdOn_enforce (s : State) (d : DepIx) : ((s.holdOn d).2).enforce = s.enforce := by
  simp [State.holdOn]
@[simp] theorem State.holdOn_clock (s : State) (d : DepIx) : ((s.holdOn d).2).clock = s.clock := by
  simp [State.holdOn]
@[simp] theorem State.holdOn_berths (s : State) (d : DepIx) : ((s.holdOn d).2).berths = s.berths := by
  simp [State.holdOn]
@[simp] theorem State.holdOn_lanes (s : State) (d : DepIx) : ((s.holdOn d).2).lanes = s.lanes := by
  simp [State.holdOn]
@[simp] theorem State.holdOn_arbiter (s : State) (d : DepIx) : ((s.holdOn d).2).arbiter = s.arbiter := by
  simp [State.holdOn]
@[simp] theorem State.holdOn_engine (s : State) (d : DepIx) : ((s.holdOn d).2).engine = s.engine := by
  simp [State.holdOn]
@[simp] theorem State.holdOn_watch (s : State) (d : DepIx) : ((s.holdOn d).2).watch = s.watch := by
  simp [State.holdOn]
@[simp] theorem State.holdOn_link (s : State) (d : DepIx) : ((s.holdOn d).2).link = s.link := by
  simp [State.holdOn]
@[simp] theorem State.holdOn_resetLine (s : State) (d : DepIx) : ((s.holdOn d).2).resetLine = s.resetLine := by
  simp [State.holdOn]
@[simp] theorem State.holdOn_freeCount (s : State) (d : DepIx) : ((s.holdOn d).2).freeCount = s.freeCount := by
  simp [State.holdOn]
@[simp] theorem State.holdOn_pending (s : State) (d : DepIx) : ((s.holdOn d).2).pending = s.pending := by
  simp [State.holdOn]
@[simp] theorem State.holdOn_lane (s : State) (d : DepIx) (k : Lane) : ((s.holdOn d).2).lane k = s.lane k := by simp only [State.lane, State.holdOn_lanes]
@[simp] theorem State.holdOn_berth (s : State) (d : DepIx) (k : Berth) : ((s.holdOn d).2).berth k = s.berth k := by simp only [State.berth, State.holdOn_berths]

/-! ### followOnStep -/

@[simp] theorem State.followOnStep_service (s : State) (d : Option DepIx) : ((s.followOnStep d).2).service = s.service := by
  simp only [State.followOnStep]; repeat' split
  all_goals simp
@[simp] theorem State.followOnStep_keepValid (s : State) (d : Option DepIx) : ((s.followOnStep d).2).keepValid = s.keepValid := by
  simp only [State.followOnStep]; repeat' split
  all_goals simp
@[simp] theorem State.followOnStep_kept (s : State) (d : Option DepIx) : ((s.followOnStep d).2).kept = s.kept := by
  simp only [State.followOnStep]; repeat' split
  all_goals simp
@[simp] theorem State.followOnStep_geometry (s : State) (d : Option DepIx) : ((s.followOnStep d).2).geometry = s.geometry := by
  simp only [State.followOnStep]; repeat' split
  all_goals simp
@[simp] theorem State.followOnStep_tableCursor (s : State) (d : Option DepIx) : ((s.followOnStep d).2).tableCursor = s.tableCursor := by
  simp only [State.followOnStep]; repeat' split
  all_goals simp
@[simp] theorem State.followOnStep_sweepCursor (s : State) (d : Option DepIx) : ((s.followOnStep d).2).sweepCursor = s.sweepCursor := by
  simp only [State.followOnStep]; repeat' split
  all_goals simp
@[simp] theorem State.followOnStep_mem (s : State) (d : Option DepIx) : ((s.followOnStep d).2).mem = s.mem := by
  simp only [State.followOnStep]; repeat' split
  all_goals simp
@[simp] theorem State.followOnStep_fares (s : State) (d : Option DepIx) : ((s.followOnStep d).2).fares = s.fares := by
  simp only [State.followOnStep]; repeat' split
  all_goals simp
@[simp] theorem State.followOnStep_enforce (s : State) (d : Option DepIx) : ((s.followOnStep d).2).enforce = s.enforce := by
  simp only [State.followOnStep]; repeat' split
  all_goals simp
@[simp] theorem State.followOnStep_clock (s : State) (d : Option DepIx) : ((s.followOnStep d).2).clock = s.clock := by
  simp only [State.followOnStep]; repeat' split
  all_goals simp
@[simp] theorem State.followOnStep_berths (s : State) (d : Option DepIx) : ((s.followOnStep d).2).berths = s.berths := by
  simp only [State.followOnStep]; repeat' split
  all_goals simp
@[simp] theorem State.followOnStep_lanes (s : State) (d : Option DepIx) : ((s.followOnStep d).2).lanes = s.lanes := by
  simp only [State.followOnStep]; repeat' split
  all_goals simp
@[simp] theorem State.followOnStep_arbiter (s : State) (d : Option DepIx) : ((s.followOnStep d).2).arbiter = s.arbiter := by
  simp only [State.followOnStep]; repeat' split
  all_goals simp
@[simp] theorem State.followOnStep_engine (s : State) (d : Option DepIx) : ((s.followOnStep d).2).engine = s.engine := by
  simp only [State.followOnStep]; repeat' split
  all_goals simp
@[simp] theorem State.followOnStep_watch (s : State) (d : Option DepIx) : ((s.followOnStep d).2).watch = s.watch := by
  simp only [State.followOnStep]; repeat' split
  all_goals simp
@[simp] theorem State.followOnStep_link (s : State) (d : Option DepIx) : ((s.followOnStep d).2).link = s.link := by
  simp only [State.followOnStep]; repeat' split
  all_goals simp
@[simp] theorem State.followOnStep_resetLine (s : State) (d : Option DepIx) : ((s.followOnStep d).2).resetLine = s.resetLine := by
  simp only [State.followOnStep]; repeat' split
  all_goals simp
@[simp] theorem State.followOnStep_freeCount (s : State) (d : Option DepIx) : ((s.followOnStep d).2).freeCount = s.freeCount := by
  simp only [State.followOnStep]; repeat' split
  all_goals simp
@[simp] theorem State.followOnStep_pending (s : State) (d : Option DepIx) : ((s.followOnStep d).2).pending = s.pending := by
  simp only [State.followOnStep]; repeat' split
  all_goals simp
@[simp] theorem State.followOnStep_lane (s : State) (d : Option DepIx) (k : Lane) : ((s.followOnStep d).2).lane k = s.lane k := by simp only [State.lane, State.followOnStep_lanes]
@[simp] theorem State.followOnStep_berth (s : State) (d : Option DepIx) (k : Berth) : ((s.followOnStep d).2).berth k = s.berth k := by simp only [State.berth, State.followOnStep_berths]

/-! ### holdRequest -/

@[simp] theorem State.holdRequest_service (s : State) (b : Berth) : ((s.holdRequest b).2).service = s.service := by
  simp only [State.holdRequest]; repeat' split
  all_goals simp
@[simp] theorem State.holdRequest_keepValid (s : State) (b : Berth) : ((s.holdRequest b).2).keepValid = s.keepValid := by
  simp only [State.holdRequest]; repeat' split
  all_goals simp
@[simp] theorem State.holdRequest_kept (s : State) (b : Berth) : ((s.holdRequest b).2).kept = s.kept := by
  simp only [State.holdRequest]; repeat' split
  all_goals simp
@[simp] theorem State.holdRequest_geometry (s : State) (b : Berth) : ((s.holdRequest b).2).geometry = s.geometry := by
  simp only [State.holdRequest]; repeat' split
  all_goals simp
@[simp] theorem State.holdRequest_tableCursor (s : State) (b : Berth) : ((s.holdRequest b).2).tableCursor = s.tableCursor := by
  simp only [State.holdRequest]; repeat' split
  all_goals simp
@[simp] theorem State.holdRequest_sweepCursor (s : State) (b : Berth) : ((s.holdRequest b).2).sweepCursor = s.sweepCursor := by
  simp only [State.holdRequest]; repeat' split
  all_goals simp
@[simp] theorem State.holdRequest_mem (s : State) (b : Berth) : ((s.holdRequest b).2).mem = s.mem := by
  simp only [State.holdRequest]; repeat' split
  all_goals simp
@[simp] theorem State.holdRequest_fares (s : State) (b : Berth) : ((s.holdRequest b).2).fares = s.fares := by
  simp only [State.holdRequest]; repeat' split
  all_goals simp
@[simp] theorem State.holdRequest_enforce (s : State) (b : Berth) : ((s.holdRequest b).2).enforce = s.enforce := by
  simp only [State.holdRequest]; repeat' split
  all_goals simp
@[simp] theorem State.holdRequest_clock (s : State) (b : Berth) : ((s.holdRequest b).2).clock = s.clock := by
  simp only [State.holdRequest]; repeat' split
  all_goals simp
@[simp] theorem State.holdRequest_berths (s : State) (b : Berth) : ((s.holdRequest b).2).berths = s.berths := by
  simp only [State.holdRequest]; repeat' split
  all_goals simp
@[simp] theorem State.holdRequest_lanes (s : State) (b : Berth) : ((s.holdRequest b).2).lanes = s.lanes := by
  simp only [State.holdRequest]; repeat' split
  all_goals simp
@[simp] theorem State.holdRequest_arbiter (s : State) (b : Berth) : ((s.holdRequest b).2).arbiter = s.arbiter := by
  simp only [State.holdRequest]; repeat' split
  all_goals simp
@[simp] theorem State.holdRequest_engine (s : State) (b : Berth) : ((s.holdRequest b).2).engine = s.engine := by
  simp only [State.holdRequest]; repeat' split
  all_goals simp
@[simp] theorem State.holdRequest_watch (s : State) (b : Berth) : ((s.holdRequest b).2).watch = s.watch := by
  simp only [State.holdRequest]; repeat' split
  all_goals simp
@[simp] theorem State.holdRequest_link (s : State) (b : Berth) : ((s.holdRequest b).2).link = s.link := by
  simp only [State.holdRequest]; repeat' split
  all_goals simp
@[simp] theorem State.holdRequest_resetLine (s : State) (b : Berth) : ((s.holdRequest b).2).resetLine = s.resetLine := by
  simp only [State.holdRequest]; repeat' split
  all_goals simp
@[simp] theorem State.holdRequest_freeCount (s : State) (b : Berth) : ((s.holdRequest b).2).freeCount = s.freeCount := by
  simp only [State.holdRequest]; repeat' split
  all_goals simp
@[simp] theorem State.holdRequest_pending (s : State) (b : Berth) : ((s.holdRequest b).2).pending = s.pending := by
  simp only [State.holdRequest]; repeat' split
  all_goals simp
@[simp] theorem State.holdRequest_lane (s : State) (b : Berth) (k : Lane) : ((s.holdRequest b).2).lane k = s.lane k := by simp only [State.lane, State.holdRequest_lanes]
@[simp] theorem State.holdRequest_berth (s : State) (b : Berth) (k : Berth) : ((s.holdRequest b).2).berth k = s.berth k := by simp only [State.berth, State.holdRequest_berths]

/-! ### release -/

@[simp] theorem State.release_service (s : State) (d : DepIx) : (s.release d).service = s.service := by
  simp only [State.release]; repeat' split
  all_goals simp
@[simp] theorem State.release_keepValid (s : State) (d : DepIx) : (s.release d).keepValid = s.keepValid := by
  simp only [State.release]; repeat' split
  all_goals simp
@[simp] theorem State.release_kept (s : State) (d : DepIx) : (s.release d).kept = s.kept := by
  simp only [State.release]; repeat' split
  all_goals simp
@[simp] theorem State.release_geometry (s : State) (d : DepIx) : (s.release d).geometry = s.geometry := by
  simp only [State.release]; repeat' split
  all_goals simp
@[simp] theorem State.release_tableCursor (s : State) (d : DepIx) : (s.release d).tableCursor = s.tableCursor := by
  simp only [State.release]; repeat' split
  all_goals simp
@[simp] theorem State.release_sweepCursor (s : State) (d : DepIx) : (s.release d).sweepCursor = s.sweepCursor := by
  simp only [State.release]; repeat' split
  all_goals simp
@[simp] theorem State.release_mem (s : State) (d : DepIx) : (s.release d).mem = s.mem := by
  simp only [State.release]; repeat' split
  all_goals simp
@[simp] theorem State.release_fares (s : State) (d : DepIx) : (s.release d).fares = s.fares := by
  simp only [State.release]; repeat' split
  all_goals simp
@[simp] theorem State.release_enforce (s : State) (d : DepIx) : (s.release d).enforce = s.enforce := by
  simp only [State.release]; repeat' split
  all_goals simp
@[simp] theorem State.release_clock (s : State) (d : DepIx) : (s.release d).clock = s.clock := by
  simp only [State.release]; repeat' split
  all_goals simp
@[simp] theorem State.release_berths (s : State) (d : DepIx) : (s.release d).berths = s.berths := by
  simp only [State.release]; repeat' split
  all_goals simp
@[simp] theorem State.release_lanes (s : State) (d : DepIx) : (s.release d).lanes = s.lanes := by
  simp only [State.release]; repeat' split
  all_goals simp
@[simp] theorem State.release_arbiter (s : State) (d : DepIx) : (s.release d).arbiter = s.arbiter := by
  simp only [State.release]; repeat' split
  all_goals simp
@[simp] theorem State.release_engine (s : State) (d : DepIx) : (s.release d).engine = s.engine := by
  simp only [State.release]; repeat' split
  all_goals simp
@[simp] theorem State.release_watch (s : State) (d : DepIx) : (s.release d).watch = s.watch := by
  simp only [State.release]; repeat' split
  all_goals simp
@[simp] theorem State.release_link (s : State) (d : DepIx) : (s.release d).link = s.link := by
  simp only [State.release]; repeat' split
  all_goals simp
@[simp] theorem State.release_resetLine (s : State) (d : DepIx) : (s.release d).resetLine = s.resetLine := by
  simp only [State.release]; repeat' split
  all_goals simp
@[simp] theorem State.release_freeCount (s : State) (d : DepIx) : (s.release d).freeCount = s.freeCount := by
  simp only [State.release]; repeat' split
  all_goals simp
@[simp] theorem State.release_pending (s : State) (d : DepIx) : (s.release d).pending = s.pending := by
  simp only [State.release]; repeat' split
  all_goals simp
@[simp] theorem State.release_lane (s : State) (d : DepIx) (k : Lane) : (s.release d).lane k = s.lane k := by simp only [State.lane, State.release_lanes]
@[simp] theorem State.release_berth (s : State) (d : DepIx) (k : Berth) : (s.release d).berth k = s.berth k := by simp only [State.berth, State.release_berths]

/-! ### commitOfCount -/

@[simp] theorem State.commitOfCount_service (s : State) (d : DepIx) (n : Nat) : (s.commitOfCount d n).service = s.service := by
  simp only [State.commitOfCount]; repeat' split
  all_goals simp
@[simp] theorem State.commitOfCount_keepValid (s : State) (d : DepIx) (n : Nat) : (s.commitOfCount d n).keepValid = s.keepValid := by
  simp only [State.commitOfCount]; repeat' split
  all_goals simp
@[simp] theorem State.commitOfCount_kept (s : State) (d : DepIx) (n : Nat) : (s.commitOfCount d n).kept = s.kept := by
  simp only [State.commitOfCount]; repeat' split
  all_goals simp
@[simp] theorem State.commitOfCount_geometry (s : State) (d : DepIx) (n : Nat) : (s.commitOfCount d n).geometry = s.geometry := by
  simp only [State.commitOfCount]; repeat' split
  all_goals simp
@[simp] theorem State.commitOfCount_tableCursor (s : State) (d : DepIx) (n : Nat) : (s.commitOfCount d n).tableCursor = s.tableCursor := by
  simp only [State.commitOfCount]; repeat' split
  all_goals simp
@[simp] theorem State.commitOfCount_sweepCursor (s : State) (d : DepIx) (n : Nat) : (s.commitOfCount d n).sweepCursor = s.sweepCursor := by
  simp only [State.commitOfCount]; repeat' split
  all_goals simp
@[simp] theorem State.commitOfCount_mem (s : State) (d : DepIx) (n : Nat) : (s.commitOfCount d n).mem = s.mem := by
  simp only [State.commitOfCount]; repeat' split
  all_goals simp
@[simp] theorem State.commitOfCount_fares (s : State) (d : DepIx) (n : Nat) : (s.commitOfCount d n).fares = s.fares := by
  simp only [State.commitOfCount]; repeat' split
  all_goals simp
@[simp] theorem State.commitOfCount_enforce (s : State) (d : DepIx) (n : Nat) : (s.commitOfCount d n).enforce = s.enforce := by
  simp only [State.commitOfCount]; repeat' split
  all_goals simp
@[simp] theorem State.commitOfCount_clock (s : State) (d : DepIx) (n : Nat) : (s.commitOfCount d n).clock = s.clock := by
  simp only [State.commitOfCount]; repeat' split
  all_goals simp
@[simp] theorem State.commitOfCount_berths (s : State) (d : DepIx) (n : Nat) : (s.commitOfCount d n).berths = s.berths := by
  simp only [State.commitOfCount]; repeat' split
  all_goals simp
@[simp] theorem State.commitOfCount_lanes (s : State) (d : DepIx) (n : Nat) : (s.commitOfCount d n).lanes = s.lanes := by
  simp only [State.commitOfCount]; repeat' split
  all_goals simp
@[simp] theorem State.commitOfCount_arbiter (s : State) (d : DepIx) (n : Nat) : (s.commitOfCount d n).arbiter = s.arbiter := by
  simp only [State.commitOfCount]; repeat' split
  all_goals simp
@[simp] theorem State.commitOfCount_engine (s : State) (d : DepIx) (n : Nat) : (s.commitOfCount d n).engine = s.engine := by
  simp only [State.commitOfCount]; repeat' split
  all_goals simp
@[simp] theorem State.commitOfCount_watch (s : State) (d : DepIx) (n : Nat) : (s.commitOfCount d n).watch = s.watch := by
  simp only [State.commitOfCount]; repeat' split
  all_goals simp
@[simp] theorem State.commitOfCount_link (s : State) (d : DepIx) (n : Nat) : (s.commitOfCount d n).link = s.link := by
  simp only [State.commitOfCount]; repeat' split
  all_goals simp
@[simp] theorem State.commitOfCount_attention (s : State) (d : DepIx) (n : Nat) : (s.commitOfCount d n).attention = s.attention := by
  simp only [State.commitOfCount]; repeat' split
  all_goals simp
@[simp] theorem State.commitOfCount_resetLine (s : State) (d : DepIx) (n : Nat) : (s.commitOfCount d n).resetLine = s.resetLine := by
  simp only [State.commitOfCount]; repeat' split
  all_goals simp
@[simp] theorem State.commitOfCount_freeCount (s : State) (d : DepIx) (n : Nat) : (s.commitOfCount d n).freeCount = s.freeCount := by
  simp only [State.commitOfCount]; repeat' split
  all_goals simp
@[simp] theorem State.commitOfCount_pending (s : State) (d : DepIx) (n : Nat) : (s.commitOfCount d n).pending = s.pending := by
  simp only [State.commitOfCount]; repeat' split
  all_goals simp
@[simp] theorem State.commitOfCount_lane (s : State) (d : DepIx) (n : Nat) (k : Lane) : (s.commitOfCount d n).lane k = s.lane k := by simp only [State.lane, State.commitOfCount_lanes]
@[simp] theorem State.commitOfCount_berth (s : State) (d : DepIx) (n : Nat) (k : Berth) : (s.commitOfCount d n).berth k = s.berth k := by simp only [State.berth, State.commitOfCount_berths]

/-! ### checkHalted -/

@[simp] theorem State.checkHalted_keepValid (s : State) : (s.checkHalted).keepValid = s.keepValid := by
  simp only [State.checkHalted]; repeat' split
  all_goals simp
@[simp] theorem State.checkHalted_kept (s : State) : (s.checkHalted).kept = s.kept := by
  simp only [State.checkHalted]; repeat' split
  all_goals simp
@[simp] theorem State.checkHalted_geometry (s : State) : (s.checkHalted).geometry = s.geometry := by
  simp only [State.checkHalted]; repeat' split
  all_goals simp
@[simp] theorem State.checkHalted_tableCursor (s : State) : (s.checkHalted).tableCursor = s.tableCursor := by
  simp only [State.checkHalted]; repeat' split
  all_goals simp
@[simp] theorem State.checkHalted_sweepCursor (s : State) : (s.checkHalted).sweepCursor = s.sweepCursor := by
  simp only [State.checkHalted]; repeat' split
  all_goals simp
@[simp] theorem State.checkHalted_mem (s : State) : (s.checkHalted).mem = s.mem := by
  simp only [State.checkHalted]; repeat' split
  all_goals simp
@[simp] theorem State.checkHalted_fares (s : State) : (s.checkHalted).fares = s.fares := by
  simp only [State.checkHalted]; repeat' split
  all_goals simp
@[simp] theorem State.checkHalted_enforce (s : State) : (s.checkHalted).enforce = s.enforce := by
  simp only [State.checkHalted]; repeat' split
  all_goals simp
@[simp] theorem State.checkHalted_clock (s : State) : (s.checkHalted).clock = s.clock := by
  simp only [State.checkHalted]; repeat' split
  all_goals simp
@[simp] theorem State.checkHalted_departures (s : State) : (s.checkHalted).departures = s.departures := by
  simp only [State.checkHalted]; repeat' split
  all_goals simp
@[simp] theorem State.checkHalted_berths (s : State) : (s.checkHalted).berths = s.berths := by
  simp only [State.checkHalted]; repeat' split
  all_goals simp
@[simp] theorem State.checkHalted_lanes (s : State) : (s.checkHalted).lanes = s.lanes := by
  simp only [State.checkHalted]; repeat' split
  all_goals simp
@[simp] theorem State.checkHalted_arbiter (s : State) : (s.checkHalted).arbiter = s.arbiter := by
  simp only [State.checkHalted]; repeat' split
  all_goals simp
@[simp] theorem State.checkHalted_engine (s : State) : (s.checkHalted).engine = s.engine := by
  simp only [State.checkHalted]; repeat' split
  all_goals simp
@[simp] theorem State.checkHalted_watch (s : State) : (s.checkHalted).watch = s.watch := by
  simp only [State.checkHalted]; repeat' split
  all_goals simp
@[simp] theorem State.checkHalted_link (s : State) : (s.checkHalted).link = s.link := by
  simp only [State.checkHalted]; repeat' split
  all_goals simp
@[simp] theorem State.checkHalted_attention (s : State) : (s.checkHalted).attention = s.attention := by
  simp only [State.checkHalted]; repeat' split
  all_goals simp
@[simp] theorem State.checkHalted_resetLine (s : State) : (s.checkHalted).resetLine = s.resetLine := by
  simp only [State.checkHalted]; repeat' split
  all_goals simp
@[simp] theorem State.checkHalted_freeCount (s : State) : (s.checkHalted).freeCount = s.freeCount := by
  simp only [State.checkHalted]; repeat' split
  all_goals simp
@[simp] theorem State.checkHalted_pending (s : State) : (s.checkHalted).pending = s.pending := by
  simp only [State.checkHalted]; repeat' split
  all_goals simp
@[simp] theorem State.checkHalted_lane (s : State) (k : Lane) : (s.checkHalted).lane k = s.lane k := by simp only [State.lane, State.checkHalted_lanes]
@[simp] theorem State.checkHalted_dep (s : State) (k : DepIx) : (s.checkHalted).dep k = s.dep k := by simp only [State.dep, State.checkHalted_departures]
@[simp] theorem State.checkHalted_berth (s : State) (k : Berth) : (s.checkHalted).berth k = s.berth k := by simp only [State.berth, State.checkHalted_berths]

/-! ### laneRest -/

@[simp] theorem State.laneRest_keepValid (s : State) (l : Lane) : (s.laneRest l).keepValid = s.keepValid := by
  simp only [State.laneRest]; repeat' split
  all_goals simp
@[simp] theorem State.laneRest_kept (s : State) (l : Lane) : (s.laneRest l).kept = s.kept := by
  simp only [State.laneRest]; repeat' split
  all_goals simp
@[simp] theorem State.laneRest_geometry (s : State) (l : Lane) : (s.laneRest l).geometry = s.geometry := by
  simp only [State.laneRest]; repeat' split
  all_goals simp
@[simp] theorem State.laneRest_tableCursor (s : State) (l : Lane) : (s.laneRest l).tableCursor = s.tableCursor := by
  simp only [State.laneRest]; repeat' split
  all_goals simp
@[simp] theorem State.laneRest_sweepCursor (s : State) (l : Lane) : (s.laneRest l).sweepCursor = s.sweepCursor := by
  simp only [State.laneRest]; repeat' split
  all_goals simp
@[simp] theorem State.laneRest_mem (s : State) (l : Lane) : (s.laneRest l).mem = s.mem := by
  simp only [State.laneRest]; repeat' split
  all_goals simp
@[simp] theorem State.laneRest_fares (s : State) (l : Lane) : (s.laneRest l).fares = s.fares := by
  simp only [State.laneRest]; repeat' split
  all_goals simp
@[simp] theorem State.laneRest_enforce (s : State) (l : Lane) : (s.laneRest l).enforce = s.enforce := by
  simp only [State.laneRest]; repeat' split
  all_goals simp
@[simp] theorem State.laneRest_clock (s : State) (l : Lane) : (s.laneRest l).clock = s.clock := by
  simp only [State.laneRest]; repeat' split
  all_goals simp
@[simp] theorem State.laneRest_departures (s : State) (l : Lane) : (s.laneRest l).departures = s.departures := by
  simp only [State.laneRest]; repeat' split
  all_goals simp
@[simp] theorem State.laneRest_berths (s : State) (l : Lane) : (s.laneRest l).berths = s.berths := by
  simp only [State.laneRest]; repeat' split
  all_goals simp
@[simp] theorem State.laneRest_arbiter (s : State) (l : Lane) : (s.laneRest l).arbiter = s.arbiter := by
  simp only [State.laneRest]; repeat' split
  all_goals simp
@[simp] theorem State.laneRest_engine (s : State) (l : Lane) : (s.laneRest l).engine = s.engine := by
  simp only [State.laneRest]; repeat' split
  all_goals simp
@[simp] theorem State.laneRest_watch (s : State) (l : Lane) : (s.laneRest l).watch = s.watch := by
  simp only [State.laneRest]; repeat' split
  all_goals simp
@[simp] theorem State.laneRest_link (s : State) (l : Lane) : (s.laneRest l).link = s.link := by
  simp only [State.laneRest]; repeat' split
  all_goals simp
@[simp] theorem State.laneRest_resetLine (s : State) (l : Lane) : (s.laneRest l).resetLine = s.resetLine := by
  simp only [State.laneRest]; repeat' split
  all_goals simp
@[simp] theorem State.laneRest_freeCount (s : State) (l : Lane) : (s.laneRest l).freeCount = s.freeCount := by
  simp only [State.laneRest]; repeat' split
  all_goals simp
@[simp] theorem State.laneRest_pending (s : State) (l : Lane) : (s.laneRest l).pending = s.pending := by
  simp only [State.laneRest]; repeat' split
  all_goals simp
@[simp] theorem State.laneRest_dep (s : State) (l : Lane) (k : DepIx) : (s.laneRest l).dep k = s.dep k := by simp only [State.dep, State.laneRest_departures]
@[simp] theorem State.laneRest_berth (s : State) (l : Lane) (k : Berth) : (s.laneRest l).berth k = s.berth k := by simp only [State.berth, State.laneRest_berths]

/-! ### endUnpassed -/

@[simp] theorem State.endUnpassed_keepValid (s : State) (l : Lane) (a : Answered) (e : Bool) : (s.endUnpassed l a e).keepValid = s.keepValid := by
  simp only [State.endUnpassed]; repeat' split
  all_goals simp
@[simp] theorem State.endUnpassed_kept (s : State) (l : Lane) (a : Answered) (e : Bool) : (s.endUnpassed l a e).kept = s.kept := by
  simp only [State.endUnpassed]; repeat' split
  all_goals simp
@[simp] theorem State.endUnpassed_geometry (s : State) (l : Lane) (a : Answered) (e : Bool) : (s.endUnpassed l a e).geometry = s.geometry := by
  simp only [State.endUnpassed]; repeat' split
  all_goals simp
@[simp] theorem State.endUnpassed_tableCursor (s : State) (l : Lane) (a : Answered) (e : Bool) : (s.endUnpassed l a e).tableCursor = s.tableCursor := by
  simp only [State.endUnpassed]; repeat' split
  all_goals simp
@[simp] theorem State.endUnpassed_sweepCursor (s : State) (l : Lane) (a : Answered) (e : Bool) : (s.endUnpassed l a e).sweepCursor = s.sweepCursor := by
  simp only [State.endUnpassed]; repeat' split
  all_goals simp
@[simp] theorem State.endUnpassed_mem (s : State) (l : Lane) (a : Answered) (e : Bool) : (s.endUnpassed l a e).mem = s.mem := by
  simp only [State.endUnpassed]; repeat' split
  all_goals simp
@[simp] theorem State.endUnpassed_fares (s : State) (l : Lane) (a : Answered) (e : Bool) : (s.endUnpassed l a e).fares = s.fares := by
  simp only [State.endUnpassed]; repeat' split
  all_goals simp
@[simp] theorem State.endUnpassed_enforce (s : State) (l : Lane) (a : Answered) (e : Bool) : (s.endUnpassed l a e).enforce = s.enforce := by
  simp only [State.endUnpassed]; repeat' split
  all_goals simp
@[simp] theorem State.endUnpassed_clock (s : State) (l : Lane) (a : Answered) (e : Bool) : (s.endUnpassed l a e).clock = s.clock := by
  simp only [State.endUnpassed]; repeat' split
  all_goals simp
@[simp] theorem State.endUnpassed_berths (s : State) (l : Lane) (a : Answered) (e : Bool) : (s.endUnpassed l a e).berths = s.berths := by
  simp only [State.endUnpassed]; repeat' split
  all_goals simp
@[simp] theorem State.endUnpassed_arbiter (s : State) (l : Lane) (a : Answered) (e : Bool) : (s.endUnpassed l a e).arbiter = s.arbiter := by
  simp only [State.endUnpassed]; repeat' split
  all_goals simp
@[simp] theorem State.endUnpassed_engine (s : State) (l : Lane) (a : Answered) (e : Bool) : (s.endUnpassed l a e).engine = s.engine := by
  simp only [State.endUnpassed]; repeat' split
  all_goals simp
@[simp] theorem State.endUnpassed_watch (s : State) (l : Lane) (a : Answered) (e : Bool) : (s.endUnpassed l a e).watch = s.watch := by
  simp only [State.endUnpassed]; repeat' split
  all_goals simp
@[simp] theorem State.endUnpassed_link (s : State) (l : Lane) (a : Answered) (e : Bool) : (s.endUnpassed l a e).link = s.link := by
  simp only [State.endUnpassed]; repeat' split
  all_goals simp
@[simp] theorem State.endUnpassed_resetLine (s : State) (l : Lane) (a : Answered) (e : Bool) : (s.endUnpassed l a e).resetLine = s.resetLine := by
  simp only [State.endUnpassed]; repeat' split
  all_goals simp
@[simp] theorem State.endUnpassed_freeCount (s : State) (l : Lane) (a : Answered) (e : Bool) : (s.endUnpassed l a e).freeCount = s.freeCount := by
  simp only [State.endUnpassed]; repeat' split
  all_goals simp
@[simp] theorem State.endUnpassed_pending (s : State) (l : Lane) (a : Answered) (e : Bool) : (s.endUnpassed l a e).pending = s.pending := by
  simp only [State.endUnpassed]; repeat' split
  all_goals simp
@[simp] theorem State.endUnpassed_berth (s : State) (l : Lane) (a : Answered) (e : Bool) (k : Berth) : (s.endUnpassed l a e).berth k = s.berth k := by simp only [State.berth, State.endUnpassed_berths]

/-! ### expire -/

@[simp] theorem State.expire_keepValid (s : State) (l : Lane) : (s.expire l).keepValid = s.keepValid := by simp [State.expire]
@[simp] theorem State.expire_kept (s : State) (l : Lane) : (s.expire l).kept = s.kept := by simp [State.expire]
@[simp] theorem State.expire_geometry (s : State) (l : Lane) : (s.expire l).geometry = s.geometry := by simp [State.expire]
@[simp] theorem State.expire_tableCursor (s : State) (l : Lane) : (s.expire l).tableCursor = s.tableCursor := by simp [State.expire]
@[simp] theorem State.expire_sweepCursor (s : State) (l : Lane) : (s.expire l).sweepCursor = s.sweepCursor := by simp [State.expire]
@[simp] theorem State.expire_mem (s : State) (l : Lane) : (s.expire l).mem = s.mem := by simp [State.expire]
@[simp] theorem State.expire_fares (s : State) (l : Lane) : (s.expire l).fares = s.fares := by simp [State.expire]
@[simp] theorem State.expire_enforce (s : State) (l : Lane) : (s.expire l).enforce = s.enforce := by simp [State.expire]
@[simp] theorem State.expire_clock (s : State) (l : Lane) : (s.expire l).clock = s.clock := by simp [State.expire]
@[simp] theorem State.expire_berths (s : State) (l : Lane) : (s.expire l).berths = s.berths := by simp [State.expire]
@[simp] theorem State.expire_arbiter (s : State) (l : Lane) : (s.expire l).arbiter = s.arbiter := by simp [State.expire]
@[simp] theorem State.expire_engine (s : State) (l : Lane) : (s.expire l).engine = s.engine := by simp [State.expire]
@[simp] theorem State.expire_watch (s : State) (l : Lane) : (s.expire l).watch = s.watch := by simp [State.expire]
@[simp] theorem State.expire_link (s : State) (l : Lane) : (s.expire l).link = s.link := by simp [State.expire]
@[simp] theorem State.expire_resetLine (s : State) (l : Lane) : (s.expire l).resetLine = s.resetLine := by simp [State.expire]
@[simp] theorem State.expire_freeCount (s : State) (l : Lane) : (s.expire l).freeCount = s.freeCount := by simp [State.expire]
@[simp] theorem State.expire_pending (s : State) (l : Lane) : (s.expire l).pending = s.pending := by simp [State.expire]
@[simp] theorem State.expire_berth (s : State) (l : Lane) (k : Berth) : (s.expire l).berth k = s.berth k := by simp only [State.berth, State.expire_berths]

/-! ### portRead -/

@[simp] theorem State.portRead_service (s : State) (n : Nat) : ((s.portRead n).2).service = s.service := by
  simp only [State.portRead]; repeat' split
  all_goals simp
@[simp] theorem State.portRead_keepValid (s : State) (n : Nat) : ((s.portRead n).2).keepValid = s.keepValid := by
  simp only [State.portRead]; repeat' split
  all_goals simp
@[simp] theorem State.portRead_kept (s : State) (n : Nat) : ((s.portRead n).2).kept = s.kept := by
  simp only [State.portRead]; repeat' split
  all_goals simp
@[simp] theorem State.portRead_geometry (s : State) (n : Nat) : ((s.portRead n).2).geometry = s.geometry := by
  simp only [State.portRead]; repeat' split
  all_goals simp
@[simp] theorem State.portRead_tableCursor (s : State) (n : Nat) : ((s.portRead n).2).tableCursor = s.tableCursor := by
  simp only [State.portRead]; repeat' split
  all_goals simp
@[simp] theorem State.portRead_sweepCursor (s : State) (n : Nat) : ((s.portRead n).2).sweepCursor = s.sweepCursor := by
  simp only [State.portRead]; repeat' split
  all_goals simp
@[simp] theorem State.portRead_mem (s : State) (n : Nat) : ((s.portRead n).2).mem = s.mem := by
  simp only [State.portRead]; repeat' split
  all_goals simp
@[simp] theorem State.portRead_fares (s : State) (n : Nat) : ((s.portRead n).2).fares = s.fares := by
  simp only [State.portRead]; repeat' split
  all_goals simp
@[simp] theorem State.portRead_enforce (s : State) (n : Nat) : ((s.portRead n).2).enforce = s.enforce := by
  simp only [State.portRead]; repeat' split
  all_goals simp
@[simp] theorem State.portRead_clock (s : State) (n : Nat) : ((s.portRead n).2).clock = s.clock := by
  simp only [State.portRead]; repeat' split
  all_goals simp
@[simp] theorem State.portRead_departures (s : State) (n : Nat) : ((s.portRead n).2).departures = s.departures := by
  simp only [State.portRead]; repeat' split
  all_goals simp
@[simp] theorem State.portRead_berths (s : State) (n : Nat) : ((s.portRead n).2).berths = s.berths := by
  simp only [State.portRead]; repeat' split
  all_goals simp
@[simp] theorem State.portRead_lanes (s : State) (n : Nat) : ((s.portRead n).2).lanes = s.lanes := by
  simp only [State.portRead]; repeat' split
  all_goals simp
@[simp] theorem State.portRead_arbiter (s : State) (n : Nat) : ((s.portRead n).2).arbiter = s.arbiter := by
  simp only [State.portRead]; repeat' split
  all_goals simp
@[simp] theorem State.portRead_engine (s : State) (n : Nat) : ((s.portRead n).2).engine = s.engine := by
  simp only [State.portRead]; repeat' split
  all_goals simp
@[simp] theorem State.portRead_watch (s : State) (n : Nat) : ((s.portRead n).2).watch = s.watch := by
  simp only [State.portRead]; repeat' split
  all_goals simp
@[simp] theorem State.portRead_link (s : State) (n : Nat) : ((s.portRead n).2).link = s.link := by
  simp only [State.portRead]; repeat' split
  all_goals simp
@[simp] theorem State.portRead_resetLine (s : State) (n : Nat) : ((s.portRead n).2).resetLine = s.resetLine := by
  simp only [State.portRead]; repeat' split
  all_goals simp
@[simp] theorem State.portRead_freeCount (s : State) (n : Nat) : ((s.portRead n).2).freeCount = s.freeCount := by
  simp only [State.portRead]; repeat' split
  all_goals simp
@[simp] theorem State.portRead_pending (s : State) (n : Nat) : ((s.portRead n).2).pending = s.pending := by
  simp only [State.portRead]; repeat' split
  all_goals simp
@[simp] theorem State.portRead_lane (s : State) (n : Nat) (k : Lane) : ((s.portRead n).2).lane k = s.lane k := by simp only [State.lane, State.portRead_lanes]
@[simp] theorem State.portRead_dep (s : State) (n : Nat) (k : DepIx) : ((s.portRead n).2).dep k = s.dep k := by simp only [State.dep, State.portRead_departures]
@[simp] theorem State.portRead_berth (s : State) (n : Nat) (k : Berth) : ((s.portRead n).2).berth k = s.berth k := by simp only [State.berth, State.portRead_berths]

/-! ### lookup -/

@[simp] theorem State.lookup_service (s : State) (n : CardNumber) : ((s.lookup n).2).service = s.service := by
  simp only [State.lookup]; repeat' split
  all_goals simp
@[simp] theorem State.lookup_keepValid (s : State) (n : CardNumber) : ((s.lookup n).2).keepValid = s.keepValid := by
  simp only [State.lookup]; repeat' split
  all_goals simp
@[simp] theorem State.lookup_kept (s : State) (n : CardNumber) : ((s.lookup n).2).kept = s.kept := by
  simp only [State.lookup]; repeat' split
  all_goals simp
@[simp] theorem State.lookup_geometry (s : State) (n : CardNumber) : ((s.lookup n).2).geometry = s.geometry := by
  simp only [State.lookup]; repeat' split
  all_goals simp
@[simp] theorem State.lookup_tableCursor (s : State) (n : CardNumber) : ((s.lookup n).2).tableCursor = s.tableCursor := by
  simp only [State.lookup]; repeat' split
  all_goals simp
@[simp] theorem State.lookup_sweepCursor (s : State) (n : CardNumber) : ((s.lookup n).2).sweepCursor = s.sweepCursor := by
  simp only [State.lookup]; repeat' split
  all_goals simp
@[simp] theorem State.lookup_mem (s : State) (n : CardNumber) : ((s.lookup n).2).mem = s.mem := by
  simp only [State.lookup]; repeat' split
  all_goals simp
@[simp] theorem State.lookup_fares (s : State) (n : CardNumber) : ((s.lookup n).2).fares = s.fares := by
  simp only [State.lookup]; repeat' split
  all_goals simp
@[simp] theorem State.lookup_enforce (s : State) (n : CardNumber) : ((s.lookup n).2).enforce = s.enforce := by
  simp only [State.lookup]; repeat' split
  all_goals simp
@[simp] theorem State.lookup_clock (s : State) (n : CardNumber) : ((s.lookup n).2).clock = s.clock := by
  simp only [State.lookup]; repeat' split
  all_goals simp
@[simp] theorem State.lookup_departures (s : State) (n : CardNumber) : ((s.lookup n).2).departures = s.departures := by
  simp only [State.lookup]; repeat' split
  all_goals simp
@[simp] theorem State.lookup_berths (s : State) (n : CardNumber) : ((s.lookup n).2).berths = s.berths := by
  simp only [State.lookup]; repeat' split
  all_goals simp
@[simp] theorem State.lookup_lanes (s : State) (n : CardNumber) : ((s.lookup n).2).lanes = s.lanes := by
  simp only [State.lookup]; repeat' split
  all_goals simp
@[simp] theorem State.lookup_arbiter (s : State) (n : CardNumber) : ((s.lookup n).2).arbiter = s.arbiter := by
  simp only [State.lookup]; repeat' split
  all_goals simp
@[simp] theorem State.lookup_engine (s : State) (n : CardNumber) : ((s.lookup n).2).engine = s.engine := by
  simp only [State.lookup]; repeat' split
  all_goals simp
@[simp] theorem State.lookup_watch (s : State) (n : CardNumber) : ((s.lookup n).2).watch = s.watch := by
  simp only [State.lookup]; repeat' split
  all_goals simp
@[simp] theorem State.lookup_link (s : State) (n : CardNumber) : ((s.lookup n).2).link = s.link := by
  simp only [State.lookup]; repeat' split
  all_goals simp
@[simp] theorem State.lookup_resetLine (s : State) (n : CardNumber) : ((s.lookup n).2).resetLine = s.resetLine := by
  simp only [State.lookup]; repeat' split
  all_goals simp
@[simp] theorem State.lookup_freeCount (s : State) (n : CardNumber) : ((s.lookup n).2).freeCount = s.freeCount := by
  simp only [State.lookup]; repeat' split
  all_goals simp
@[simp] theorem State.lookup_pending (s : State) (n : CardNumber) : ((s.lookup n).2).pending = s.pending := by
  simp only [State.lookup]; repeat' split
  all_goals simp
@[simp] theorem State.lookup_lane (s : State) (n : CardNumber) (k : Lane) : ((s.lookup n).2).lane k = s.lane k := by simp only [State.lane, State.lookup_lanes]
@[simp] theorem State.lookup_dep (s : State) (n : CardNumber) (k : DepIx) : ((s.lookup n).2).dep k = s.dep k := by simp only [State.dep, State.lookup_departures]
@[simp] theorem State.lookup_berth (s : State) (n : CardNumber) (k : Berth) : ((s.lookup n).2).berth k = s.berth k := by simp only [State.berth, State.lookup_berths]

/-! ### portOrder -/

@[simp] theorem State.portOrder_service (s : State) (n : Nat) : ((s.portOrder n).2).service = s.service := by
  simp only [State.portOrder]; repeat' split
  all_goals simp
@[simp] theorem State.portOrder_keepValid (s : State) (n : Nat) : ((s.portOrder n).2).keepValid = s.keepValid := by
  simp only [State.portOrder]; repeat' split
  all_goals simp
@[simp] theorem State.portOrder_kept (s : State) (n : Nat) : ((s.portOrder n).2).kept = s.kept := by
  simp only [State.portOrder]; repeat' split
  all_goals simp
@[simp] theorem State.portOrder_geometry (s : State) (n : Nat) : ((s.portOrder n).2).geometry = s.geometry := by
  simp only [State.portOrder]; repeat' split
  all_goals simp
@[simp] theorem State.portOrder_tableCursor (s : State) (n : Nat) : ((s.portOrder n).2).tableCursor = s.tableCursor := by
  simp only [State.portOrder]; repeat' split
  all_goals simp
@[simp] theorem State.portOrder_sweepCursor (s : State) (n : Nat) : ((s.portOrder n).2).sweepCursor = s.sweepCursor := by
  simp only [State.portOrder]; repeat' split
  all_goals simp
@[simp] theorem State.portOrder_mem (s : State) (n : Nat) : ((s.portOrder n).2).mem = s.mem := by
  simp only [State.portOrder]; repeat' split
  all_goals simp
@[simp] theorem State.portOrder_fares (s : State) (n : Nat) : ((s.portOrder n).2).fares = s.fares := by
  simp only [State.portOrder]; repeat' split
  all_goals simp
@[simp] theorem State.portOrder_enforce (s : State) (n : Nat) : ((s.portOrder n).2).enforce = s.enforce := by
  simp only [State.portOrder]; repeat' split
  all_goals simp
@[simp] theorem State.portOrder_clock (s : State) (n : Nat) : ((s.portOrder n).2).clock = s.clock := by
  simp only [State.portOrder]; repeat' split
  all_goals simp
@[simp] theorem State.portOrder_departures (s : State) (n : Nat) : ((s.portOrder n).2).departures = s.departures := by
  simp only [State.portOrder]; repeat' split
  all_goals simp
@[simp] theorem State.portOrder_berths (s : State) (n : Nat) : ((s.portOrder n).2).berths = s.berths := by
  simp only [State.portOrder]; repeat' split
  all_goals simp
@[simp] theorem State.portOrder_lanes (s : State) (n : Nat) : ((s.portOrder n).2).lanes = s.lanes := by
  simp only [State.portOrder]; repeat' split
  all_goals simp
@[simp] theorem State.portOrder_arbiter (s : State) (n : Nat) : ((s.portOrder n).2).arbiter = s.arbiter := by
  simp only [State.portOrder]; repeat' split
  all_goals simp
@[simp] theorem State.portOrder_engine (s : State) (n : Nat) : ((s.portOrder n).2).engine = s.engine := by
  simp only [State.portOrder]; repeat' split
  all_goals simp
@[simp] theorem State.portOrder_watch (s : State) (n : Nat) : ((s.portOrder n).2).watch = s.watch := by
  simp only [State.portOrder]; repeat' split
  all_goals simp
@[simp] theorem State.portOrder_link (s : State) (n : Nat) : ((s.portOrder n).2).link = s.link := by
  simp only [State.portOrder]; repeat' split
  all_goals simp
@[simp] theorem State.portOrder_attention (s : State) (n : Nat) : ((s.portOrder n).2).attention = s.attention := by
  simp only [State.portOrder]; repeat' split
  all_goals simp
@[simp] theorem State.portOrder_resetLine (s : State) (n : Nat) : ((s.portOrder n).2).resetLine = s.resetLine := by
  simp only [State.portOrder]; repeat' split
  all_goals simp
@[simp] theorem State.portOrder_pending (s : State) (n : Nat) : ((s.portOrder n).2).pending = s.pending := by
  simp only [State.portOrder]; repeat' split
  all_goals simp
@[simp] theorem State.portOrder_lane (s : State) (n : Nat) (k : Lane) : ((s.portOrder n).2).lane k = s.lane k := by simp only [State.lane, State.portOrder_lanes]
@[simp] theorem State.portOrder_dep (s : State) (n : Nat) (k : DepIx) : ((s.portOrder n).2).dep k = s.dep k := by simp only [State.dep, State.portOrder_departures]
@[simp] theorem State.portOrder_berth (s : State) (n : Nat) (k : Berth) : ((s.portOrder n).2).berth k = s.berth k := by simp only [State.berth, State.portOrder_berths]

/-! ### grantTap -/

@[simp] theorem State.grantTap_service (s : State) (l : Lane) : (s.grantTap l).service = s.service := by
  simp [State.grantTap]
@[simp] theorem State.grantTap_keepValid (s : State) (l : Lane) : (s.grantTap l).keepValid = s.keepValid := by
  simp [State.grantTap]
@[simp] theorem State.grantTap_kept (s : State) (l : Lane) : (s.grantTap l).kept = s.kept := by
  simp [State.grantTap]
@[simp] theorem State.grantTap_geometry (s : State) (l : Lane) : (s.grantTap l).geometry = s.geometry := by
  simp [State.grantTap]
@[simp] theorem State.grantTap_tableCursor (s : State) (l : Lane) : (s.grantTap l).tableCursor = s.tableCursor := by
  simp [State.grantTap]
@[simp] theorem State.grantTap_sweepCursor (s : State) (l : Lane) : (s.grantTap l).sweepCursor = s.sweepCursor := by
  simp [State.grantTap]
@[simp] theorem State.grantTap_mem (s : State) (l : Lane) : (s.grantTap l).mem = s.mem := by
  simp [State.grantTap]
@[simp] theorem State.grantTap_fares (s : State) (l : Lane) : (s.grantTap l).fares = s.fares := by
  simp [State.grantTap]
@[simp] theorem State.grantTap_enforce (s : State) (l : Lane) : (s.grantTap l).enforce = s.enforce := by
  simp [State.grantTap]
@[simp] theorem State.grantTap_clock (s : State) (l : Lane) : (s.grantTap l).clock = s.clock := by
  simp [State.grantTap]
@[simp] theorem State.grantTap_departures (s : State) (l : Lane) : (s.grantTap l).departures = s.departures := by
  simp [State.grantTap]
@[simp] theorem State.grantTap_berths (s : State) (l : Lane) : (s.grantTap l).berths = s.berths := by
  simp [State.grantTap]
@[simp] theorem State.grantTap_watch (s : State) (l : Lane) : (s.grantTap l).watch = s.watch := by
  simp [State.grantTap]
@[simp] theorem State.grantTap_link (s : State) (l : Lane) : (s.grantTap l).link = s.link := by
  simp [State.grantTap]
@[simp] theorem State.grantTap_attention (s : State) (l : Lane) : (s.grantTap l).attention = s.attention := by
  simp [State.grantTap]
@[simp] theorem State.grantTap_resetLine (s : State) (l : Lane) : (s.grantTap l).resetLine = s.resetLine := by
  simp [State.grantTap]
@[simp] theorem State.grantTap_freeCount (s : State) (l : Lane) : (s.grantTap l).freeCount = s.freeCount := by
  simp [State.grantTap]
@[simp] theorem State.grantTap_pending (s : State) (l : Lane) : (s.grantTap l).pending = s.pending := by
  simp [State.grantTap]
@[simp] theorem State.grantTap_dep (s : State) (l : Lane) (k : DepIx) : (s.grantTap l).dep k = s.dep k := by simp only [State.dep, State.grantTap_departures]
@[simp] theorem State.grantTap_berth (s : State) (l : Lane) (k : Berth) : (s.grantTap l).berth k = s.berth k := by simp only [State.berth, State.grantTap_berths]

/-! ### applyGrant -/

@[simp] theorem State.applyGrant_service (s : State) (g : Grant) : (s.applyGrant g).service = s.service := by
  simp only [State.applyGrant]; repeat' split
  all_goals simp
@[simp] theorem State.applyGrant_keepValid (s : State) (g : Grant) : (s.applyGrant g).keepValid = s.keepValid := by
  simp only [State.applyGrant]; repeat' split
  all_goals simp
@[simp] theorem State.applyGrant_kept (s : State) (g : Grant) : (s.applyGrant g).kept = s.kept := by
  simp only [State.applyGrant]; repeat' split
  all_goals simp
@[simp] theorem State.applyGrant_geometry (s : State) (g : Grant) : (s.applyGrant g).geometry = s.geometry := by
  simp only [State.applyGrant]; repeat' split
  all_goals simp
@[simp] theorem State.applyGrant_tableCursor (s : State) (g : Grant) : (s.applyGrant g).tableCursor = s.tableCursor := by
  simp only [State.applyGrant]; repeat' split
  all_goals simp
@[simp] theorem State.applyGrant_sweepCursor (s : State) (g : Grant) : (s.applyGrant g).sweepCursor = s.sweepCursor := by
  simp only [State.applyGrant]; repeat' split
  all_goals simp
@[simp] theorem State.applyGrant_mem (s : State) (g : Grant) : (s.applyGrant g).mem = s.mem := by
  simp only [State.applyGrant]; repeat' split
  all_goals simp
@[simp] theorem State.applyGrant_fares (s : State) (g : Grant) : (s.applyGrant g).fares = s.fares := by
  simp only [State.applyGrant]; repeat' split
  all_goals simp
@[simp] theorem State.applyGrant_enforce (s : State) (g : Grant) : (s.applyGrant g).enforce = s.enforce := by
  simp only [State.applyGrant]; repeat' split
  all_goals simp
@[simp] theorem State.applyGrant_clock (s : State) (g : Grant) : (s.applyGrant g).clock = s.clock := by
  simp only [State.applyGrant]; repeat' split
  all_goals simp
@[simp] theorem State.applyGrant_departures (s : State) (g : Grant) : (s.applyGrant g).departures = s.departures := by
  simp only [State.applyGrant]; repeat' split
  all_goals simp
@[simp] theorem State.applyGrant_berths (s : State) (g : Grant) : (s.applyGrant g).berths = s.berths := by
  simp only [State.applyGrant]; repeat' split
  all_goals simp
@[simp] theorem State.applyGrant_watch (s : State) (g : Grant) : (s.applyGrant g).watch = s.watch := by
  simp only [State.applyGrant]; repeat' split
  all_goals simp
@[simp] theorem State.applyGrant_link (s : State) (g : Grant) : (s.applyGrant g).link = s.link := by
  simp only [State.applyGrant]; repeat' split
  all_goals simp
@[simp] theorem State.applyGrant_attention (s : State) (g : Grant) : (s.applyGrant g).attention = s.attention := by
  simp only [State.applyGrant]; repeat' split
  all_goals simp
@[simp] theorem State.applyGrant_resetLine (s : State) (g : Grant) : (s.applyGrant g).resetLine = s.resetLine := by
  simp only [State.applyGrant]; repeat' split
  all_goals simp
@[simp] theorem State.applyGrant_freeCount (s : State) (g : Grant) : (s.applyGrant g).freeCount = s.freeCount := by
  simp only [State.applyGrant]; repeat' split
  all_goals simp
@[simp] theorem State.applyGrant_pending (s : State) (g : Grant) : (s.applyGrant g).pending = s.pending := by
  simp only [State.applyGrant]; repeat' split
  all_goals simp
@[simp] theorem State.applyGrant_dep (s : State) (g : Grant) (k : DepIx) : (s.applyGrant g).dep k = s.dep k := by simp only [State.dep, State.applyGrant_departures]
@[simp] theorem State.applyGrant_berth (s : State) (g : Grant) (k : Berth) : (s.applyGrant g).berth k = s.berth k := by simp only [State.berth, State.applyGrant_berths]

/-! ### settle -/

@[simp] theorem State.settle_service (s : State) : (s.settle).service = s.service := by
  simp only [State.settle]; repeat' split
  all_goals simp
@[simp] theorem State.settle_keepValid (s : State) : (s.settle).keepValid = s.keepValid := by
  simp only [State.settle]; repeat' split
  all_goals simp
@[simp] theorem State.settle_kept (s : State) : (s.settle).kept = s.kept := by
  simp only [State.settle]; repeat' split
  all_goals simp
@[simp] theorem State.settle_geometry (s : State) : (s.settle).geometry = s.geometry := by
  simp only [State.settle]; repeat' split
  all_goals simp
@[simp] theorem State.settle_tableCursor (s : State) : (s.settle).tableCursor = s.tableCursor := by
  simp only [State.settle]; repeat' split
  all_goals simp
@[simp] theorem State.settle_sweepCursor (s : State) : (s.settle).sweepCursor = s.sweepCursor := by
  simp only [State.settle]; repeat' split
  all_goals simp
@[simp] theorem State.settle_mem (s : State) : (s.settle).mem = s.mem := by
  simp only [State.settle]; repeat' split
  all_goals simp
@[simp] theorem State.settle_fares (s : State) : (s.settle).fares = s.fares := by
  simp only [State.settle]; repeat' split
  all_goals simp
@[simp] theorem State.settle_enforce (s : State) : (s.settle).enforce = s.enforce := by
  simp only [State.settle]; repeat' split
  all_goals simp
@[simp] theorem State.settle_clock (s : State) : (s.settle).clock = s.clock := by
  simp only [State.settle]; repeat' split
  all_goals simp
@[simp] theorem State.settle_departures (s : State) : (s.settle).departures = s.departures := by
  simp only [State.settle]; repeat' split
  all_goals simp
@[simp] theorem State.settle_berths (s : State) : (s.settle).berths = s.berths := by
  simp only [State.settle]; repeat' split
  all_goals simp
@[simp] theorem State.settle_watch (s : State) : (s.settle).watch = s.watch := by
  simp only [State.settle]; repeat' split
  all_goals simp
@[simp] theorem State.settle_link (s : State) : (s.settle).link = s.link := by
  simp only [State.settle]; repeat' split
  all_goals simp
@[simp] theorem State.settle_attention (s : State) : (s.settle).attention = s.attention := by
  simp only [State.settle]; repeat' split
  all_goals simp
@[simp] theorem State.settle_resetLine (s : State) : (s.settle).resetLine = s.resetLine := by
  simp only [State.settle]; repeat' split
  all_goals simp
@[simp] theorem State.settle_freeCount (s : State) : (s.settle).freeCount = s.freeCount := by
  simp only [State.settle]; repeat' split
  all_goals simp
@[simp] theorem State.settle_pending (s : State) : (s.settle).pending = s.pending := by
  simp only [State.settle]; repeat' split
  all_goals simp
@[simp] theorem State.settle_dep (s : State) (k : DepIx) : (s.settle).dep k = s.dep k := by simp only [State.dep, State.settle_departures]
@[simp] theorem State.settle_berth (s : State) (k : Berth) : (s.settle).berth k = s.berth k := by simp only [State.berth, State.settle_berths]

/-! ### engineDone -/

@[simp] theorem State.engineDone_service (s : State) : (s.engineDone).service = s.service := by simp [State.engineDone]
@[simp] theorem State.engineDone_keepValid (s : State) : (s.engineDone).keepValid = s.keepValid := by simp [State.engineDone]
@[simp] theorem State.engineDone_kept (s : State) : (s.engineDone).kept = s.kept := by simp [State.engineDone]
@[simp] theorem State.engineDone_geometry (s : State) : (s.engineDone).geometry = s.geometry := by simp [State.engineDone]
@[simp] theorem State.engineDone_tableCursor (s : State) : (s.engineDone).tableCursor = s.tableCursor := by simp [State.engineDone]
@[simp] theorem State.engineDone_sweepCursor (s : State) : (s.engineDone).sweepCursor = s.sweepCursor := by simp [State.engineDone]
@[simp] theorem State.engineDone_mem (s : State) : (s.engineDone).mem = s.mem := by simp [State.engineDone]
@[simp] theorem State.engineDone_fares (s : State) : (s.engineDone).fares = s.fares := by simp [State.engineDone]
@[simp] theorem State.engineDone_enforce (s : State) : (s.engineDone).enforce = s.enforce := by simp [State.engineDone]
@[simp] theorem State.engineDone_clock (s : State) : (s.engineDone).clock = s.clock := by simp [State.engineDone]
@[simp] theorem State.engineDone_departures (s : State) : (s.engineDone).departures = s.departures := by simp [State.engineDone]
@[simp] theorem State.engineDone_berths (s : State) : (s.engineDone).berths = s.berths := by simp [State.engineDone]
@[simp] theorem State.engineDone_watch (s : State) : (s.engineDone).watch = s.watch := by simp [State.engineDone]
@[simp] theorem State.engineDone_link (s : State) : (s.engineDone).link = s.link := by simp [State.engineDone]
@[simp] theorem State.engineDone_attention (s : State) : (s.engineDone).attention = s.attention := by simp [State.engineDone]
@[simp] theorem State.engineDone_resetLine (s : State) : (s.engineDone).resetLine = s.resetLine := by simp [State.engineDone]
@[simp] theorem State.engineDone_freeCount (s : State) : (s.engineDone).freeCount = s.freeCount := by simp [State.engineDone]
@[simp] theorem State.engineDone_pending (s : State) : (s.engineDone).pending = s.pending := by simp [State.engineDone]
@[simp] theorem State.engineDone_dep (s : State) (k : DepIx) : (s.engineDone).dep k = s.dep k := by simp only [State.dep, State.engineDone_departures]
@[simp] theorem State.engineDone_berth (s : State) (k : Berth) : (s.engineDone).berth k = s.berth k := by simp only [State.berth, State.engineDone_berths]

/-! ### handOver -/

@[simp] theorem State.handOver_service (s : State) (a : Answer) : (s.handOver a).service = s.service := by
  simp only [State.handOver]; repeat' split
  all_goals simp
@[simp] theorem State.handOver_keepValid (s : State) (a : Answer) : (s.handOver a).keepValid = s.keepValid := by
  simp only [State.handOver]; repeat' split
  all_goals simp
@[simp] theorem State.handOver_kept (s : State) (a : Answer) : (s.handOver a).kept = s.kept := by
  simp only [State.handOver]; repeat' split
  all_goals simp
@[simp] theorem State.handOver_geometry (s : State) (a : Answer) : (s.handOver a).geometry = s.geometry := by
  simp only [State.handOver]; repeat' split
  all_goals simp
@[simp] theorem State.handOver_tableCursor (s : State) (a : Answer) : (s.handOver a).tableCursor = s.tableCursor := by
  simp only [State.handOver]; repeat' split
  all_goals simp
@[simp] theorem State.handOver_sweepCursor (s : State) (a : Answer) : (s.handOver a).sweepCursor = s.sweepCursor := by
  simp only [State.handOver]; repeat' split
  all_goals simp
@[simp] theorem State.handOver_mem (s : State) (a : Answer) : (s.handOver a).mem = s.mem := by
  simp only [State.handOver]; repeat' split
  all_goals simp
@[simp] theorem State.handOver_fares (s : State) (a : Answer) : (s.handOver a).fares = s.fares := by
  simp only [State.handOver]; repeat' split
  all_goals simp
@[simp] theorem State.handOver_enforce (s : State) (a : Answer) : (s.handOver a).enforce = s.enforce := by
  simp only [State.handOver]; repeat' split
  all_goals simp
@[simp] theorem State.handOver_clock (s : State) (a : Answer) : (s.handOver a).clock = s.clock := by
  simp only [State.handOver]; repeat' split
  all_goals simp
@[simp] theorem State.handOver_departures (s : State) (a : Answer) : (s.handOver a).departures = s.departures := by
  simp only [State.handOver]; repeat' split
  all_goals simp
@[simp] theorem State.handOver_berths (s : State) (a : Answer) : (s.handOver a).berths = s.berths := by
  simp only [State.handOver]; repeat' split
  all_goals simp
@[simp] theorem State.handOver_watch (s : State) (a : Answer) : (s.handOver a).watch = s.watch := by
  simp only [State.handOver]; repeat' split
  all_goals simp
@[simp] theorem State.handOver_attention (s : State) (a : Answer) : (s.handOver a).attention = s.attention := by
  simp only [State.handOver]; repeat' split
  all_goals simp
@[simp] theorem State.handOver_resetLine (s : State) (a : Answer) : (s.handOver a).resetLine = s.resetLine := by
  simp only [State.handOver]; repeat' split
  all_goals simp
@[simp] theorem State.handOver_freeCount (s : State) (a : Answer) : (s.handOver a).freeCount = s.freeCount := by
  simp only [State.handOver]; repeat' split
  all_goals simp
@[simp] theorem State.handOver_pending (s : State) (a : Answer) : (s.handOver a).pending = s.pending := by
  simp only [State.handOver]; repeat' split
  all_goals simp
@[simp] theorem State.handOver_dep (s : State) (a : Answer) (k : DepIx) : (s.handOver a).dep k = s.dep k := by simp only [State.dep, State.handOver_departures]
@[simp] theorem State.handOver_berth (s : State) (a : Answer) (k : Berth) : (s.handOver a).berth k = s.berth k := by simp only [State.berth, State.handOver_berths]

/-! ### withdrawTap -/

@[simp] theorem State.withdrawTap_service (s : State) (l : Lane) (r : Reason) (n : LaneState) : (s.withdrawTap l r n).service = s.service := by
  simp [State.withdrawTap]
@[simp] theorem State.withdrawTap_keepValid (s : State) (l : Lane) (r : Reason) (n : LaneState) : (s.withdrawTap l r n).keepValid = s.keepValid := by
  simp [State.withdrawTap]
@[simp] theorem State.withdrawTap_kept (s : State) (l : Lane) (r : Reason) (n : LaneState) : (s.withdrawTap l r n).kept = s.kept := by
  simp [State.withdrawTap]
@[simp] theorem State.withdrawTap_geometry (s : State) (l : Lane) (r : Reason) (n : LaneState) : (s.withdrawTap l r n).geometry = s.geometry := by
  simp [State.withdrawTap]
@[simp] theorem State.withdrawTap_tableCursor (s : State) (l : Lane) (r : Reason) (n : LaneState) : (s.withdrawTap l r n).tableCursor = s.tableCursor := by
  simp [State.withdrawTap]
@[simp] theorem State.withdrawTap_sweepCursor (s : State) (l : Lane) (r : Reason) (n : LaneState) : (s.withdrawTap l r n).sweepCursor = s.sweepCursor := by
  simp [State.withdrawTap]
@[simp] theorem State.withdrawTap_mem (s : State) (l : Lane) (r : Reason) (n : LaneState) : (s.withdrawTap l r n).mem = s.mem := by
  simp [State.withdrawTap]
@[simp] theorem State.withdrawTap_fares (s : State) (l : Lane) (r : Reason) (n : LaneState) : (s.withdrawTap l r n).fares = s.fares := by
  simp [State.withdrawTap]
@[simp] theorem State.withdrawTap_enforce (s : State) (l : Lane) (r : Reason) (n : LaneState) : (s.withdrawTap l r n).enforce = s.enforce := by
  simp [State.withdrawTap]
@[simp] theorem State.withdrawTap_clock (s : State) (l : Lane) (r : Reason) (n : LaneState) : (s.withdrawTap l r n).clock = s.clock := by
  simp [State.withdrawTap]
@[simp] theorem State.withdrawTap_departures (s : State) (l : Lane) (r : Reason) (n : LaneState) : (s.withdrawTap l r n).departures = s.departures := by
  simp [State.withdrawTap]
@[simp] theorem State.withdrawTap_berths (s : State) (l : Lane) (r : Reason) (n : LaneState) : (s.withdrawTap l r n).berths = s.berths := by
  simp [State.withdrawTap]
@[simp] theorem State.withdrawTap_engine (s : State) (l : Lane) (r : Reason) (n : LaneState) : (s.withdrawTap l r n).engine = s.engine := by
  simp [State.withdrawTap]
@[simp] theorem State.withdrawTap_watch (s : State) (l : Lane) (r : Reason) (n : LaneState) : (s.withdrawTap l r n).watch = s.watch := by
  simp [State.withdrawTap]
@[simp] theorem State.withdrawTap_link (s : State) (l : Lane) (r : Reason) (n : LaneState) : (s.withdrawTap l r n).link = s.link := by
  simp [State.withdrawTap]
@[simp] theorem State.withdrawTap_resetLine (s : State) (l : Lane) (r : Reason) (n : LaneState) : (s.withdrawTap l r n).resetLine = s.resetLine := by
  simp [State.withdrawTap]
@[simp] theorem State.withdrawTap_freeCount (s : State) (l : Lane) (r : Reason) (n : LaneState) : (s.withdrawTap l r n).freeCount = s.freeCount := by
  simp [State.withdrawTap]
@[simp] theorem State.withdrawTap_pending (s : State) (l : Lane) (r : Reason) (n : LaneState) : (s.withdrawTap l r n).pending = s.pending := by
  simp [State.withdrawTap]
@[simp] theorem State.withdrawTap_dep (s : State) (l : Lane) (r : Reason) (n : LaneState) (k : DepIx) : (s.withdrawTap l r n).dep k = s.dep k := by simp only [State.dep, State.withdrawTap_departures]
@[simp] theorem State.withdrawTap_berth (s : State) (l : Lane) (r : Reason) (n : LaneState) (k : Berth) : (s.withdrawTap l r n).berth k = s.berth k := by simp only [State.berth, State.withdrawTap_berths]

/-! ### endRefused -/

@[simp] theorem State.endRefused_keepValid (s : State) (l : Lane) (r : Reason) (f : FareFields) : (s.endRefused l r f).keepValid = s.keepValid := by
  simp [State.endRefused]
@[simp] theorem State.endRefused_kept (s : State) (l : Lane) (r : Reason) (f : FareFields) : (s.endRefused l r f).kept = s.kept := by
  simp [State.endRefused]
@[simp] theorem State.endRefused_geometry (s : State) (l : Lane) (r : Reason) (f : FareFields) : (s.endRefused l r f).geometry = s.geometry := by
  simp [State.endRefused]
@[simp] theorem State.endRefused_tableCursor (s : State) (l : Lane) (r : Reason) (f : FareFields) : (s.endRefused l r f).tableCursor = s.tableCursor := by
  simp [State.endRefused]
@[simp] theorem State.endRefused_sweepCursor (s : State) (l : Lane) (r : Reason) (f : FareFields) : (s.endRefused l r f).sweepCursor = s.sweepCursor := by
  simp [State.endRefused]
@[simp] theorem State.endRefused_mem (s : State) (l : Lane) (r : Reason) (f : FareFields) : (s.endRefused l r f).mem = s.mem := by
  simp [State.endRefused]
@[simp] theorem State.endRefused_fares (s : State) (l : Lane) (r : Reason) (f : FareFields) : (s.endRefused l r f).fares = s.fares := by
  simp [State.endRefused]
@[simp] theorem State.endRefused_enforce (s : State) (l : Lane) (r : Reason) (f : FareFields) : (s.endRefused l r f).enforce = s.enforce := by
  simp [State.endRefused]
@[simp] theorem State.endRefused_clock (s : State) (l : Lane) (r : Reason) (f : FareFields) : (s.endRefused l r f).clock = s.clock := by
  simp [State.endRefused]
@[simp] theorem State.endRefused_departures (s : State) (l : Lane) (r : Reason) (f : FareFields) : (s.endRefused l r f).departures = s.departures := by
  simp [State.endRefused]
@[simp] theorem State.endRefused_berths (s : State) (l : Lane) (r : Reason) (f : FareFields) : (s.endRefused l r f).berths = s.berths := by
  simp [State.endRefused]
@[simp] theorem State.endRefused_arbiter (s : State) (l : Lane) (r : Reason) (f : FareFields) : (s.endRefused l r f).arbiter = s.arbiter := by
  simp [State.endRefused]
@[simp] theorem State.endRefused_engine (s : State) (l : Lane) (r : Reason) (f : FareFields) : (s.endRefused l r f).engine = s.engine := by
  simp [State.endRefused]
@[simp] theorem State.endRefused_watch (s : State) (l : Lane) (r : Reason) (f : FareFields) : (s.endRefused l r f).watch = s.watch := by
  simp [State.endRefused]
@[simp] theorem State.endRefused_link (s : State) (l : Lane) (r : Reason) (f : FareFields) : (s.endRefused l r f).link = s.link := by
  simp [State.endRefused]
@[simp] theorem State.endRefused_resetLine (s : State) (l : Lane) (r : Reason) (f : FareFields) : (s.endRefused l r f).resetLine = s.resetLine := by
  simp [State.endRefused]
@[simp] theorem State.endRefused_freeCount (s : State) (l : Lane) (r : Reason) (f : FareFields) : (s.endRefused l r f).freeCount = s.freeCount := by
  simp [State.endRefused]
@[simp] theorem State.endRefused_pending (s : State) (l : Lane) (r : Reason) (f : FareFields) : (s.endRefused l r f).pending = s.pending := by
  simp [State.endRefused]
@[simp] theorem State.endRefused_dep (s : State) (l : Lane) (r : Reason) (f : FareFields) (k : DepIx) : (s.endRefused l r f).dep k = s.dep k := by simp only [State.dep, State.endRefused_departures]
@[simp] theorem State.endRefused_berth (s : State) (l : Lane) (r : Reason) (f : FareFields) (k : Berth) : (s.endRefused l r f).berth k = s.berth k := by simp only [State.berth, State.endRefused_berths]

/-! ### acceptOpen -/

@[simp] theorem State.acceptOpen_service (s : State) (d : Decision) (h : Hold) : (s.acceptOpen d h).service = s.service := by
  simp only [State.acceptOpen]; repeat' split
  all_goals simp
@[simp] theorem State.acceptOpen_keepValid (s : State) (d : Decision) (h : Hold) : (s.acceptOpen d h).keepValid = s.keepValid := by
  simp only [State.acceptOpen]; repeat' split
  all_goals simp
@[simp] theorem State.acceptOpen_kept (s : State) (d : Decision) (h : Hold) : (s.acceptOpen d h).kept = s.kept := by
  simp only [State.acceptOpen]; repeat' split
  all_goals simp
@[simp] theorem State.acceptOpen_geometry (s : State) (d : Decision) (h : Hold) : (s.acceptOpen d h).geometry = s.geometry := by
  simp only [State.acceptOpen]; repeat' split
  all_goals simp
@[simp] theorem State.acceptOpen_tableCursor (s : State) (d : Decision) (h : Hold) : (s.acceptOpen d h).tableCursor = s.tableCursor := by
  simp only [State.acceptOpen]; repeat' split
  all_goals simp
@[simp] theorem State.acceptOpen_sweepCursor (s : State) (d : Decision) (h : Hold) : (s.acceptOpen d h).sweepCursor = s.sweepCursor := by
  simp only [State.acceptOpen]; repeat' split
  all_goals simp
@[simp] theorem State.acceptOpen_mem (s : State) (d : Decision) (h : Hold) : (s.acceptOpen d h).mem = s.mem := by
  simp only [State.acceptOpen]; repeat' split
  all_goals simp
@[simp] theorem State.acceptOpen_fares (s : State) (d : Decision) (h : Hold) : (s.acceptOpen d h).fares = s.fares := by
  simp only [State.acceptOpen]; repeat' split
  all_goals simp
@[simp] theorem State.acceptOpen_enforce (s : State) (d : Decision) (h : Hold) : (s.acceptOpen d h).enforce = s.enforce := by
  simp only [State.acceptOpen]; repeat' split
  all_goals simp
@[simp] theorem State.acceptOpen_clock (s : State) (d : Decision) (h : Hold) : (s.acceptOpen d h).clock = s.clock := by
  simp only [State.acceptOpen]; repeat' split
  all_goals simp
@[simp] theorem State.acceptOpen_departures (s : State) (d : Decision) (h : Hold) : (s.acceptOpen d h).departures = s.departures := by
  simp only [State.acceptOpen]; repeat' split
  all_goals simp
@[simp] theorem State.acceptOpen_berths (s : State) (d : Decision) (h : Hold) : (s.acceptOpen d h).berths = s.berths := by
  simp only [State.acceptOpen]; repeat' split
  all_goals simp
@[simp] theorem State.acceptOpen_engine (s : State) (d : Decision) (h : Hold) : (s.acceptOpen d h).engine = s.engine := by
  simp only [State.acceptOpen]; repeat' split
  all_goals simp
@[simp] theorem State.acceptOpen_watch (s : State) (d : Decision) (h : Hold) : (s.acceptOpen d h).watch = s.watch := by
  simp only [State.acceptOpen]; repeat' split
  all_goals simp
@[simp] theorem State.acceptOpen_link (s : State) (d : Decision) (h : Hold) : (s.acceptOpen d h).link = s.link := by
  simp only [State.acceptOpen]; repeat' split
  all_goals simp
@[simp] theorem State.acceptOpen_resetLine (s : State) (d : Decision) (h : Hold) : (s.acceptOpen d h).resetLine = s.resetLine := by
  simp only [State.acceptOpen]; repeat' split
  all_goals simp
@[simp] theorem State.acceptOpen_freeCount (s : State) (d : Decision) (h : Hold) : (s.acceptOpen d h).freeCount = s.freeCount := by
  simp only [State.acceptOpen]; repeat' split
  all_goals simp
@[simp] theorem State.acceptOpen_pending (s : State) (d : Decision) (h : Hold) : (s.acceptOpen d h).pending = s.pending := by
  simp only [State.acceptOpen]; repeat' split
  all_goals simp
@[simp] theorem State.acceptOpen_dep (s : State) (d : Decision) (h : Hold) (k : DepIx) : (s.acceptOpen d h).dep k = s.dep k := by simp only [State.dep, State.acceptOpen_departures]
@[simp] theorem State.acceptOpen_berth (s : State) (d : Decision) (h : Hold) (k : Berth) : (s.acceptOpen d h).berth k = s.berth k := by simp only [State.berth, State.acceptOpen_berths]

end Sys2Proof.Machine
end

