-- ==== Sys2Proof/Laws/Lanes.lean ====
section
/-!
SUPPORT. What the receiving side of a lane port can do with bytes, whole frames and second events: cite these and
unfold nothing.
-/

namespace Sys2Proof.Machine

/-! ### Bytes heard (R126, R196) -/

@[simp] theorem hear_nil (r : Option Reception) : hear r [] = ⟨r, 0, []⟩ := rfl

/-- Between frames only a start byte with its stop bit does anything. -/
theorem hearByte_between (n : Nat) (ms : List GateMessage) (b : RxByte) :
    hearByte ⟨none, n, ms⟩ b = if b = ⟨frameStart, true⟩ then ⟨some ⟨[], 0⟩, n, ms⟩ else ⟨none, n, ms⟩ := by
  cases b with
  | mk value stop => by_cases h : stop = true ∧ value = frameStart <;> simp_all [hearByte, and_comm]

/-- A byte in a frame leaves it incomplete, discards it or completes it. -/
theorem hearByte_inside (r : Reception) (n : Nat) (ms : List GateMessage) (b : RxByte) :
    (b.framed = true ∧ judgeFrame (r.bytes ++ [b.value]) = .incomplete
      ∧ hearByte ⟨some r, n, ms⟩ b = ⟨some ⟨r.bytes ++ [b.value], r.seconds⟩, n, ms⟩)
    ∨ ((b.framed = false ∨ judgeFrame (r.bytes ++ [b.value]) = .discarded)
      ∧ hearByte ⟨some r, n, ms⟩ b = ⟨none, n + 1, ms⟩)
    ∨ (∃ m, b.framed = true ∧ judgeFrame (r.bytes ++ [b.value]) = .complete m
      ∧ hearByte ⟨some r, n, ms⟩ b = ⟨none, n, ms ++ [m]⟩) := by
  cases hf : b.framed with
  | false => simp [hearByte, hf]
  | true => cases hj : judgeFrame (r.bytes ++ [b.value]) <;> simp [hearByte, hf, hj]

/-- What was discarded and completed before stands, whatever the next byte is. -/
theorem hearByte_counts (r : Option Reception) (n : Nat) (ms : List GateMessage) (b : RxByte) :
    hearByte ⟨r, n, ms⟩ b =
      ⟨(hearByte ⟨r, 0, []⟩ b).reception, n + (hearByte ⟨r, 0, []⟩ b).faults,
        ms ++ (hearByte ⟨r, 0, []⟩ b).messages⟩ := by
  cases r with
  | none => rw [hearByte_between, hearByte_between]; split <;> simp
  | some r =>
    cases hf : b.framed with
    | false => simp [hearByte, hf]
    | true => cases hj : judgeFrame (r.bytes ++ [b.value]) <;> simp [hearByte, hf, hj]

/-- What was discarded and completed before stands, whatever bytes follow. -/
theorem foldl_hearByte (r : Option Reception) (n : Nat) (ms : List GateMessage) (bytes : List RxByte) :
    bytes.foldl hearByte ⟨r, n, ms⟩ =
      ⟨(hear r bytes).reception, n + (hear r bytes).faults, ms ++ (hear r bytes).messages⟩ := by
  induction bytes generalizing r n ms with
  | nil => simp
  | cons b rest ih =>
    simp only [hear, List.foldl_cons]
    rw [hearByte_counts r n ms b, ih, ih (hearByte ⟨r, 0, []⟩ b).reception]
    simp [Nat.add_assoc]

/-- Bytes heard in two runs: the second goes on with the frame that the first left in reception. -/
theorem hear_append (r : Option Reception) (a b : List RxByte) :
    hear r (a ++ b) =
      ⟨(hear (hear r a).reception b).reception, (hear r a).faults + (hear (hear r a).reception b).faults,
        (hear r a).messages ++ (hear (hear r a).reception b).messages⟩ := by
  rw [hear, List.foldl_append]
  exact foldl_hearByte (hear r a).reception (hear r a).faults (hear r a).messages b

/-! ### A frame that has ended, whole or discarded (R126) -/

@[simp] theorem State.endFrame_lane (s : State) (l k : Lane) :
    (s.endFrame l).lane k = if k = l then { s.lane l with reception := none } else s.lane k := by
  by_cases h : k = l
  · subst h; simp [State.endFrame]
  · simp [State.endFrame, h]

@[simp] theorem State.endFrame_service (s : State) (l : Lane) : (s.endFrame l).service = s.service := rfl
@[simp] theorem State.endFrame_mem (s : State) (l : Lane) : (s.endFrame l).mem = s.mem := rfl
@[simp] theorem State.endFrame_geometry (s : State) (l : Lane) : (s.endFrame l).geometry = s.geometry := rfl
@[simp] theorem State.endFrame_clock (s : State) (l : Lane) : (s.endFrame l).clock = s.clock := rfl
@[simp] theorem State.endFrame_departures (s : State) (l : Lane) : (s.endFrame l).departures = s.departures := rfl
@[simp] theorem State.endFrame_berths (s : State) (l : Lane) : (s.endFrame l).berths = s.berths := rfl
@[simp] theorem State.endFrame_arbiter (s : State) (l : Lane) : (s.endFrame l).arbiter = s.arbiter := rfl
@[simp] theorem State.endFrame_engine (s : State) (l : Lane) : (s.endFrame l).engine = s.engine := rfl
@[simp] theorem State.endFrame_link (s : State) (l : Lane) : (s.endFrame l).link = s.link := rfl
@[simp] theorem State.endFrame_attention (s : State) (l : Lane) : (s.endFrame l).attention = s.attention := rfl

/-- With no frame in reception none can end. -/
theorem State.endFrame_of_none (s : State) (l : Lane) (h : (s.lane l).reception = none) : s.endFrame l = s := by
  have same : ({ s.lane l with reception := none } : LanePort) = s.lane l := by rw [← h]
  rw [State.endFrame, same]
  simp [State.setLane, State.lane]

/-- A whole frame is taken once the frame in reception has ended, or cannot arrive behind another's beginning. -/
theorem State.takeFrame_cases (s : State) (l : Lane) (m : GateMessage) (take : State → State) :
    ((s.lane l).canComplete m = true ∧ s.takeFrame l m take = take (s.endFrame l))
    ∨ ((s.lane l).canComplete m = false ∧ s.takeFrame l m take = s) := by
  cases h : (s.lane l).canComplete m <;> simp [State.takeFrame, h]

/-! ### LANE FAULT and second events (R112, R113, R126) -/

/-- Occurrences of LANE FAULT change the attention unit alone. -/
theorem State.raiseLaneFaults_eq (s : State) (l : Lane) (n : Nat) :
    s.raiseLaneFaults l n =
      { s with attention := (fun a : Attention => a.occur .laneFault (numberSubject l.val))^[n] s.attention } := by
  induction n generalizing s with
  | zero => rfl
  | succ n ih => rw [State.raiseLaneFaults, ih]; rfl

/-- A second event discards the frame in reception, or counts for it. -/
theorem State.tickFrame_cases (s : State) (l : Lane) :
    ((s.lane l).timesOut = true ∧ s.tickFrame l = (s.endFrame l).raise .laneFault (numberSubject l.val))
    ∨ ((s.lane l).timesOut = false
      ∧ s.tickFrame l = s.setLane l { s.lane l with
          reception := (s.lane l).reception.map fun r => ⟨r.bytes, r.seconds + 1⟩ }) := by
  cases h : (s.lane l).timesOut <;> simp [State.tickFrame, h]

/-- A second event lowers the timer of an AWAITING lane, expiring it at 0, and touches no other lane's. -/
theorem State.tickTimer_cases (s : State) (l : Lane) :
    ((s.lane l).state ≠ .awaiting ∧ s.tickTimer l = s)
    ∨ ((s.lane l).state = .awaiting ∧ (s.lane l).secondsLeft ≤ 1
      ∧ s.tickTimer l = (s.setLane l { s.lane l with secondsLeft := (s.lane l).secondsLeft - 1 }).expire l)
    ∨ ((s.lane l).state = .awaiting ∧ 1 < (s.lane l).secondsLeft
      ∧ s.tickTimer l = s.setLane l { s.lane l with secondsLeft := (s.lane l).secondsLeft - 1 }) := by
  cases h : (s.lane l).state <;> simp [State.tickTimer, h]
  by_cases last : (s.lane l).secondsLeft ≤ 1
  · simp [last]
  · simp [last]; omega

end Sys2Proof.Machine
end

