-- ==== Sys2Proof/Laws/Memory.lean ====
section
/-!
SUPPORT. The laws of the record memory: a byte read after a write, the canonical form kept by every
operation, equal readings of canonical memories make equal data, and a slot read after a slot write.
-/

namespace Sys2Proof.Machine

open Host

/-! ### One byte -/

/-- A byte written reads back, and every other byte reads as before. -/
theorem Memory.read_write (m : List Cell) (a b : Nat) (v : Byte) (h : Memory.wf m = true) :
    Memory.read (Memory.write m a v) b = if b = a then v else Memory.read m b := by
  induction m with
  | nil =>
    by_cases hv : v = Memory.unlisted a
    · by_cases hb : b = a <;> simp [Memory.write, Memory.read, hv, hb]
    · by_cases hb : b = a
      · simp [Memory.write, Memory.read, hv, hb]
      · simp [Memory.write, Memory.read, hv, hb, Ne.symm hb]
  | cons c m ih =>
    obtain ⟨k, x⟩ := c
    simp only [Memory.wf, Bool.and_eq_true, List.all_eq_true, decide_eq_true_eq] at h
    obtain ⟨⟨hx, hk⟩, hm⟩ := h
    have below : ∀ j, j ≤ k → (∀ c ∈ m, j < c.1) := fun j hj c hc => lt_of_le_of_lt hj (hk c hc)
    have absent : ∀ (m' : List Cell) j, (∀ c ∈ m', j < c.1) → Memory.read m' j = Memory.unlisted j := by
      intro m' j hj
      induction m' with
      | nil => rfl
      | cons c m' ih' =>
        have := hj c (by simp)
        simp [Memory.read, Nat.ne_of_gt this, ih' fun d hd => hj d (by simp [hd])]
    rcases lt_trichotomy a k with h1 | h1 | h1
    · simp only [Memory.write, h1, if_true]
      by_cases hv : v = Memory.unlisted a
      · simp only [hv, if_true]
        split
        · next hb => subst hb; simp [Memory.read, Nat.ne_of_gt h1, absent m b (below b (le_of_lt h1))]
        · rfl
      · simp only [hv, if_false]
        by_cases hb : b = a
        · simp [Memory.read, hb]
        · simp [Memory.read, hb, Ne.symm hb]
    · subst h1
      simp only [Memory.write, lt_irrefl, if_false, if_true]
      by_cases hv : v = Memory.unlisted a
      · simp only [hv, if_true]
        split
        · next hb => subst hb; exact absent m b (below b le_rfl)
        · next hb => simp [Memory.read, Ne.symm hb]
      · simp only [hv, if_false]
        by_cases hb : b = a
        · simp [Memory.read, hb]
        · simp [Memory.read, hb, Ne.symm hb]
    · have h2 : ¬ a < k := by omega
      have h3 : ¬ a = k := by omega
      simp only [Memory.write, h2, h3, if_false, Memory.read]
      by_cases hb : k = b
      · have hba : b ≠ a := by omega
        simp [hb, hba]
      · simp only [hb, if_false, ih hm]

/-- The addresses a write leaves listed. -/
theorem Memory.mem_write {m : List Cell} {a : Nat} {v : Byte} {c : Cell} (h : c ∈ Memory.write m a v) :
    c ∈ m ∨ c = (a, v) := by
  induction m with
  | nil => by_cases hv : v = Memory.unlisted a <;> simp_all [Memory.write]
  | cons d m ih =>
    obtain ⟨k, x⟩ := d
    simp only [Memory.write] at h
    split_ifs at h <;> simp_all [List.mem_cons] <;> tauto

/-- A byte write keeps the canonical form. -/
theorem Memory.write_wf (m : List Cell) (a : Nat) (v : Byte) (h : Memory.wf m = true) :
    Memory.wf (Memory.write m a v) = true := by
  induction m with
  | nil => by_cases hv : v = Memory.unlisted a <;> simp [Memory.write, Memory.wf, hv]
  | cons c m ih =>
    obtain ⟨k, x⟩ := c
    have h0 := h
    simp only [Memory.wf, Bool.and_eq_true, List.all_eq_true, decide_eq_true_eq] at h
    obtain ⟨⟨hx, hk⟩, hm⟩ := h
    simp only [Memory.write]
    split_ifs with h1 h2 h3 h4
    · exact h0
    · simp only [Memory.wf, Bool.and_eq_true, List.all_eq_true, decide_eq_true_eq, List.mem_cons]
      exact ⟨⟨h2, fun c hc => hc.elim (fun e => e ▸ h1) fun hc => h1.trans (hk c hc)⟩, ⟨hx, hk⟩, hm⟩
    · exact hm
    · simp only [Memory.wf, Bool.and_eq_true, List.all_eq_true, decide_eq_true_eq]
      exact ⟨⟨h4, fun c hc => h3 ▸ hk c hc⟩, hm⟩
    · simp only [Memory.wf, Bool.and_eq_true, List.all_eq_true, decide_eq_true_eq]
      refine ⟨⟨hx, fun c hc => ?_⟩, ih hm⟩
      rcases Memory.mem_write hc with hc | hc
      · exact hk c hc
      · subst hc; simp only; omega

/-- The reset memory, which lists nothing, has the canonical form. -/
@[simp] theorem Memory.nil_wf : Memory.wf [] = true := rfl

/-- An address below every listed one reads as an unlisted byte. -/
theorem Memory.read_below (m : List Cell) (a : Nat) (h : ∀ c ∈ m, a < c.1) :
    Memory.read m a = Memory.unlisted a := by
  induction m with
  | nil => rfl
  | cons c m ih =>
    have := h c (by simp)
    simp [Memory.read, Nat.ne_of_gt this, ih fun d hd => h d (by simp [hd])]

/-- Canonical memories that read the same at every address are equal. -/
theorem Memory.wf_ext (m n : List Cell) (hm : Memory.wf m = true) (hn : Memory.wf n = true)
    (h : ∀ a, Memory.read m a = Memory.read n a) : m = n := by
  induction m generalizing n with
  | nil =>
    cases n with
    | nil => rfl
    | cons c n =>
      simp only [Memory.wf, Bool.and_eq_true, List.all_eq_true, decide_eq_true_eq] at hn
      have := h c.1
      simp [Memory.read] at this
      exact absurd this.symm hn.1.1
  | cons c m ih =>
    obtain ⟨a, x⟩ := c
    simp only [Memory.wf, Bool.and_eq_true, List.all_eq_true, decide_eq_true_eq] at hm
    cases n with
    | nil =>
      have := h a
      simp [Memory.read] at this
      exact absurd this hm.1.1
    | cons d n =>
      obtain ⟨b, y⟩ := d
      simp only [Memory.wf, Bool.and_eq_true, List.all_eq_true, decide_eq_true_eq] at hn
      have hab : a = b := by
        rcases lt_trichotomy a b with hlt | heq | hlt
        · have := h a
          rw [Memory.read_below ((b, y) :: n) a (by
            intro c hc
            rcases List.mem_cons.1 hc with rfl | hc
            · exact hlt
            · exact hlt.trans (hn.1.2 c hc))] at this
          simp [Memory.read] at this
          exact absurd this hm.1.1
        · exact heq
        · have := h b
          rw [Memory.read_below ((a, x) :: m) b (by
            intro c hc
            rcases List.mem_cons.1 hc with rfl | hc
            · exact hlt
            · exact hlt.trans (hm.1.2 c hc))] at this
          simp [Memory.read] at this
          exact absurd this.symm hn.1.1
      subst hab
      have hxy : x = y := by simpa [Memory.read] using h a
      subst hxy
      refine congrArg _ (ih n hm.2 hn.2 fun e => ?_)
      by_cases he : e = a
      · subst he
        rw [Memory.read_below m e hm.1.2, Memory.read_below n e hn.1.2]
      · simpa [Memory.read, Ne.symm he] using h e

/-! ### Words -/

/-- A word write keeps the canonical form. -/
theorem Memory.writeWord_wf (m : List Cell) (a : Nat) (w : Word) (h : Memory.wf m = true) :
    Memory.wf (Memory.writeWord m a w) = true := Memory.write_wf _ _ _ (Memory.write_wf _ _ _ h)

/-- A byte after a word write: the two bytes of the word, most significant first, and the others as
before. -/
theorem Memory.read_writeWord (m : List Cell) (a b : Nat) (w : Word) (h : Memory.wf m = true) :
    Memory.read (Memory.writeWord m a w) b =
      if b = a + 1 then w.extractLsb' 0 8 else if b = a then w.extractLsb' 8 8 else Memory.read m b := by
  simp only [Memory.writeWord, Memory.read_write _ _ _ _ (Memory.write_wf _ _ _ h), Memory.read_write _ _ _ _ h]

/-- Word writes one after the other keep the canonical form. -/
theorem Memory.writeWords_wf (m : List Cell) (a : Nat) (ws : List Word) (h : Memory.wf m = true) :
    Memory.wf (Memory.writeWords m a ws) = true := by
  induction ws generalizing m a with
  | nil => exact h
  | cons w ws ih => exact ih _ _ (Memory.writeWord_wf _ _ _ h)

/-- A byte outside the words written reads as before. -/
theorem Memory.read_writeWords_outside (m : List Cell) (a b : Nat) (ws : List Word)
    (h : Memory.wf m = true) (hb : b < a ∨ a + 2 * ws.length ≤ b) :
    Memory.read (Memory.writeWords m a ws) b = Memory.read m b := by
  induction ws generalizing m a with
  | nil => rfl
  | cons w ws ih =>
    simp only [List.length_cons] at hb
    rw [Memory.writeWords, ih _ _ (Memory.writeWord_wf _ _ _ h) (by omega), Memory.read_writeWord _ _ _ _ h,
      if_neg (by omega), if_neg (by omega)]

/-- Two halves make the word. -/
theorem word_halves (w : Word) : (w.extractLsb' 8 8 ++ w.extractLsb' 0 8 : BitVec 16) = w := by
  ext i hi
  simp only [BitVec.getElem_append, BitVec.getElem_extractLsb']
  split
  · rw [Nat.zero_add, BitVec.getLsbD_eq_getElem]
  · rw [show 8 + (i - 8) = i by omega, BitVec.getLsbD_eq_getElem]

/-- A word written among others reads back. -/
theorem Memory.readWord_writeWords (m : List Cell) (a i : Nat) (ws : List Word)
    (h : Memory.wf m = true) (hi : i < ws.length) :
    Memory.readWord (Memory.writeWords m a ws) (a + 2 * i) = ws[i] := by
  induction ws generalizing m a i with
  | nil => simp at hi
  | cons w ws ih =>
    cases i with
    | zero =>
      simp only [Memory.readWord, Memory.writeWords, Nat.mul_zero, Nat.add_zero, List.getElem_cons_zero]
      rw [Memory.read_writeWords_outside _ _ _ _ (Memory.writeWord_wf _ _ _ h) (by omega),
        Memory.read_writeWords_outside _ _ _ _ (Memory.writeWord_wf _ _ _ h) (by omega),
        Memory.read_writeWord _ _ _ _ h, Memory.read_writeWord _ _ _ _ h]
      simp [word_halves]
    | succ i =>
      simp only [List.length_cons] at hi
      have := ih (Memory.writeWord m a w) (a + 2) i (Memory.writeWord_wf _ _ _ h) (by omega)
      simp only [Memory.writeWords, List.getElem_cons_succ]
      rw [← this]
      congr 1
      omega

/-! ### Slots (R1 to R4) -/

/-- A slot put keeps the canonical form. -/
theorem Memory.putSlot_wf (m : List Cell) (s : Nat) (v : Vector Word 16) (h : Memory.wf m = true) :
    Memory.wf (Memory.putSlot m s v) = true := Memory.writeWords_wf _ _ _ h

/-- A slot write keeps the canonical form. -/
theorem Memory.writeSlot_wf (m : List Cell) (s : Nat) (v : Vector Word 15) (h : Memory.wf m = true) :
    Memory.wf (Memory.writeSlot m s v) = true := Memory.putSlot_wf _ _ _ h

/-- Word i of a slot. -/
theorem Memory.readSlot_getElem (m : List Cell) (s i : Nat) (hi : i < 16) :
    (Memory.readSlot m s)[i] = Memory.readWord m (32 * s + 2 * i) := by
  simp only [Memory.readSlot]
  interval_cases i <;> rfl

/-- A slot put reads back. -/
theorem Memory.readSlot_putSlot (m : List Cell) (s : Nat) (v : Vector Word 16) (h : Memory.wf m = true) :
    Memory.readSlot (Memory.putSlot m s v) s = v := by
  ext i hi
  rw [Memory.readSlot_getElem _ _ _ hi, Memory.putSlot,
    Memory.readWord_writeWords _ _ _ _ h (by simpa using hi), Vector.getElem_toList]

/-- Every other slot reads as before a slot put. -/
theorem Memory.readSlot_putSlot_other (m : List Cell) (s t : Nat) (v : Vector Word 16)
    (h : Memory.wf m = true) (hst : t ≠ s) : Memory.readSlot (Memory.putSlot m s v) t = Memory.readSlot m t := by
  have hl : v.toList.length = 16 := by simp
  ext i hi
  rw [Memory.readSlot_getElem _ _ _ hi, Memory.readSlot_getElem _ _ _ hi, Memory.readWord, Memory.readWord,
    Memory.putSlot, Memory.read_writeWords_outside _ _ _ _ h (by omega),
    Memory.read_writeWords_outside _ _ _ _ h (by omega)]

/-- A slot write reads back with its check word (R1, R3). -/
theorem Memory.readSlot_writeSlot (m : List Cell) (s : Nat) (v : Vector Word 15) (h : Memory.wf m = true) :
    Memory.readSlot (Memory.writeSlot m s v) s = withCheck v := Memory.readSlot_putSlot _ _ _ h

/-- Every other slot reads as before a slot write. -/
theorem Memory.readSlot_writeSlot_other (m : List Cell) (s t : Nat) (v : Vector Word 15)
    (h : Memory.wf m = true) (hst : t ≠ s) : Memory.readSlot (Memory.writeSlot m s v) t = Memory.readSlot m t :=
  Memory.readSlot_putSlot_other _ _ _ _ h hst

/-- The verdict on a slot just written is that on the words written. -/
theorem Memory.verdict_writeSlot (m : List Cell) (s : Nat) (v : Vector Word 15) (h : Memory.wf m = true) :
    Memory.verdict (Memory.writeSlot m s v) s = slotVerdict (withCheck v) := by
  rw [Memory.verdict, Memory.readSlot_writeSlot _ _ _ h]

/-- The verdict on every other slot is as before. -/
theorem Memory.verdict_writeSlot_other (m : List Cell) (s t : Nat) (v : Vector Word 15)
    (h : Memory.wf m = true) (hst : t ≠ s) : Memory.verdict (Memory.writeSlot m s v) t = Memory.verdict m t := by
  rw [Memory.verdict, Memory.verdict, Memory.readSlot_writeSlot_other _ _ _ _ h hst]

/-- A slot put into a memory stays a canonical reading of its bytes: an address outside the slot reads as
before. -/
theorem Memory.read_putSlot_outside (m : List Cell) (s a : Nat) (v : Vector Word 16)
    (h : Memory.wf m = true) (ha : a < 32 * s ∨ 32 * s + 32 ≤ a) :
    Memory.read (Memory.putSlot m s v) a = Memory.read m a := by
  have hl : v.toList.length = 16 := by simp
  exact Memory.read_writeWords_outside _ _ _ _ h (by omega)

/-! ### Clearing (R17) -/

/-- Clearing keeps the canonical form. -/
theorem Memory.clearSlots_wf (m : List Cell) (lo n : Nat) (h : Memory.wf m = true) :
    Memory.wf (Memory.clearSlots m lo n) = true := by
  induction m with
  | nil => rfl
  | cons c m ih =>
    simp only [Memory.wf, Bool.and_eq_true, List.all_eq_true, decide_eq_true_eq] at h
    rw [Memory.clearSlots, List.filter_cons]
    split
    · simp only [Memory.wf, Bool.and_eq_true, List.all_eq_true, decide_eq_true_eq]
      exact ⟨⟨h.1.1, fun d hd => h.1.2 d (List.mem_of_mem_filter hd)⟩, ih h.2⟩
    · exact ih h.2

/-- A byte of a cleared slot reads as an unlisted byte, and every other byte as before. -/
theorem Memory.read_clearSlots (m : List Cell) (lo n a : Nat) :
    Memory.read (Memory.clearSlots m lo n) a =
      if 32 * lo ≤ a ∧ a < 32 * (lo + n) then Memory.unlisted a else Memory.read m a := by
  induction m with
  | nil => simp [Memory.clearSlots, Memory.read]
  | cons c m ih =>
    obtain ⟨k, x⟩ := c
    rw [Memory.clearSlots, List.filter_cons]
    split
    · rename_i hk
      simp only [Memory.read]
      by_cases hka : k = a
      · subst hka
        have : ¬(32 * lo ≤ k ∧ k < 32 * (lo + n)) := by
          intro hc
          simp [hc.1, hc.2] at hk
        simp [this]
      · simp only [hka, if_false]
        exact ih
    · rename_i hk
      replace hk : 32 * lo ≤ k ∧ k < 32 * (lo + n) := by
        by_contra hn
        apply hk
        simp only [Bool.not_eq_true', Bool.and_eq_false_iff, decide_eq_false_iff_not]
        omega
      have h2 := ih
      rw [Memory.clearSlots] at h2
      rw [h2]
      by_cases hka : k = a
      · subst hka; rw [if_pos hk, if_pos hk]
      · simp [Memory.read, hka]

/-- The bytes of a word written among others, most significant first. -/
theorem Memory.read_writeWords_inside (m : List Cell) (a i : Nat) (ws : List Word)
    (h : Memory.wf m = true) (hi : i < ws.length) :
    Memory.read (Memory.writeWords m a ws) (a + 2 * i) = (ws[i]).extractLsb' 8 8
    ∧ Memory.read (Memory.writeWords m a ws) (a + 2 * i + 1) = (ws[i]).extractLsb' 0 8 := by
  induction ws generalizing m a i with
  | nil => simp at hi
  | cons w ws ih =>
    cases i with
    | zero =>
      simp only [Memory.writeWords, Nat.mul_zero, Nat.add_zero, List.getElem_cons_zero]
      rw [Memory.read_writeWords_outside _ _ _ _ (Memory.writeWord_wf _ _ _ h) (by omega),
        Memory.read_writeWords_outside _ _ _ _ (Memory.writeWord_wf _ _ _ h) (by omega),
        Memory.read_writeWord _ _ _ _ h, Memory.read_writeWord _ _ _ _ h]
      simp
    | succ i =>
      simp only [List.length_cons] at hi
      have := ih (Memory.writeWord m a w) (a + 2) i (Memory.writeWord_wf _ _ _ h) (by omega)
      simp only [Memory.writeWords, List.getElem_cons_succ]
      rw [show a + 2 * (i + 1) = a + 2 + 2 * i by omega]
      exact this

/-- The FREE pattern written to a slot leaves each of its bytes as an unlisted byte reads. -/
theorem Memory.read_free_slot (m : List Cell) (s a : Nat) (h : Memory.wf m = true)
    (ha : 32 * s ≤ a ∧ a < 32 * s + 32) :
    Memory.read (Memory.writeSlot m s freeContent) a = Memory.unlisted a := by
  have hws : (withCheck freeContent).toList = List.replicate 15 0 ++ [65535#16] := by decide
  have key := Memory.read_writeWords_inside m (32 * s) ((a - 32 * s) / 2) (withCheck freeContent).toList h
    (by simp; omega)
  have word : ∀ i (hi : i < 16), ((withCheck freeContent).toList[i]'(by simpa using hi)) =
      if i < 15 then 0 else 65535#16 := by
    intro i hi
    simp only [hws]
    interval_cases i <;> rfl
  rw [word _ (by omega)] at key
  have mod : a % 32 = a - 32 * s := by omega
  unfold Memory.unlisted
  rcases Nat.even_or_odd' (a - 32 * s) with ⟨i, hi | hi⟩
  · have e : a = 32 * s + 2 * ((a - 32 * s) / 2) := by omega
    have r := key.1
    rw [← e] at r
    rw [Memory.writeSlot, Memory.putSlot, r, mod]
    by_cases hc : a - 32 * s < 30
    · rw [if_pos hc, if_pos (by omega)]; rfl
    · rw [if_neg hc, if_neg (by omega)]; rfl
  · have e : a = 32 * s + 2 * ((a - 32 * s) / 2) + 1 := by omega
    have r := key.2
    rw [← e] at r
    rw [Memory.writeSlot, Memory.putSlot, r, mod]
    by_cases hc : a - 32 * s < 30
    · rw [if_pos hc, if_pos (by omega)]; rfl
    · rw [if_neg hc, if_neg (by omega)]; rfl

/-- Clearing is one write of the FREE pattern after the other, in increasing slot order (R17). -/
theorem clearSlots_eq_writes (m : List Cell) (lo n : Nat) (h : Memory.wf m = true) :
    Memory.clearSlots m lo n = (List.range' lo n).foldl (fun m s => Memory.writeSlot m s freeContent) m := by
  induction n generalizing m lo with
  | zero =>
    simp only [List.range'_zero, List.foldl_nil]
    refine Memory.wf_ext _ _ (Memory.clearSlots_wf _ _ _ h) h fun a => ?_
    rw [Memory.read_clearSlots, if_neg (by omega)]
  | succ n ih =>
    have hw := Memory.writeSlot_wf m lo freeContent h
    rw [List.range'_succ, List.foldl_cons, ← ih _ _ hw]
    refine Memory.wf_ext _ _ (Memory.clearSlots_wf _ _ _ h) (Memory.clearSlots_wf _ _ _ hw) fun a => ?_
    rw [Memory.read_clearSlots, Memory.read_clearSlots]
    by_cases h1 : 32 * lo ≤ a ∧ a < 32 * lo + 32
    · rw [if_pos (by omega), if_neg (by omega), Memory.read_free_slot _ _ _ h h1]
    · by_cases h2 : 32 * (lo + 1) ≤ a ∧ a < 32 * (lo + 1 + n)
      · rw [if_pos (by omega), if_pos h2]
      · rw [if_neg (by omega), if_neg h2, Memory.writeSlot,
          Memory.read_putSlot_outside _ _ _ _ h (by omega)]

/-- A cleared slot is FREE (R2, R17). -/
theorem Memory.verdict_unlisted (m : List Cell) (s : Nat)
    (h : ∀ a, 32 * s ≤ a → a < 32 * s + 32 → Memory.read m a = Memory.unlisted a) :
    Memory.verdict m s = .free := by
  have shift : ∀ i, Memory.unlisted (32 * s + i) = Memory.unlisted (32 * 0 + i) := by
    intro i
    unfold Memory.unlisted
    rw [show (32 * s + i) % 32 = (32 * 0 + i) % 32 by omega]
  have words : Memory.readSlot m s = Memory.readSlot [] 0 := by
    refine Vector.ext fun i hi => ?_
    rw [Memory.readSlot_getElem _ _ _ hi, Memory.readSlot_getElem _ _ _ hi, Memory.readWord, Memory.readWord,
      h _ (by omega) (by omega), h _ (by omega) (by omega), shift, Nat.add_assoc, shift]
    rfl
  rw [Memory.verdict, words]
  decide

end Sys2Proof.Machine
end

