-- ==== Sys2Proof/Laws/Operands.lean ====
section
/-!
SUPPORT. Operand words read back: an index, an optional departure, a card number and a signed number are
found again in the words that 11.2 lays out for them.
-/

namespace Sys2Proof.Machine

/-- A number below 65,536 is read back from its word. -/
@[simp] theorem word_toNat (n : Nat) : (word n).toNat = n % 65536 := by simp [word]

/-- An index below `n` is read back from its word. -/
theorem indexBelow_word {n : Nat} (hn : n ≤ 65536) (i : Fin n) : indexBelow n (word i.val) = some i := by
  have h : (word i.val).toNat = i.val := by rw [word_toNat, Nat.mod_eq_of_lt (by omega)]
  simp [indexBelow, h]

/-- No index is read from a word at or above `n`. -/
theorem indexBelow_none {n : Nat} {w : Word} (h : n ≤ w.toNat) : indexBelow n w = none := by
  simp [indexBelow, Nat.not_lt.2 h]

/-- A follow-on operand is read back from its word (5.8). -/
theorem optionalDeparture_indexWord (f : Option DepIx) : optionalDeparture (indexWord f) = some f := by
  cases f with
  | none => simp [optionalDeparture, indexWord]
  | some i =>
    have h : word i.val ≠ noneWord := by
      intro e
      have := congrArg BitVec.toNat e
      rw [word_toNat, Nat.mod_eq_of_lt (by omega)] at this
      have : (noneWord).toNat = 65535 := rfl
      omega
    simp [optionalDeparture, indexWord, h, indexBelow_word]

/-- No follow-on operand is read from a word from 16 to 65,534. -/
theorem optionalDeparture_none {w : Word} (h : 16 ≤ w.toNat) (hn : w ≠ noneWord) : optionalDeparture w = none := by
  simp [optionalDeparture, hn, indexBelow_none h]

/-- A card number is read back from its three words. -/
theorem ofCardWords_cardWords (card : CardNumber) (rest : List Word) :
    ofCardWords (arg (cardWords card ++ rest) 0) (arg (cardWords card ++ rest) 1) (arg (cardWords card ++ rest) 2)
      = card := by
  simp only [cardWords, arg, List.cons_append, List.getD_cons_zero, List.getD_cons_succ, ofCardWords]
  apply BitVec.eq_of_getLsbD_eq
  intro i hi
  simp only [BitVec.getLsbD_append, BitVec.getLsbD_extractLsb', Nat.zero_add]
  by_cases h1 : i < 16
  · simp [h1]
  · by_cases h2 : i < 32
    · have : i - 16 < 16 := by omega
      have e : 16 + (i - 16) = i := by omega
      simp [h1, this, e]
    · have h3 : ¬ i - 16 < 16 := by omega
      have h4 : i - 16 - 16 < 16 := by omega
      have e : 32 + (i - 16 - 16) = i := by omega
      simp [h1, h3, h4, e]

/-- A signed number of two words is read back from them. -/
theorem ofTwoWordsSigned_twoWordsSigned (i : Int) (lo : -2147483648 ≤ i) (hi : i ≤ 2147483647) :
    ofTwoWordsSigned ((BitVec.ofInt 32 i).extractLsb' 16 16) ((BitVec.ofInt 32 i).extractLsb' 0 16) = i := by
  have h : ((BitVec.ofInt 32 i).extractLsb' 16 16 ++ (BitVec.ofInt 32 i).extractLsb' 0 16 : BitVec 32)
      = BitVec.ofInt 32 i := by
    apply BitVec.eq_of_getLsbD_eq
    intro j hj
    simp only [BitVec.getLsbD_append, BitVec.getLsbD_extractLsb', Nat.zero_add]
    by_cases h1 : j < 16
    · simp [h1]
    · have h2 : j - 16 < 16 := by omega
      have e : 16 + (j - 16) = j := by omega
      simp [h1, h2, e]
  unfold ofTwoWordsSigned
  rw [h, BitVec.toInt_ofInt]
  exact Int.bmod_eq_of_le_mul_two (by norm_num; omega) (by norm_num; omega)

end Sys2Proof.Machine
end

