-- ==== Sys2Proof/Laws/Ops.lean ====
section
/-!
SUPPORT. Once for each shared operation, all that it can do: cite these and unfold nothing.
-/

namespace Sys2Proof.Machine

/-! ### Attention (R173, R174) -/

/-- The line is judged asserted exactly when some cause is pending and not masked. -/
theorem lineAsserted_iff (causes : Vector CauseRecord 11) (mask : BitVec 11) :
    lineAsserted causes mask = true ↔
      ∃ n : Fin 11, (causes[n]).pending = true ∧ mask.getLsbD n.val = false := by
  simp [lineAsserted, List.any_eq_true]

/-- Judging the line changes the line alone. -/
@[simp] theorem Attention.judged_causes (a : Attention) : a.judged.causes = a.causes := rfl
@[simp] theorem Attention.judged_mask (a : Attention) : a.judged.mask = a.mask := rfl
@[simp] theorem Attention.judged_line (a : Attention) : a.judged.line = lineAsserted a.causes a.mask := rfl
@[simp] theorem Attention.occur_mask (a : Attention) (c : Cause) (x : Subject) : (a.occur c x).mask = a.mask := rfl
@[simp] theorem Attention.occur_line (a : Attention) (c : Cause) (x : Subject) :
    (a.occur c x).line = lineAsserted (a.occur c x).causes a.mask := rfl

/-- One occurrence changes its own cause alone: pending, one more, the subject carried (R173). -/
theorem Attention.occur_cause (a : Attention) (c : Cause) (x : Subject) (n : Fin 11) :
    (a.occur c x).causes[n] =
      if n = c.index then ⟨true, min ((a.causes[c.index]).count + 1) 255, x⟩ else a.causes[n] := by
  by_cases h : n = c.index
  · subst h; simp [Attention.occur]
  · have : (c.index).val ≠ n.val := fun e => h (Fin.ext e.symm)
    simp [Attention.occur, h, Vector.getElem_set_ne, this]

/-! ### Slots and lookups (R4, R5, R11) -/

/-- A slot read answers its verdict, and raises MEMORY FAULT exactly when that is FAULT. -/
theorem State.portRead_cases (s : State) (slot : Nat) :
    (Memory.verdict s.mem slot = .fault ∧
      s.portRead slot = (.fault, s.raise .memoryFault (wideSubject slot)))
    ∨ (Memory.verdict s.mem slot ≠ .fault ∧ s.portRead slot = (Memory.verdict s.mem slot, s)) := by
  unfold State.portRead
  cases h : Memory.verdict s.mem slot <;> simp

/-- A lookup answers its pass over the window, and raises MEMORY FAULT exactly at a slot fault. -/
theorem State.lookup_cases (s : State) (card : CardNumber) :
    (∃ slot, lookupSlots s.mem card (windowSlots s.geometry card) none none = .fault slot ∧
      s.lookup card = (.fault slot, s.raise .memoryFault (wideSubject slot)))
    ∨ ((∀ slot, lookupSlots s.mem card (windowSlots s.geometry card) none none ≠ .fault slot) ∧
      s.lookup card = (lookupSlots s.mem card (windowSlots s.geometry card) none none, s)) := by
  unfold State.lookup
  cases h : lookupSlots s.mem card (windowSlots s.geometry card) none none <;> simp

/-- A card found is in a slot of the window that reads LIVE with its record, or was noted before; and the insert
slot is a FREE slot of the window or was noted before. -/
theorem lookupSlots_found (m : List Host.Cell) (card : CardNumber) (slots : List Nat)
    (found : Option (Nat × CardRecord)) (noted insert : Option Nat) (slot : Nat) (r : CardRecord)
    (h : lookupSlots m card slots found noted = .found slot r insert) :
    (found = some (slot, r) ∨ (slot ∈ slots ∧ Memory.verdict m slot = .live r ∧ r.card = card))
    ∧ ∀ a, insert = some a → noted = some a ∨ (a ∈ slots ∧ Memory.verdict m a = .free) := by
  induction slots generalizing found noted with
  | nil =>
    cases found with
    | none => simp [lookupSlots] at h
    | some f =>
      simp only [lookupSlots, LookupResult.found.injEq] at h
      exact ⟨.inl (by rw [← h.1, ← h.2.1]), fun a ha => .inl (h.2.2.trans ha)⟩
  | cons b rest ih =>
    simp only [lookupSlots] at h
    cases hv : Memory.verdict m b with
    | fault => simp [hv] at h
    | free =>
      simp only [hv] at h
      obtain ⟨h1, h2⟩ := ih _ _ h
      refine ⟨h1.imp_right fun h1 => ⟨by simp [h1.1], h1.2⟩, fun a ha => ?_⟩
      rcases h2 a ha with h2 | h2
      · cases noted with
        | none =>
          simp at h2
          exact .inr ⟨by simp [h2], h2 ▸ hv⟩
        | some n => exact .inl (by simpa using h2)
      · exact .inr ⟨by simp [h2.1], h2.2⟩
    | live q =>
      simp only [hv] at h
      obtain ⟨h1, h2⟩ := ih _ _ h
      refine ⟨?_, fun a ha => (h2 a ha).imp_right fun h2 => ⟨by simp [h2.1], h2.2⟩⟩
      rcases h1 with h1 | h1
      · by_cases hq : q.card = card
        · simp only [hq, if_true, Option.some.injEq, Prod.mk.injEq] at h1
          exact .inr ⟨by simp [h1.1], by rw [← h1.1, ← h1.2]; exact hv, by rw [← h1.2]; exact hq⟩
        · simp only [hq, if_false] at h1
          exact .inl h1
      · exact .inr ⟨by simp [h1.1], h1.2⟩

/-- A card not found is in no slot of the window, and the insert slot is a FREE slot of the window or was
noted before. -/
theorem lookupSlots_notFound (m : List Host.Cell) (card : CardNumber) (slots : List Nat)
    (found : Option (Nat × CardRecord)) (insert noted : Option Nat)
    (h : lookupSlots m card slots found noted = .notFound insert) :
    found = none ∧ (∀ a ∈ slots, ∀ r, Memory.verdict m a = .live r → r.card ≠ card)
    ∧ (∀ a, insert = some a → noted = some a ∨ (a ∈ slots ∧ Memory.verdict m a = .free)) := by
  induction slots generalizing found noted with
  | nil => cases found <;> simp_all [lookupSlots]
  | cons b rest ih =>
    simp only [lookupSlots] at h
    cases hv : Memory.verdict m b with
    | fault => simp [hv] at h
    | free =>
      simp only [hv] at h
      obtain ⟨h1, h2, h3⟩ := ih _ _ h
      refine ⟨h1, ?_, fun a ha => ?_⟩
      · intro a ha r hr
        rcases List.mem_cons.1 ha with rfl | ha
        · simp [hv] at hr
        · exact h2 a ha r hr
      · rcases h3 a ha with h3 | h3
        · cases noted with
          | none =>
            simp at h3
            exact .inr ⟨by simp [h3], h3 ▸ hv⟩
          | some n => exact .inl (by simpa using h3)
        · exact .inr ⟨by simp [h3.1], h3.2⟩
    | live q =>
      simp only [hv] at h
      obtain ⟨h1, h2, h3⟩ := ih _ _ h
      by_cases hq : q.card = card
      · simp [hq] at h1
      · simp only [hq, if_false] at h1
        refine ⟨h1, ?_, fun a ha => ?_⟩
        · intro a ha r hr
          rcases List.mem_cons.1 ha with rfl | ha
          · rw [hv] at hr
            injection hr with hr
            exact hr ▸ hq
          · exact h2 a ha r hr
        · rcases h3 a ha with h3 | h3
          · exact .inl h3
          · exact .inr ⟨by simp [h3.1], h3.2⟩

/-! ### Departures (R85 to R92) -/

/-- A change of one departure: the record given with its report armed by R91; no other departure moves. -/
theorem State.changeDep_dep (s : State) (d e : DepIx) (r : Departure) :
    (s.changeDep d r).dep e = if e = d then { r with armed := armedAfter (s.dep d) r } else s.dep e := by
  simp only [State.changeDep]
  split <;> split <;> simp

/-- A release lowers held of its departure, unless that is EMPTY. -/
theorem State.release_dep (s : State) (d e : DepIx) :
    (s.release d).dep e =
      if e = d ∧ (s.dep d).state ≠ .empty then
        { s.dep d with
          held := (s.dep d).held - 1
          armed := armedAfter (s.dep d) { s.dep d with held := (s.dep d).held - 1 } }
      else s.dep e := by
  unfold State.release
  by_cases h : (s.dep d).state = .empty
  · simp [h]
  · by_cases he : e = d <;> simp [h, he, State.changeDep_dep]

/-- A hold taken raises held of its departure. -/
theorem State.takeHold_dep (s : State) (d e : DepIx) :
    (s.takeHold d).dep e =
      if e = d then
        { s.dep d with
          held := (s.dep d).held + 1
          armed := armedAfter (s.dep d) { s.dep d with held := (s.dep d).held + 1 } }
      else s.dep e := by
  simp only [State.takeHold, State.changeDep_dep]

/-- An auto-start makes its departure BOARDING. -/
theorem State.autoStart_dep (s : State) (f e : DepIx) :
    (s.autoStart f).dep e = if e = f then { s.dep f with state := .boarding } else s.dep e := by
  simp [State.autoStart]

/-- A hold request takes a hold on one departure, the berth's current one or its follow-on, or takes none
(R85, R86). -/
theorem State.holdRequest_cases (s : State) (b : Berth) :
    s.holdRequest b = (.noBoarding, s)
    ∨ s.holdRequest b = (.full, s)
    ∨ (∃ d, s.berth b = some d ∧ (s.dep d).state = .boarding ∧ 0 < (s.dep d).remaining
        ∧ s.holdRequest b = s.holdOn d)
    ∨ (∃ d f, s.berth b = some d ∧ (s.dep d).followOn = some f ∧ (s.dep f).state = .boarding
        ∧ 0 < (s.dep f).remaining ∧ s.holdRequest b = s.holdOn f)
    ∨ (∃ d f, s.berth b = some d ∧ (s.dep d).followOn = some f ∧ (s.dep f).state = .scheduled
        ∧ (s.dep f).autoStart = true ∧ s.holdRequest b = (s.autoStart f).holdOn f) := by
  unfold State.holdRequest
  cases hb : s.berth b with
  | none => simp
  | some d =>
    cases hs : (s.dep d).state with
    | empty => exact .inl (by simp only [hs])
    | scheduled => exact .inl (by simp only [hs])
    | closed => exact .inl (by simp only [hs])
    | boarding =>
      simp only [hs]
      by_cases hr : 0 < (s.dep d).remaining
      · exact .inr (.inr (.inl ⟨d, rfl, hs, hr, by simp only [hr, if_true]⟩))
      · simp only [hr, if_false, State.followOnStep]
        cases hf : (s.dep d).followOn with
        | none => exact .inr (.inl rfl)
        | some f =>
          cases hfs : (s.dep f).state with
          | empty => exact .inr (.inl (by simp only [hfs]))
          | closed => exact .inr (.inl (by simp only [hfs]))
          | boarding =>
            by_cases hfr : 0 < (s.dep f).remaining
            · exact .inr (.inr (.inr (.inl ⟨d, f, rfl, hf, hfs, hfr, by simp only [hfs, hfr, if_true]⟩)))
            · exact .inr (.inl (by simp only [hfs, hfr, if_false]))
          | scheduled =>
            by_cases ha : (s.dep f).autoStart = true
            · exact .inr (.inr (.inr (.inr ⟨d, f, rfl, hf, hfs, ha, by simp only [hfs, ha, if_true]⟩)))
            · exact .inr (.inl (by simp only [hfs, ha]; rfl))

/-! ### Lane ports (R110, R113, R118, R127) -/

/-- A message is queued behind at most three others, or discarded with LANE FAULT (R127). -/
theorem State.send_cases (s : State) (l : Lane) (m : Message) :
    ((s.lane l).queue.length < 4 ∧ s.send l m = s.setLane l { s.lane l with queue := (s.lane l).queue ++ [m] })
    ∨ (4 ≤ (s.lane l).queue.length ∧ s.send l m = s.raise .laneFault (numberSubject l.val)) := by
  simp only [State.send]
  by_cases h : (s.lane l).queue.length < 4
  · simp [h]
  · simp [h, not_lt.1 h]

/-- A lane after a message was sent on one: only that lane's queue can differ. -/
theorem State.send_lane (s : State) (l k : Lane) (m : Message) :
    (s.send l m).lane k =
      if k = l then
        { s.lane l with queue := if (s.lane l).queue.length < 4 then (s.lane l).queue ++ [m] else (s.lane l).queue }
      else s.lane k := by
  rcases State.send_cases s l m with ⟨h, e⟩ | ⟨h, e⟩
  · rw [e]; by_cases hk : k = l <;> simp [hk, h]
  · rw [e]; by_cases hk : k = l <;> simp [hk, not_lt.2 h]

/-- HALTING becomes HALTED exactly when no lane is in hand; otherwise nothing changes (R184). -/
theorem State.checkHalted_cases (s : State) :
    (s.service = .halting ∧ s.lanesInHand = 0 ∧ s.checkHalted = { s with service := .halted })
    ∨ (¬(s.service = .halting ∧ s.lanesInHand = 0) ∧ s.checkHalted = s) := by
  unfold State.checkHalted
  by_cases h : s.service = .halting ∧ s.lanesInHand = 0
  · exact .inl ⟨h.1, h.2, by simp [h.1, h.2]⟩
  · exact .inr ⟨h, by simp [h]⟩

/-- A lane at rest is IDLE, or DOWN with close-requested cleared and LANE STATE CLOSED sent; no other lane
changes. -/
theorem State.laneRest_lane (s : State) (l k : Lane) :
    (s.laneRest l).lane k =
      if k = l then
        if (s.lane l).closeRequested = true then
          { s.lane l with
            state := .down
            closeRequested := false
            queue := if (s.lane l).queue.length < 4 then (s.lane l).queue ++ [.laneState false]
              else (s.lane l).queue }
        else { s.lane l with state := .idle }
      else s.lane k := by
  simp only [State.laneRest, State.checkHalted_lane]
  by_cases hc : (s.lane l).closeRequested = true
  · by_cases hk : k = l <;> simp [hc, hk, State.send_lane]
  · by_cases hk : k = l <;> simp [hc, hk]

/-! ### The arbiter (R132) -/

/-- A grant is made exactly when the engine is IDLE and a request stands (R132). -/
theorem State.settle_cases (s : State) :
    (s.engine ≠ .idle ∧ s.settle = s)
    ∨ (s.engine = .idle ∧ s.nextGrant = none ∧ s.settle = s)
    ∨ (∃ g, s.engine = .idle ∧ s.nextGrant = some g ∧ s.settle = s.applyGrant g) := by
  unfold State.settle
  cases he : s.engine with
  | idle => cases hg : s.nextGrant <;> simp
  | deciding d => simp
  | committing c => simp
  | host h => simp
  | clearing n => simp

/-- With the engine at work the arbiter makes no grant. -/
theorem State.settle_busy (s : State) (h : s.engine ≠ .idle) : s.settle = s := by
  rcases s.settle_cases with h1 | h1 | ⟨g, h1, _⟩
  · exact h1.2
  · exact absurd h1.1 h
  · exact absurd h1 h

/-- With no request standing the arbiter makes no grant. -/
theorem State.nextGrant_quiet (s : State) (h : s.arbiter.clearingRequest = false)
    (hh : s.arbiter.hostRequest = false)
    (ht : ∀ l : Lane, s.arbiter.tapPending[l] = false) (hc : ∀ l : Lane, s.arbiter.commitPending[l] = false) :
    s.nextGrant = none := by
  have hf : (List.finRange 12).find? (fun l : Lane => s.arbiter.commitPending[l]) = none := by
    rw [List.find?_eq_none]; simp [hc]
  have hn : ∀ c, s.nextTap c = none := by
    intro c
    unfold State.nextTap
    rw [List.find?_eq_none]
    intro l _
    simp [ht l]
  unfold State.nextGrant
  rw [hf]
  simp only [h, hh, hn, Bool.false_eq_true, if_false, Option.map_none]

/-! ### The station link -/

/-- A DIRECT command ends with its answer on the link, unless it is RESTART (R165, R187). -/
theorem State.direct_cases (s : State) (c : Cmd) (own : State → Taken) :
    (∃ code, judgeGroup c.group s.service = some code ∧ s.direct c own = s.answerLink (.reject code))
    ∨ (judgeGroup c.group s.service = none ∧
        ((∃ t a, own s = (t, some a) ∧ s.direct c own = t.answerLink a)
         ∨ (∃ t, own s = (t, none) ∧ s.direct c own = t))) := by
  unfold State.direct
  cases hj : judgeGroup c.group s.service with
  | some code => exact .inl ⟨code, rfl, rfl⟩
  | none =>
    refine .inr ⟨rfl, ?_⟩
    rcases ho : own s with ⟨t, _ | a⟩
    · exact .inr ⟨t, rfl, rfl⟩
    · exact .inl ⟨t, a, rfl, rfl⟩

/-- The row of a DIRECT command begins it in READY and RESULTS, ends the command being collected in COLLECTING,
and is discarded in EXECUTING; in each of them it leaves no transfer in progress (R162, R164, R166, R167). -/
theorem State.hostDirect_cases (s : State) (c : Cmd) (own : State → Taken) :
    ((s.link.phase = .ready ∨ ∃ q, s.link.phase = .results q)
      ∧ s.hostDirect c own = { s with link := ⟨s.link.phase, none⟩ }.direct c own)
    ∨ ((∃ k n ws, s.link.phase = .collecting k n ws)
      ∧ s.hostDirect c own = { s with link := ⟨.results [.reject .unknownCommand], none⟩ })
    ∨ ((∃ k ws late, s.link.phase = .executing k ws late)
      ∧ s.hostDirect c own = { s with link := ⟨s.link.phase, none⟩ }) := by
  cases h : s.link.phase <;> simp [State.hostDirect, h, State.answerLink, Answer.entries]

/-- The stages of a host request: none, its serving, its serving with the hand-over, or the hand-over of
what was served before (R153, R156). -/
theorem State.hostStages_cases (s : State) (h : HostOp) (serve : List Word → State → State × Answer) (n : Nat) :
    (n = 0 ∧ s.hostStages h serve n = s)
    ∨ (∃ a, 1 ≤ n ∧ h.answer = some a ∧ s.hostStages h serve n = s.handOver a)
    ∨ (n = 1 ∧ h.answer = none ∧ s.hostStages h serve n =
        { (serve h.words s).1 with engine := .host { h with answer := some (serve h.words s).2 } })
    ∨ (2 ≤ n ∧ h.answer = none ∧
        s.hostStages h serve n = (serve h.words s).1.handOver (serve h.words s).2) := by
  match n, ha : h.answer with
  | 0, _ => exact .inl ⟨rfl, rfl⟩
  | n + 1, some a => exact .inr (.inl ⟨a, by omega, rfl, by simp [State.hostStages, ha]⟩)
  | 1, none => exact .inr (.inr (.inl ⟨rfl, rfl, by simp [State.hostStages, ha]⟩))
  | n + 2, none => exact .inr (.inr (.inr ⟨by omega, rfl, by simp [State.hostStages, ha]⟩))

end Sys2Proof.Machine
end

