-- ==== Sys2Proof/WellFormed.lean ====
section
/-!
DEFINITION. The commands that can occur. A command that is not well formed still has its meaning (log 4,
SLOT_DECAY's fault); no statement needs to suppose more than it says.
-/

namespace Sys2Proof

open Sys2Proof.Machine

/-- An engine row moves its operation on by a stage or more. -/
def Progress.wellFormed : Progress → Bool
  | .whole => true
  | .stages n => decide (1 ≤ n)

/-- The well-formedness of a command:
* an engine row makes some progress;
* FRAME_DISCARD carries a byte or more, and of bytes heard between frames none that complete a frame: those
  are TAP, PASSED, WALKAWAY and CANCEL; FRAME_TIMEOUT carries the bytes of a frame still incomplete;
* SLOT_DECAY names a slot of the largest table (1.3). -/
def Instr.wellFormed : Instr → Bool
  | .coldReset => true
  | .warmReset => true
  | .secondEvent => true
  | .minuteEvent => true
  | .passageTimerExpiry _ => true
  | .tap _ _ => true
  | .passed _ => true
  | .walkaway _ => true
  | .cancel _ => true
  | .frameDiscard _ bytes => !bytes.isEmpty && (hear none bytes).messages.isEmpty
  | .frameTimeout _ bytes => hear none (⟨frameStart, true⟩ :: bytes) == ⟨some ⟨bytes.map (·.value), 0⟩, 0, []⟩
  | .frameSent _ => true
  | .transferBegin => true
  | .transferComplete _ _ => true
  | .transferVoid => true
  | .tapDecision p => p.wellFormed
  | .commit p => p.wellFormed
  | .clearing p => p.wellFormed
  | .clearingComplete => true
  | .nop => true
  | .identify => true
  | .start _ _ => true
  | .resume => true
  | .halt => true
  | .continueService => true
  | .keep => true
  | .restart => true
  | .cardAdd p => p.wellFormed
  | .cardFind p => p.wellFormed
  | .addValue p => p.wellFormed
  | .setBalance p => p.wellFormed
  | .settle p => p.wellFormed
  | .setProduct p => p.wellFormed
  | .deny p => p.wellFormed
  | .allow p => p.wellFormed
  | .cardRetire p => p.wellFormed
  | .enforce p => p.wellFormed
  | .tableSeek p => p.wellFormed
  | .tableRead p => p.wellFormed
  | .tableWrite p => p.wellFormed
  | .fareSetBase p => p.wellFormed
  | .fareSetBand p => p.wellFormed
  | .fareSetClass p => p.wellFormed
  | .fareSetPolicy p => p.wellFormed
  | .fareRead p => p.wellFormed
  | .clockRead => true
  | .setTime _ => true
  | .newDay _ => true
  | .setDay _ _ => true
  | .departureDefine _ _ _ _ _ _ _ _ => true
  | .departureOpen _ => true
  | .departureClose _ => true
  | .departureSetCapacity _ _ _ => true
  | .departureLink _ _ => true
  | .departureRead _ _ => true
  | .departureRetire _ => true
  | .berthSetCurrent _ _ => true
  | .berthRead => true
  | .laneOpen _ => true
  | .laneClose _ => true
  | .laneSet _ _ _ _ _ => true
  | .laneRead _ => true
  | .arbiterMode _ => true
  | .setBottom _ => true
  | .pollLanes => true
  | .watchSet p => p.wellFormed
  | .watchClear p => p.wellFormed
  | .watchRead p => p.wellFormed
  | .attentionRead => true
  | .attentionAck _ => true
  | .attentionMask _ => true
  | .sweepNext p => p.wellFormed
  | .slotDecay slot _ => decide (slot < 1048576)
  | .resetLineRelease => true

end Sys2Proof
end

