-- ==== Sys2Proof/Tests/Slice0.lean ====
section
/-!
SUPPORT. Tests. Expected results come from the manual's worked figures, or by hand from its rules where a
comment says so; each names its section. Then one witness for every statement that supposes something: a
concrete state and operands that meet what it supposes, clause by clause, at the ends of the ranges.
-/

namespace Sys2Proof.Tests

-- Each theorem after the other: a thread for each would pass the memory limit of the checks.
set_option Elab.async false

open Sys2Proof Sys2Proof.Machine

/-! ### The pier of the manual's examples -/

/-- One component of the state after a command. -/
def after {α : Type} (i : Instr) (s : State) (f : State → α) : Option α :=
  match exec i s with
  | .next t => some (f t)
  | .fault _ => none
  | .refused _ => none

/-- The result queue on the link. -/
def results (s : State) : List Entry :=
  match s.link.phase with
  | .results q => q
  | _ => []

/-- A state whose engine serves a host request. -/
def serving (k : Cmd) (ws : List Word) (s : State) : State :=
  { s with engine := .host ⟨k, ws, none⟩, link := ⟨.executing k ws false, none⟩ }

/-- A state with a phase on the link, and a transfer in progress that carries nothing. -/
def linked (p : Phase) (s : State) : State := { s with link := ⟨p, some ⟨0, false⟩⟩ }

/-- The journey and record of card 3,070 at its tap (2.11). -/
def record : CardRecord :=
  { card := 3070, product := .purse, fareClass := 0, provisional := false, deny := false, latch := false
    changed := false, balance := 120, passFirst := 0, passLast := 0, capDay := 212, daySpend := 850
    journey := some ⟨212, 1090, 2, 300⟩, boardings := 41 }

/-- The record of card 3,070 after its commit (2.11, 11.5). -/
def charged : CardRecord :=
  { record with
    balance := -30, latch := true, daySpend := 1000, journey := some ⟨212, 1090, 5, 450⟩, boardings := 42
    changed := true }

/-- The fare tables of the brief case (3.5), with the bands of 3.2. -/
def tables : FareTables :=
  { FareTables.reset with
    base := (FareTables.reset.base.set 20 380).set 8 300
    bands := #v[⟨0, #v[26214, 13107, 13107, 16384]⟩, ⟨420, #v[45875, 22938, 16384, 26214]⟩,
      ⟨600, #v[32768, 16384, 16384, 19661]⟩, ⟨960, #v[45875, 22938, 16384, 26214]⟩,
      ⟨1140, #v[32768, 16384, 13107, 19661]⟩, ⟨0, #v[0, 0, 0, 0]⟩]
    caps := FareTables.reset.caps.set 0 1000
    allowances := FareTables.reset.allowances.set 0 200
    transferWindow := 60
    lowThreshold := 200 }

/-- Departure 5 of 5.10 as the sensed-lane example finds it (6.9): remaining 399. -/
def sailing : Departure :=
  { state := .boarding, berth := 2, route := 5, tag := 1745, capacity := 400, boarded := 1, held := 0
    margin := 20, armed := true, followOn := none, autoStart := true, takings := 0 }

/-- An IDLE lane at berth 2 with an empty queue. -/
def idle : LanePort := { LanePort.reset with berth := 2, state := .idle, queue := [] }

/-- SERVING at day 212, minute 1,100: every lane IDLE at berth 2, departure 5 its current, card 3,070 at slot
4,090 of the table with k = 10 and P = 3. -/
def pier : State :=
  { State.reset with
    service := .serving
    geometry := ⟨10, 3⟩
    clock := ⟨212, 1100, 0⟩
    fares := tables
    departures := State.reset.departures.set 5 sailing
    berths := State.reset.berths.set 2 (some 5)
    lanes := Vector.replicate 12 idle
    mem := Memory.writeSlot [] 4090 (encodeRecord record) }

/-- The open verdict of lane 3 in the example of 6.9. -/
def verdict : OpenVerdict := ⟨4090, 3070, 5, 150, true, 212, 1100, 5, false⟩

/-- Lane 3 of the example, AWAITING. -/
def awaiting : LanePort := { idle with state := .awaiting, openVerdict := some verdict, secondsLeft := 10 }

/-- The pier with lane 3 AWAITING and its hold on departure 5. -/
def passing : State :=
  { pier with
    lanes := pier.lanes.set 3 awaiting
    departures := pier.departures.set 5 { sailing with held := 1 } }

/-- The decision of the example, just begun. -/
def fresh : Decision :=
  { lane := 3, card := 3070, day := 212, minute := 1100, stage := .watch, lookup := none, slot := 0
    record := none, built := false, hold := none, fare := FareFields.zero, transfer := false, wrote := false
    refusal := none }

/-- The pier with the engine at the beginning of that decision. -/
def judging : State :=
  { pier with
    lanes := pier.lanes.set 3 { idle with state := .deciding, tapped := some 3070 }
    engine := .deciding fresh }

/-- The pier with the engine at the beginning of lane 3's commit. -/
def boarding : State :=
  { passing with
    lanes := pier.lanes.set 3 { awaiting with state := .committing, secondsLeft := 0 }
    engine := .committing ⟨3, .count, none⟩ }

/-- The eighteen operand words of CARD ADD for a record (2.10). -/
def cardAddWords (r : CardRecord) : List Word :=
  let j := r.journey.getD ⟨0, 0, 0, 0⟩
  cardWords r.card ++ [productWord r.product r.fareClass, cardFlagsWord r] ++ twoWordsSigned r.balance
    ++ [word r.passFirst, word r.passLast, word r.capDay] ++ twoWords r.daySpend
    ++ [word j.startDay, word j.startMinute, word j.route.val] ++ twoWords j.paid ++ [word r.boardings]

/-- The record with both bits set that CARD ADD ignores, pass days of a PURSE and journey words out of every
range behind a present bit that is clear, but for the paid so far: eighteen words that no record reads out as. -/
def looseWords : List Word := [0, 0, 3070, 0, 9, 0, 120, 9, 8, 212, 255, 65535, 212, 65535, 65535, 255, 65535, 65535]

/-- Lane 3 with the beginning of a TAP in reception, and so many second events since its start byte. -/
def receiving (seconds : Nat) : LanePort := { idle with reception := some ⟨[1, 6], seconds⟩ }

/-! ### Figures of the manual -/

/-- 1.4: folds, home buckets and the window that wraps, for k = 10 and P = 3. -/
theorem test_hashing_figures :
    cardFold 51331648 = 1000003 ∧ homeBucket ⟨10, 3⟩ 51331648 = 579 ∧ homeBucket ⟨10, 3⟩ 16778239 = 1022
    ∧ windowBuckets ⟨10, 3⟩ 2046 = [1022, 1023, 0] := by decide +kernel

/-- 1.2: fifteen words that sum to 70,000 have check word 61,071; one bit more is a slot fault. -/
theorem test_check_word_figures :
    checkWord (Vector.replicate 15 (4666 : Word) |>.set 0 4676) = 61071
    ∧ slotVerdict ((withCheck (encodeRecord record)).set 1 42) = .fault := by decide +kernel

/-- 11.5: the sixteen words of slot 4,090 after the transfer commit. -/
theorem test_slot_after_transfer_commit :
    withCheck (encodeRecord charged)
      = #v[1793, 42, 0, 0, 3070, 65535, 65506, 0, 0, 212, 0, 1000, 212, 11330, 450, 47457] := by decide +kernel

/-- 11.6: the twenty words of that record swept from slot 4,090. -/
theorem test_record_read_out :
    recordWords charged 4090 1023
      = [0, 0, 3070, 0, 28, 65535, 65506, 0, 0, 212, 0, 1000, 212, 1090, 5, 0, 450, 42, 0, 4090] := by
  decide +kernel

/-- 3.3: the rounding figures. -/
theorem test_rounding_figures :
    rawFare 1 16383 = 0 ∧ rawFare 1 16384 = 1 ∧ rawFare 3 16384 = 2 ∧ rawFare 380 45875 = 532
    ∧ rawFare 300 26214 = 240 ∧ rawFare 60000 65535 = 119998 := by decide +kernel

/-- 3.5: display saturation. -/
theorem test_display_figures :
    fareFields tables 233 32767 = ⟨233, 32767, false, false⟩ ∧ fareFields tables 233 32768 = ⟨233, 32767, true, false⟩
    ∧ fareFields tables 233 167 = ⟨233, 167, false, true⟩ := by decide +kernel

/-- 2.7: when a journey that began at day 212, minute 1,090 is live. -/
theorem test_journey_figures :
    journeyLive 60 ⟨212, 1090, 2, 300⟩ 212 1150 = true ∧ journeyLive 60 ⟨212, 1090, 2, 300⟩ 212 1151 = false
    ∧ journeyLive 60 ⟨212, 1090, 2, 300⟩ 212 1080 = false ∧ journeyLive 60 ⟨212, 1090, 2, 300⟩ 213 1100 = false
    ∧ journeyLive 0 ⟨212, 1090, 2, 300⟩ 212 1090 = false := by decide +kernel

/-- 3.5: the charges of taps 1, 4 and 5 of one card through a service day. -/
theorem test_charges_through_a_day :
    fareCharge tables { record with capDay := 211, daySpend := 700, journey := none } 2 212 450 = (420, false)
    ∧ fareCharge tables { record with daySpend := 952, journey := some ⟨212, 530, 2, 420⟩ } 5 212 1000 = (48, false)
    ∧ fareCharge tables { record with daySpend := 1000, journey := some ⟨212, 1000, 5, 48⟩ } 2 212 1030 = (0, true) := by
  decide +kernel

/-- 11.4: the frames of one passage. -/
theorem test_frames_of_one_passage :
    frameBytes (GateMessage.tap 3070).kind (GateMessage.tap 3070).payload = [193, 1, 6, 0, 0, 0, 0, 11, 254, 242]
    ∧ frameBytes GateMessage.passed.kind GateMessage.passed.payload = [193, 2, 0, 2]
    ∧ (Message.verdict ⟨none, ⟨150, -30, false, true⟩, 1745, 398⟩).frame
      = [193, 9, 12, 0, 0, 0, 0, 150, 255, 226, 2, 6, 209, 1, 142, 212]
    ∧ (Message.passageAnswer .taken).frame = [193, 10, 1, 1, 10] := by decide +kernel

/-- 11.2 and 8.9: the three words of card 51,331,648. -/
theorem test_card_words : cardWords 51331648 = [0, 783, 16960] := by decide +kernel

/-! ### Well-formedness and decoding -/

/-- An engine row that makes no progress is not well formed. -/
theorem test_wellFormed_progress :
    ([.tapDecision, .commit, .clearing, .cardAdd, .cardFind, .addValue, .setBalance, .settle, .setProduct, .deny,
      .allow, .cardRetire, .enforce, .tableSeek, .tableRead, .tableWrite, .fareSetBase, .fareSetBand, .fareSetClass,
      .fareSetPolicy, .fareRead, .watchSet, .watchClear, .watchRead, .sweepNext] : List (Progress → Instr)).all
      (fun i => !(i (.stages 0)).wellFormed && (i (.stages 1)).wellFormed && (i .whole).wellFormed) = true := by
  decide +kernel

/-- No bytes and a whole frame are no discarded frame, and a frame of an unknown kind is not one cut short, since
it is discarded at its kind byte (R126). -/
theorem test_wellFormed_frames :
    (Instr.frameDiscard 0 GateMessage.passed.received).wellFormed = false
    ∧ (Instr.frameDiscard 0 []).wellFormed = false
    ∧ (Instr.frameDiscard 0 (framed [193, 9])).wellFormed = true
    ∧ (Instr.frameTimeout 0 (framed [9])).wellFormed = false
    ∧ (Instr.frameTimeout 0 (framed [1])).wellFormed = true := by decide +kernel

/-- The largest table has slots 0 to 1,048,575 (1.3). -/
theorem test_wellFormed_slotDecay :
    (Instr.slotDecay 1048576 (withCheck freeContent)).wellFormed = false
    ∧ (Instr.slotDecay 1048575 (withCheck freeContent)).wellFormed = true := by decide +kernel

/-- The table gives no row any bits. -/
theorem test_no_word_spells_a_command :
    decodeTableWord 16 90 = none ∧ State.withFetchWord pier 16 90 = pier := by decide +kernel

/-! ### Commands, one step each -/

/-- 10.3 R186, by hand. -/
theorem test_coldReset : after .coldReset pier id = some State.reset := by decide +kernel

/-- 10.6, step 9: with a valid keep a warm reset leaves the part RESUMABLE and LANE STATE CLOSED on its way. -/
theorem test_warmReset :
    after .warmReset { pier with service := .halted, keepValid := true, kept := ⟨10, 3⟩ }
      (fun t => (t.service, (t.lane 2).state, (t.lane 2).queue)) = some (.resumable, .down, [.laneState false]) := by
  decide +kernel

/-- 5.9 R103: held falls to 0 and near-full is armed where remaining then lies above the margin, by hand. -/
theorem test_restart :
    after .restart { passing with keepValid := true, kept := ⟨10, 3⟩ }
      (fun t => ((t.dep 5).held, (t.dep 5).boarded, t.link)) = some (0, 1, ⟨.ready, none⟩) := by decide +kernel

theorem test_resetLineRelease :
    after .resetLineRelease { pier with resetLine := true } (·.resetLine) = some false := by decide +kernel

/-- 4.6, step 4. -/
theorem test_secondEvent :
    after .secondEvent { pier with clock := ⟨212, 1918, 59⟩ }
      (fun t => (t.clock, t.attention.causes[(10 : Fin 11)])) = some (⟨212, 1919, 0⟩, ⟨true, 1, (0, 212)⟩) := by
  decide +kernel

/-- 6.9, expiry and close: step 2 of the second example. -/
theorem test_secondEvent_expiry :
    after .secondEvent
      { passing with lanes := passing.lanes.set 3 { awaiting with secondsLeft := 1, closeRequested := true } }
      (fun t => ((t.lane 3).state, (t.lane 3).expiredLast, (t.lane 3).queue, (t.dep 5).held))
      = some (.down, true, [.passageAnswer .expired, .laneState false], 0) := by decide +kernel

/-- 4.2 R73: a clock held at 1,919 stays, with no attention. -/
theorem test_minuteEvent :
    after .minuteEvent { pier with clock := ⟨212, 1919, 0⟩ } (fun t => (t.clock, t.attention))
      = some (⟨212, 1919, 0⟩, Attention.reset) := by decide +kernel

/-- 10.6, step 6: the last lane in hand leaves HALTING for HALTED. -/
theorem test_passageTimerExpiry :
    after (.passageTimerExpiry 3) { passing with service := .halting } (fun t => (t.service, (t.dep 5).held))
      = some (.halted, 0) := by decide +kernel

/-- 6.9: TAP 3,070 at an idle part is granted and decided at once. -/
theorem test_tap : after (.tap 3 3070) pier (·.engine) = some (.deciding fresh) := by decide +kernel

/-- 6.9: between steps 3 and 7 a TAP at lane 3 is refused BUSY. -/
theorem test_tap_busy :
    after (.tap 3 3070) passing (fun t => (t.lane 3).queue) = some [.refuse .busy FareFields.zero] := by decide +kernel

/-- 6.9, step 5. -/
theorem test_passed :
    after (.passed 3) passing (fun t => ((t.lane 3).state, (t.lane 3).secondsLeft, t.engine))
      = some (.committing, 0, .committing ⟨3, .count, none⟩) := by decide +kernel

/-- 6.9, second example, step 3: LATE, and LATE PASSAGE with the lane as subject. -/
theorem test_passed_late :
    after (.passed 8) (pier.setLane 8 { idle with state := .down, expiredLast := true })
      (fun t => ((t.lane 8).queue, (t.lane 8).expiredLast, t.attention.causes[(8 : Fin 11)]))
      = some ([.passageAnswer .late], false, ⟨true, 1, (0, 8)⟩) := by decide +kernel

/-- 5.10, step 11: a walk-away gives its departure a place back. -/
theorem test_walkaway :
    after (.walkaway 3) passing (fun t => ((t.lane 3).state, (t.lane 3).queue, (t.dep 5).held))
      = some (.idle, [.passageAnswer .taken], 0) := by decide +kernel

/-- 6.9, second example, step 5. -/
theorem test_cancel :
    after (.cancel 8) (pier.setLane 8 { idle with state := .down }) (fun t => t.lane 8)
      = some { idle with state := .down } := by decide +kernel

/-- 9.3, step 3: LANE FAULT of lane 2. -/
theorem test_frameDiscard :
    after (.frameDiscard 2 (framed [193, 9])) pier (fun t => t.attention.causes[(9 : Fin 11)])
      = some ⟨true, 1, (0, 2)⟩ := by decide +kernel

/-- 11.3, by hand: bytes between frames are passed over, a byte 193 inside a frame belongs to it, and the beginning
of a TAP stays in reception. -/
theorem test_frameDiscard_incomplete :
    after (.frameDiscard 2 (framed [7, 0, 193, 1, 6, 193, 0])) pier
      (fun t => ((t.lane 2).reception, t.attention)) = some (some ⟨[1, 6, 193, 0], 0⟩, Attention.reset) := by
  decide +kernel

/-- 6.8 R126, by hand: the second second event since the start byte. -/
theorem test_frameTimeout :
    after (.frameTimeout 3 (framed [1, 6])) (pier.setLane 3 (receiving 1))
      (fun t => ((t.lane 3).reception, t.attention.causes[(9 : Fin 11)])) = some (none, ⟨true, 1, (0, 3)⟩) := by
  decide +kernel

/-- 6.8 R126, by hand: the first second event leaves the frame in reception, the second discards it. -/
theorem test_secondEvent_frames :
    after .secondEvent ((pier.setLane 3 (receiving 0)).setLane 4 (receiving 1))
      (fun t => ((t.lane 3).reception, (t.lane 4).reception, t.attention.causes[(9 : Fin 11)]))
      = some (some ⟨[1, 6], 1⟩, none, ⟨true, 1, (0, 4)⟩) := by decide +kernel

/-- 11.4: the PASSAGE ANSWER TAKEN goes out whole. -/
theorem test_frameSent :
    after (.frameSent 3) (pier.setLane 3 { idle with queue := [.passageAnswer .taken, .laneState false] })
      (fun t => ((t.lane 3).queue, (t.lane 3).lineOut)) = some ([.laneState false], [193, 10, 1, 1, 10]) := by
  decide +kernel

/-- 8.9, transfer 5: WAIT with the two operands still expected. -/
theorem test_transferBegin :
    after .transferBegin { pier with link := ⟨.collecting .addValue 2 [0, 783, 16960], none⟩ } (fun t => t.link.transfer)
      = some (some ⟨2#8 ++ 2#16, false⟩) := by decide +kernel

/-- 8.9, transfer 1: COMMAND 34 collects five operands. -/
theorem test_transferComplete :
    after (.transferComplete 90 34) (linked .ready pier) (·.link) = some ⟨.collecting .addValue 5 [], none⟩ := by
  decide +kernel

/-- 8.9, the top-up aborted, first case: a request not yet granted is withdrawn. -/
theorem test_transferComplete_abort :
    after (.transferComplete 60 0)
      { linked (.executing .addValue [0, 783, 16960, 0, 500] false) boarding with
        arbiter := { pier.arbiter with hostRequest := true } }
      (fun t => (results t, t.arbiter.hostRequest)) = some ([.reject .aborted], false) := by decide +kernel

/-- 8.2 R159: a void transfer leaves the result queue. -/
theorem test_transferVoid :
    after .transferVoid (linked (.results [.done 0]) pier) (·.link) = some ⟨.results [.done 0], none⟩ := by
  decide +kernel

/-- 3.5 and 6.9, step 3: the brief case opens with charge 150, display -30 and LOW. -/
theorem test_tapDecision :
    after (.tapDecision .whole) judging (fun t => (t.lane 3, (t.dep 5).held))
      = some ({ awaiting with queue := [.verdict ⟨none, ⟨150, -30, false, true⟩, 1745, 398⟩] }, 1) := by
  decide +kernel

/-- 2.11: the charged card's next tap is refused OVERDRAWN. -/
theorem test_tapDecision_overdrawn :
    after (.tapDecision .whole) { judging with mem := Memory.writeSlot [] 4090 (encodeRecord charged) }
      (fun t => ((t.lane 3).queue, (t.dep 5).held)) = some ([.refuse .overdrawn FareFields.zero], 0) := by
  decide +kernel

/-- 2.11 and 5.10, step 7: the commit of the brief case. -/
theorem test_commit :
    after (.commit .whole) boarding (fun t => (Memory.readSlot t.mem 4090, t.dep 5, (t.lane 3).queue))
      = some (withCheck (encodeRecord charged), { sailing with boarded := 2, takings := 150 },
          [.passageAnswer .taken]) := by decide +kernel

/-- 2.11: with the allowance written to 0 the balance is set to 0, and BALANCE CLAMPED names slot 4,090. -/
theorem test_commit_clamped :
    after (.commit .whole) { boarding with fares := { tables with allowances := FareTables.reset.allowances } }
      (fun t => (Memory.verdict t.mem 4090, t.attention.causes[(7 : Fin 11)]))
      = some (.live { charged with balance := 0, latch := false }, ⟨true, 1, (0, 4090)⟩) := by decide +kernel

/-- 1.7 R17: the first slots cleared, by hand. -/
theorem test_clearing :
    after (.clearing (.stages 3)) { pier with engine := .clearing 4088 }
      (fun t => (t.engine, Memory.verdict t.mem 4090)) = some (.clearing 4091, .free) := by decide +kernel

theorem test_clearingComplete :
    after .clearingComplete { pier with service := .clearing, engine := .clearing 4096 } (fun t => (t.service, t.engine))
      = some (.serving, .idle) := by decide +kernel

/-- 8.3 R164 and 8.7 R169, by hand: in COLLECTING a NOP is not started, and ends the command collected. -/
theorem test_nop_collecting :
    after .nop { pier with link := ⟨.collecting .cardAdd 2 [0], none⟩ } results = some [.reject .unknownCommand] := by
  decide +kernel

/-- 8.7 R169. -/
theorem test_nop : after .nop pier results = some [.done 0] := by decide +kernel

/-- 8.7 R170. -/
theorem test_identify : after .identify pier results = some [.data 24013, .data 412, .data 1, .done 3] := by
  decide +kernel

/-- 10.4 R189, by hand: the lanes go DOWN and clearing begins. -/
theorem test_start :
    after (.start 10 3) { pier with service := .halted } (fun t => (t.service, t.engine, (t.lane 0).state, t.dep 5))
      = some (.clearing, .clearing 0, .down, Departure.reset) := by decide +kernel

/-- 10.6, step 11. -/
theorem test_resume :
    after .resume { pier with service := .resumable, keepValid := true } (fun t => (t.service, t.keepValid, results t))
      = some (.serving, false, [.done 0]) := by decide +kernel

/-- 10.6, step 1: two lanes in hand, and the PENDING one turned away. -/
theorem test_halt :
    after .halt
      { passing with
        lanes := (passing.lanes.set 2 { idle with state := .pending, tapped := some 1 }).set 5
          { idle with state := .deciding, tapped := some 3070 } }
      (fun t => (t.service, (t.lane 2).queue, results t))
      = some (.halting, [.refuse .notInService FareFields.zero], [.done 2]) := by decide +kernel

/-- 10.6, step 10. -/
theorem test_continueService :
    after .continueService { pier with service := .resumable } results = some [.reject .notStarted] := by decide +kernel

/-- 10.6, step 8. -/
theorem test_keep :
    after .keep { pier with service := .halted } (fun t => (t.keepValid, t.kept, results t))
      = some (true, ⟨10, 3⟩, [.done 0]) := by decide +kernel

/-- 1.6, step 6: a card already held is DUPLICATE. -/
theorem test_cardAdd_duplicate :
    after (.cardAdd .whole) (serving .cardAdd (cardAddWords record) pier) results = some [.reject .duplicate] := by
  decide +kernel

/-- 2.10 R39 and R26, by hand: what the operand words carry beside the record is not stored. -/
theorem test_cardAdd :
    after (.cardAdd .whole) (serving .cardAdd looseWords { pier with mem := [] }) (fun t => Memory.verdict t.mem 4088)
      = some (.live { record with daySpend := 16777215, journey := none, boardings := 65535 }) := by decide +kernel

/-- 2.10: groups 3 and 8 of a record with balance 120 and boardings 41. -/
theorem test_cardFind :
    after (.cardFind .whole) (serving .cardFind [0, 0, 3070, 264] pier) results
      = some [.data 0, .data 120, .data 41, .done 3] := by decide +kernel

/-- 2.10, step 2 of settling a card: ADD VALUE 2,000 to -30 gives 1,970, and the latch stays. -/
theorem test_addValue :
    after (.addValue .whole)
      (serving .addValue [0, 0, 3070, 0, 2000] { pier with mem := Memory.writeSlot [] 4090 (encodeRecord charged) })
      (fun t => (results t, Memory.verdict t.mem 4090))
      = some ([.data 0, .data 1970, .done 0], .live { charged with balance := 1970 }) := by decide +kernel

/-- 2.10, step 5. -/
theorem test_addValue_ceiling :
    after (.addValue .whole)
      (serving .addValue ([0, 0, 3070] ++ twoWords 999000)
        { pier with mem := Memory.writeSlot [] 4090 (encodeRecord { record with balance := 1970 }) }) results
      = some [.reject .ceiling] := by decide +kernel

/-- 2.10, step 6. -/
theorem test_setBalance :
    after (.setBalance .whole) (serving .setBalance ([0, 0, 3070] ++ twoWordsSigned (-100)) pier)
      (fun t => Memory.verdict t.mem 4090) = some (.live { record with balance := -100, latch := true }) := by
  decide +kernel

/-- 2.10, step 1. -/
theorem test_settle :
    after (.settle .whole)
      (serving .settle [0, 0, 3070] { pier with mem := Memory.writeSlot [] 4090 (encodeRecord charged) }) results
      = some [.reject .badOperand] := by decide +kernel

/-- 2.10 R44, by hand: a PASS of class 1 for days 10 to 20. -/
theorem test_setProduct :
    after (.setProduct .whole) (serving .setProduct [0, 0, 3070, 257, 10, 20] pier)
      (fun t => Memory.verdict t.mem 4090)
      = some (.live { record with product := .pass, fareClass := 1, passFirst := 10, passLast := 20 }) := by
  decide +kernel

theorem test_deny :
    after (.deny .whole) (serving .deny [0, 0, 3070] pier) (fun t => Memory.verdict t.mem 4090)
      = some (.live { record with deny := true }) := by decide +kernel

theorem test_allow :
    after (.allow .whole)
      (serving .allow [0, 0, 3070]
        { pier with mem := Memory.writeSlot [] 4090 (encodeRecord { record with deny := true }) })
      (fun t => Memory.verdict t.mem 4090) = some (.live record) := by decide +kernel

/-- 2.10 R46: a retired card's slot is FREE again. -/
theorem test_cardRetire :
    after (.cardRetire .whole) (serving .cardRetire [0, 0, 3070] pier) (fun t => Memory.verdict t.mem 4090)
      = some .free := by decide +kernel

/-- 1.6 R16: a slot in passage is not retired. -/
theorem test_cardRetire_inPassage :
    after (.cardRetire .whole) (serving .cardRetire [0, 0, 3070] passing) results = some [.reject .inPassage] := by
  decide +kernel

theorem test_enforce :
    after (.enforce .whole) (serving .enforce [1] pier) (·.enforce) = some true := by decide +kernel

/-- 1.8, steps 1 and 5. -/
theorem test_tableSeek :
    after (.tableSeek .whole) (serving .tableSeek [0, 4091] pier) (·.tableCursor) = some 4091 := by decide +kernel

/-- 1.8, step 2: a faulty slot is refused FAULT, and the cursor moves on. -/
theorem test_tableRead :
    after (.tableRead .whole)
      (serving .tableRead [] { pier with tableCursor := 4091, mem := Memory.putSlot [] 4091 (Vector.replicate 16 0) })
      (fun t => (results t, t.tableCursor, t.attention.causes[(5 : Fin 11)]))
      = some ([.reject .fault], 4092, ⟨true, 1, (0, 4091)⟩) := by decide +kernel

/-- 1.8, step 4: slot 5 lies outside the window of card 3,070. -/
theorem test_tableWrite_window :
    after (.tableWrite .whole)
      (serving .tableWrite (encodeRecord record).toList { pier with tableCursor := 5, mem := [] })
      (fun t => (results t, t.tableCursor)) = some ([.reject .badOperand], 5) := by decide +kernel

/-- 1.8, step 6, with a balance of -120 and the latch clear: the latch is set. -/
theorem test_tableWrite :
    after (.tableWrite .whole)
      (serving .tableWrite (encodeRecord { record with balance := -120 }).toList
        { pier with tableCursor := 4091, mem := [] })
      (fun t => (Memory.verdict t.mem 4091, t.tableCursor))
      = some (.live { record with balance := -120, latch := true }, 4092) := by decide +kernel

/-- 3.2 R52, by hand. -/
theorem test_fareSetBase :
    after (.fareSetBase .whole) (serving .fareSetBase [7, 3, 60000] pier) (fun t => t.fares.base[(31 : Fin 32)])
      = some 60000 := by decide +kernel

/-- 3.2, step 6: 400 is not above band 1's 420. -/
theorem test_fareSetBand :
    after (.fareSetBand .whole) (serving .fareSetBand [2, 400, 32768, 16384, 16384, 19661] pier)
      (fun t => (results t, t.fares)) = some ([.reject .badOperand], tables) := by decide +kernel

theorem test_fareSetClass :
    after (.fareSetClass .whole) (serving .fareSetClass [3, 65000, 5001] pier) (fun t => (results t, t.fares))
      = some ([.reject .badOperand], tables) := by decide +kernel

theorem test_fareSetPolicy :
    after (.fareSetPolicy .whole) (serving .fareSetPolicy [240, 0, 1, 2] pier)
      (fun t => (t.fares.policy, t.fares.provisionalClass, t.fares.transferWindow)) = some (.provisional, 2, 240) := by
  decide +kernel

/-- 3.2 R56: part 2. -/
theorem test_fareRead :
    after (.fareRead .whole) (serving .fareRead [2] pier) results
      = some [.data 1000, .data 200, .data 0, .data 0, .data 0, .data 0, .data 0, .data 0, .done 8] := by
  decide +kernel

/-- 4.6, step 6. -/
theorem test_clockRead :
    after .clockRead { pier with clock := ⟨212, 1919, 0⟩ } results
      = some [.data 212, .data 1919, .data 0, .done 3] := by decide +kernel

/-- 4.6, step 7: no attention, since the minute was already 1,919. -/
theorem test_setTime :
    after (.setTime 1919) { pier with clock := ⟨212, 1919, 0⟩ } (fun t => (t.clock, t.attention))
      = some (⟨212, 1919, 0⟩, Attention.reset) := by decide +kernel

/-- 4.6, step 8. -/
theorem test_newDay :
    after (.newDay 240) { pier with clock := ⟨212, 1919, 5⟩ } (·.clock) = some ⟨213, 240, 0⟩ := by decide +kernel

/-- 4.6, step 11. -/
theorem test_setDay :
    after (.setDay 212 1919) { pier with clock := ⟨213, 230, 0⟩ }
      (fun t => (t.clock, t.attention.causes[(10 : Fin 11)])) = some (⟨212, 1919, 0⟩, ⟨true, 1, (0, 212)⟩) := by
  decide +kernel

/-- 5.10: the definition of departure 4 with follow-on 5. -/
theorem test_departureDefine :
    after (.departureDefine 4 2 5 1715 6 2 5 0) pier (fun t => t.dep 4)
      = some ⟨.scheduled, 2, 5, 1715, 6, 0, 0, 2, true, some 5, false, 0⟩ := by decide +kernel

theorem test_departureOpen :
    after (.departureOpen 5) (pier.setDep 5 { sailing with state := .scheduled, boarded := 0 }) (fun t => (t.dep 5).state)
      = some .boarding := by decide +kernel

/-- 5.10, step 13: the current of the berth moves to the follow-on. -/
theorem test_departureClose :
    after (.departureClose 4)
      ((pier.setDep 4 { sailing with followOn := some 5 }).setBerth 2 (some 4)) (fun t => ((t.dep 4).state, t.berth 2))
      = some (.closed, some 5) := by decide +kernel

/-- 5.7 R91, R92, by hand: capacity lowered to what has boarded fills the departure. -/
theorem test_departureSetCapacity :
    after (.departureSetCapacity 5 1 1) pier
      (fun t => (t.attention.causes[(0 : Fin 11)], t.attention.causes[(1 : Fin 11)], (t.dep 5).armed))
      = some (⟨true, 1, (0, 5)⟩, ⟨true, 1, (0, 5)⟩, false) := by decide +kernel

theorem test_departureLink :
    after (.departureLink 5 5) pier results = some [.reject .badOperand] := by decide +kernel

/-- 5.10: mask 2,080 returns boarded and the two words of takings. -/
theorem test_departureRead :
    after (.departureRead 5 2080) (pier.setDep 5 { sailing with boarded := 6, takings := 66068 }) results
      = some [.data 6, .data 1, .data 532, .done 3] := by decide +kernel

/-- 5.10: refused while held is 5. -/
theorem test_departureRetire :
    after (.departureRetire 5) (pier.setDep 5 { sailing with state := .closed, held := 5 }) results
      = some [.reject .wrongState] := by decide +kernel

theorem test_berthSetCurrent :
    after (.berthSetCurrent 1 5) pier results = some [.reject .badOperand] := by decide +kernel

theorem test_berthRead :
    after .berthRead pier results = some [.data 65535, .data 65535, .data 5, .data 65535, .done 4] := by decide +kernel

/-- 6.9, second example, step 6. -/
theorem test_laneOpen :
    after (.laneOpen 8) (pier.setLane 8 { idle with state := .down, expiredLast := true })
      (fun t => ((t.lane 8).state, (t.lane 8).expiredLast, (t.lane 8).queue))
      = some (.idle, false, [.laneState true]) := by decide +kernel

/-- 6.9, second example, step 1. -/
theorem test_laneClose :
    after (.laneClose 3) passing (fun t => t.lane 3) = some { awaiting with closeRequested := true } := by decide +kernel

theorem test_laneSet :
    after (.laneSet 8 1 1 1 60) (pier.setLane 8 { idle with state := .down })
      (fun t => ((t.lane 8).berth, (t.lane 8).kind, (t.lane 8).cls, (t.lane 8).timer))
      = some (1, .unsensed, .assisted, 60) := by decide +kernel

/-- 6.9, step 3 and 6.7 R125: the 22 words, flags 8 + 16. -/
theorem test_laneRead :
    after (.laneRead 3) passing results
      = some (([4, 2, 0, 0, 10, 24, 10, 0, 0, 0, 0, 0, 4090, 0, 0, 3070, 5, 0, 150, 212, 1100, 5] : List Word).map .data
          ++ [.done 22]) := by decide +kernel

theorem test_arbiterMode : after (.arbiterMode 1) pier (fun t => t.arbiter.mode) = some .rotating := by decide +kernel

theorem test_setBottom :
    after (.setBottom 2) pier (fun t => (t.arbiter.lastOrdinary, t.arbiter.lastAssisted)) = some (some 2, none) := by
  decide +kernel

/-- 7.4: the POLL LANES of the example, while lane 7's decision is served. -/
theorem test_pollLanes :
    after .pollLanes
      { pier with
        engine := .deciding { fresh with lane := 7 }
        arbiter := { Arbiter.reset with
          tapPending := #v[true, true, false, true, false, false, false, false, false, false, false, false]
          mode := .rotating, lastOrdinary := some 7, lastAssisted := some 9 } } results
      = some (([11, 0, 0, 0, 1, 7, 1, 7, 9] : List Word).map .data ++ [.done 9]) := by decide +kernel

theorem test_watchSet :
    after (.watchSet .whole) (serving .watchSet [2, 0, 0, 3070, 2] pier) (fun t => t.watch[(2 : Fin 4)])
      = some (some ⟨3070, .hold⟩) := by decide +kernel

theorem test_watchClear :
    after (.watchClear .whole) (serving .watchClear [4] pier) results = some [.reject .badOperand] := by decide +kernel

theorem test_watchRead :
    after (.watchRead .whole) (serving .watchRead [] { pier with watch := pier.watch.set 1 (some ⟨3070, .note⟩) })
      (fun t => (results t).take 8) = some (([0, 0, 0, 0, 0, 0, 3070, 1] : List Word).map .data) := by decide +kernel

/-- The attention unit of 9.3 at step 5. -/
def attention : Attention :=
  { causes := ((Attention.reset.causes.set 0 ⟨true, 1, (0, 4)⟩).set 5 ⟨true, 1, (1, 4465)⟩).set 9 ⟨true, 2, (0, 2)⟩
    mask := 512
    line := true }

/-- 9.3, step 6: the set 545, the mask 512, and the words of MEMORY FAULT. -/
theorem test_attentionRead :
    after .attentionRead { pier with attention := attention }
      (fun t => ((results t).take 2, ((results t).drop 17).take 3, (results t).length))
      = some ([.data 545, .data 512], [.data 1, .data 1, .data 4465], 36) := by decide +kernel

/-- 9.3, step 7: the line is released, LANE FAULT staying pending under the mask. -/
theorem test_attentionAck :
    after (.attentionAck 33) { pier with attention := attention }
      (fun t => (t.attention.line, t.attention.causes[(9 : Fin 11)])) = some (false, ⟨true, 2, (0, 2)⟩) := by
  decide +kernel

/-- 9.3, step 8: unmasked, LANE FAULT asserts the line. -/
theorem test_attentionMask :
    after (.attentionMask 0) { pier with attention := { attention with line := false } } (fun t => t.attention.line)
      = some true := by decide +kernel

/-- 9.4 late in the pass, from nearer by: the sweep goes on past slot 4,095 and stops at slot 9. -/
theorem test_sweepNext :
    after (.sweepNext .whole)
      (serving .sweepNext [] { pier with sweepCursor := 4094, mem := Memory.writeSlot [] 9 (encodeRecord charged) })
      (fun t => (t.sweepCursor, (results t).length, Memory.verdict t.mem 9))
      = some (10, 21, .live { charged with changed := false }) := by decide +kernel

/-- 9.4, step 3: the sweep stops at the faulty slot 130. -/
theorem test_sweepNext_fault :
    after (.sweepNext .whole)
      (serving .sweepNext [] { pier with sweepCursor := 129, mem := Memory.putSlot [] 130 (Vector.replicate 16 0) })
      (fun t => (results t, t.sweepCursor, t.attention.causes[(5 : Fin 11)]))
      = some ([.reject .fault], 131, ⟨true, 1, (0, 130)⟩) := by decide +kernel

/-- 1.1 R1, by hand: a decayed slot faults. -/
theorem test_slotDecay :
    after (.slotDecay 4090 (Vector.replicate 16 0)) pier (fun t => Memory.verdict t.mem 4090) = some .fault := by
  decide +kernel

/-! ### Witnesses: what each statement supposes is met -/

/-- Bucket 1,022 of a table with P = 1, full of other cards that hash to it. -/
def fourOthers : List Host.Cell :=
  Memory.writeSlot (Memory.writeSlot (Memory.writeSlot (Memory.writeSlot [] 4088
    (encodeRecord { record with card := 1022 })) 4089 (encodeRecord { record with card := 2046 })) 4090
    (encodeRecord { record with card := 4094 })) 4091 (encodeRecord { record with card := 5118 })

/-- The pier with one lane in place of lane 3. -/
def withLane (p : LanePort) : State := pier.setLane 3 p

/-- The empty queue, and a command in front of another. -/
theorem witness_StepRunsFrontCommand : pier.pending = [] ∧ { pier with pending := [.nop] }.pending = .nop :: [] :=
  ⟨rfl, rfl⟩

/-- Both levels of the reset line, a free link, and a keep that is and is not valid. -/
theorem witness_WarmResetTaken :
    pier.resetLine = false ∧ { pier with resetLine := true }.resetLine = true ∧ pier.takesCommand = true
    ∧ pier.keepValid = false ∧ { pier with keepValid := true }.keepValid = true := by decide +kernel

/-- Minutes 0, 1,917, 1,918 and 1,919, minute operands 1,919 and 1,920, days 65,534 and 65,535. -/
theorem witness_ClockMoves :
    State.reset.clock.minute = 0 ∧ State.reset.takesCommand = true ∧ pier.takesCommand = true
    ∧ { pier with clock := ⟨65534, 1917, 59⟩ }.clock.minute ≤ 1917
    ∧ { pier with clock := ⟨65534, 1918, 59⟩ }.clock.minute = 1918
    ∧ { pier with clock := ⟨65534, 1919, 59⟩ }.clock.day < 65535
    ∧ { pier with clock := ⟨65535, 1919, 59⟩ }.clock.minute = 1919
    ∧ (1919 : Word).toNat ≤ 1919 ∧ 1919 < (1920 : Word).toNat
    ∧ { pier with clock := ⟨65535, 1919, 59⟩ }.clock.day = 65535 := by decide +kernel

/-- A minute event follows a CLOCK READ; the part in service with the link free. -/
theorem witness_ClockAndBerthRead :
    pier.takesCommand = true ∧ pier.inService = true
    ∧ (after .clockRead pier (fun t => (after .minuteEvent t (·.link)).isSome)) = some true := by decide +kernel

/-- What is in reception that a message can and cannot complete: nothing, all of its frame but the check byte, the
beginning of another frame, and its own frame whole. -/
theorem witness_frames_completed :
    (pier.lane 3).canComplete (.tap 3070) = true ∧ (receiving 1).canComplete (.tap 3070) = true
    ∧ { idle with reception := some ⟨[1, 6, 0, 0, 0, 0, 11, 254], 0⟩ }.canComplete (.tap 3070) = true
    ∧ { idle with reception := some ⟨[1, 6, 0, 0, 0, 0, 11, 255], 0⟩ }.canComplete (.tap 3070) = false
    ∧ { idle with reception := some ⟨(GateMessage.tap 3070).afterStart, 0⟩ }.canComplete (.tap 3070) = false
    ∧ (receiving 0).canComplete .passed = false ∧ (passing.lane 3).canComplete .passed = true
    ∧ { idle with reception := some ⟨[2, 0], 0⟩ }.canComplete .passed = true
    ∧ (receiving 0).canComplete .walkaway = false ∧ (passing.lane 3).canComplete .walkaway = true
    ∧ (receiving 0).canComplete .cancel = false ∧ (judging.lane 3).canComplete .cancel = true := by decide +kernel

/-- A lane in each of the states that a TAP meets, in and out of service, with invalid, least and greatest valid
card numbers, and the engine idle and busy; none has a frame in reception (`witness_frames_completed`). -/
theorem witness_TapJudged :
    (∀ l : Lane, (pier.lane l).reception = none ∧ (passing.lane l).reception = none) ∧
    ((withLane { idle with state := .down }).lane 3).state = .down
    ∧ (pier.lane 3).state = .idle ∧ pier.service = .serving ∧ { pier with service := .halting }.service ≠ .serving
    ∧ (passing.lane 3).state ≠ .down ∧ (passing.lane 3).state ≠ .idle ∧ passing.service = .serving
    ∧ { passing with service := .halting }.service ≠ .serving
    ∧ ((0 : CardNumber) = 0 ∨ (0 : CardNumber) = 281474976710655#48)
    ∧ (1 : CardNumber) ≠ 0 ∧ (281474976710654#48 : CardNumber) ≠ 281474976710655#48
    ∧ pier.engine = .idle ∧ pier.arbiter.quiet = true ∧ boarding.engine ≠ .idle
    ∧ (boarding.lane 4).state = .idle ∧ boarding.service = .serving := by decide +kernel

/-- AWAITING with the engine idle and busy; IDLE and DOWN with expired-last set; every other case; none with a
frame in reception (`witness_frames_completed`). -/
theorem witness_PassedJudged :
    (passing.lane 3).state = .awaiting ∧ passing.engine = .idle ∧ passing.arbiter.quiet = true
    ∧ { passing with engine := .deciding { fresh with lane := 0 } }.engine ≠ .idle
    ∧ ((withLane { idle with expiredLast := true }).lane 3).state = .idle
    ∧ ((withLane { idle with expiredLast := true }).lane 3).expiredLast = true
    ∧ ((withLane { idle with state := .down, expiredLast := true }).lane 3).state = .down
    ∧ (pier.lane 3).state ≠ .awaiting
    ∧ ¬(((pier.lane 3).state = .idle ∨ (pier.lane 3).state = .down) ∧ (pier.lane 3).expiredLast = true) := by
  decide +kernel

/-- A lane in each of the six states, none with a frame in reception (`witness_frames_completed`). -/
theorem witness_OpenVerdictEnds :
    (passing.lane 3).state = .awaiting ∧ (pier.lane 3).state ≠ .awaiting
    ∧ ((withLane { idle with state := .pending, tapped := some 1 }).lane 3).state = .pending
    ∧ (judging.lane 3).state = .deciding ∧ (pier.lane 3).state = .idle
    ∧ ((withLane { idle with state := .down }).lane 3).state = .down ∧ (boarding.lane 3).state = .committing := by
  decide +kernel

/-- Each kind of bad frame, at the first byte and at the last; beginnings of a frame; bytes between frames; bytes
that complete a frame and that do not; and a frame before and at its last second event. -/
theorem witness_FramesDiscarded :
    (pier.lane 3).reception = none ∧ (withLane (receiving 0)).lane 3 = receiving 0
    ∧ (receiving 0).reception = some ⟨[1, 6], 0⟩ ∧ (receiving 1).reception = some ⟨[1, 6], 1⟩
    ∧ (hear (receiving 1).reception (framed [0, 0] ++ framed [0, 0])).messages = []
    ∧ (hear (receiving 1).reception (framed [0, 0, 0, 0, 11, 254, 242])).messages ≠ []
    ∧ (⟨193, false⟩ : RxByte) ≠ ⟨193, true⟩ ∧ (⟨194, true⟩ : RxByte) ≠ ⟨193, true⟩ ∧ framed [1] ≠ framed [1, 6]
    ∧ 0 < (GateMessage.tap 3070).afterStart.length ∧ 8 < (GateMessage.tap 3070).afterStart.length
    ∧ (∀ kind ∈ [(0 : Byte), 5, 9, 255], kind ≠ 1 ∧ kind ≠ 2 ∧ kind ≠ 3 ∧ kind ≠ 4)
    ∧ (5 : Byte) ≠ BitVec.ofNat 8 (GateMessage.tap 3070).payload.length
    ∧ (1 : Byte) ≠ BitVec.ofNat 8 GateMessage.cancel.payload.length
    ∧ (243 : Byte) ≠ frameCheck (GateMessage.tap 3070).kind (GateMessage.tap 3070).payload
    ∧ 1 < (GateMessage.tap 3070).received.length ∧ 9 < (GateMessage.tap 3070).received.length
    ∧ 3 < GateMessage.passed.received.length := by decide +kernel

/-- Sendable verdicts at the ends of their ranges. -/
theorem witness_FramesAgree :
    Message.Sendable (.verdict ⟨none, ⟨16777215, -32768, true, true⟩, 65535, 65535⟩)
    ∧ Message.Sendable (.verdict ⟨some .insufficient, ⟨0, 32767, true, false⟩, 0, 0⟩)
    ∧ Message.Sendable (.laneState true) := by
  unfold Message.Sendable; decide +kernel

/-- Queues of none, three and four messages. -/
theorem witness_MessagesAndOccurrences :
    (pier.lane 3).queue = []
    ∧ ((withLane { idle with queue := List.replicate 3 (.laneState true) }).lane 3).queue.length ≤ 3
    ∧ 4 ≤ ((withLane { idle with queue := List.replicate 4 (.laneState true) }).lane 3).queue.length
    ∧ ((withLane { idle with queue := [.laneState true] }).lane 3).queue = .laneState true :: [] := by decide +kernel

/-- Each lane state, HALTING and not, and lane words 12 and 65,535. -/
theorem witness_LaneOpenAndClose :
    pier.takesCommand = true ∧ pier.inService = true ∧ passing.takesCommand = true ∧ passing.inService = true
    ∧ ((withLane { idle with state := .down }).lane 3).state = .down ∧ pier.service ≠ .halting
    ∧ { pier with service := .halting }.inService = true ∧ (pier.lane 3).state ≠ .down ∧ (pier.lane 3).state = .idle
    ∧ ((withLane { idle with state := .pending, tapped := some 1 }).lane 3).state = .pending
    ∧ (judging.lane 3).state = .deciding ∧ (passing.lane 3).state = .awaiting ∧ (boarding.lane 3).state = .committing
    ∧ 12 ≤ (12 : Word).toNat ∧ 12 ≤ (65535 : Word).toNat := by decide +kernel

/-- Timers 1 and 60, 0 and 61, and each operand at its first value out of range. -/
theorem witness_LaneSetTaken :
    pier.takesCommand = true ∧ pier.inService = true ∧ (11 : Word) = word (11 : Lane).val ∧ (3 : Word) = word (3 : Berth).val
    ∧ (1 : Word) = word LaneKind.unsensed.code ∧ (1 : Word) = word LaneClass.assisted.code
    ∧ 1 ≤ (1 : Word).toNat ∧ (60 : Word).toNat ≤ 60
    ∧ ((withLane { idle with state := .down }).lane 3).state = .down ∧ (pier.lane 3).state ≠ .down
    ∧ 12 ≤ (12 : Word).toNat ∧ 4 ≤ (4 : Word).toNat ∧ 2 ≤ (2 : Word).toNat ∧ (0 : Word).toNat = 0
    ∧ 60 < (61 : Word).toNat := by decide +kernel

/-- A lane with and without an open verdict; masks 4,095 and 4,096; departure word 16. -/
theorem witness_LaneAndDepartureRead :
    passing.takesCommand = true ∧ passing.inService = true ∧ (passing.lane 0).openVerdict = none
    ∧ (passing.lane 3).openVerdict = some verdict ∧ 12 ≤ (12 : Word).toNat ∧ (4095 : Word).toNat ≤ 4095
    ∧ 16 ≤ (16 : Word).toNat ∧ 4096 ≤ (4096 : Word).toNat := by decide +kernel

/-- Capacities 1 and 400 with margins up to them, a follow-on that fits and one that does not, each state of a
departure, and each operand at its first value out of range. -/
theorem witness_DepartureDefinedOpenedClosed :
    pier.takesCommand = true ∧ pier.inService = true ∧ 1 ≤ (1 : Word).toNat ∧ (400 : Word).toNat ≤ 400
    ∧ (1 : Word).toNat ≤ (1 : Word).toNat ∧ (pier.dep 4).state = .empty ∧ (pier.dep 5).state ≠ .empty
    ∧ (pier.dep 5).state = .boarding ∧ (pier.dep 5).berth = 2 ∧ (pier.dep 6).state ≠ .boarding
    ∧ ((pier.setDep 5 { sailing with state := .scheduled, boarded := 0 }).dep 5).state = .scheduled
    ∧ (pier.dep 5).state ≠ .scheduled ∧ ¬((pier.dep 4).state = .scheduled ∨ (pier.dep 4).state = .boarding)
    ∧ pier.berth (pier.dep 5).berth = some 5
    ∧ 16 ≤ (16 : Word).toNat ∧ 4 ≤ (4 : Word).toNat ∧ 8 ≤ (8 : Word).toNat ∧ (0 : Word).toNat = 0
    ∧ 400 < (401 : Word).toNat ∧ (5 : Word).toNat < (6 : Word).toNat
    ∧ (16 ≤ (65534 : Word).toNat ∧ (65534 : Word) ≠ 65535#16) ∧ 2 ≤ (2 : Word).toNat := by decide +kernel

/-- SET CAPACITY at what has boarded and one below it, each state a command of this statement asks for, a
follow-on that fits and one that does not, and each operand at its first value out of range. -/
theorem witness_DepartureChanged :
    pier.takesCommand = true ∧ pier.inService = true
    ∧ (pier.dep 5).state = .boarding ∧ (passing.dep 5).boarded + (passing.dep 5).held ≤ (2 : Word).toNat
    ∧ (1 : Word).toNat < (passing.dep 5).boarded + (passing.dep 5).held
    ∧ (1 ≤ (1 : Word).toNat ∧ (400 : Word).toNat ≤ 400 ∧ (400 : Word).toNat ≤ (400 : Word).toNat)
    ∧ ¬(1 ≤ (0 : Word).toNat) ∧ ¬((401 : Word).toNat ≤ 400) ∧ ¬((2 : Word).toNat ≤ (1 : Word).toNat)
    ∧ ¬((pier.dep 4).state = .scheduled ∨ (pier.dep 4).state = .boarding)
    ∧ (4 : DepIx) ≠ 5 ∧ ((pier.setDep 4 { sailing with state := .scheduled, boarded := 0 }).dep 4).berth = (pier.dep 5).berth
    ∧ (pier.dep 6).berth ≠ (pier.dep 5).berth
    ∧ ((pier.setDep 5 { sailing with state := .closed }).dep 5).state = .closed
    ∧ ((pier.setDep 5 { sailing with state := .closed }).dep 5).held = 0
    ∧ ((pier.setDep 5 { sailing with state := .closed, held := 1 }).dep 5).held ≠ 0 ∧ (pier.dep 5).state ≠ .closed
    ∧ (pier.dep 5).berth = 2 ∧ (pier.dep 5).berth ≠ 1 ∧ (pier.dep 4).berth = 0
    ∧ 16 ≤ (16 : Word).toNat ∧ (16 : Word) ≠ 65535#16 ∧ 4 ≤ (4 : Word).toNat := by decide +kernel

/-- A berth without a current departure, a full one, one with a last place, and an auto-start follow-on. -/
theorem witness_HoldsLand :
    pier.holdTarget 0 = .error .noBoarding
    ∧ (pier.setDep 5 { sailing with boarded := 400 }).holdTarget 2 = .error .full
    ∧ (pier.setDep 5 { sailing with boarded := 399 }).holdTarget 2 = .ok 5
    ∧ ((pier.setDep 5 { sailing with boarded := 400, followOn := some 4 }).setDep 4
        { sailing with state := .scheduled, boarded := 0 }).holdTarget 2 = .ok 4 := by
  exact ⟨rfl, rfl, rfl, rfl⟩

/-- A lane of each class, and words 2 and 12. -/
theorem witness_ArbiterCommanded :
    pier.takesCommand = true ∧ pier.inService = true ∧ (pier.lane 3).cls = .ordinary
    ∧ ((withLane { idle with cls := .assisted }).lane 3).cls = .assisted ∧ 2 ≤ (2 : Word).toNat
    ∧ 12 ≤ (12 : Word).toNat ∧ State.reset.takesCommand = true := by decide +kernel

/-- Each request as the next grant, with the engine idle, and none. -/
theorem witness_GrantsInOrder :
    pier.engine = .idle ∧ pier.nextGrant = none ∧ boarding.engine ≠ .idle
    ∧ { pier with arbiter := { pier.arbiter with clearingRequest := true } }.nextGrant = some .clearing
    ∧ { pier with arbiter := { pier.arbiter with commitPending := pier.arbiter.commitPending.set 11 true } }.nextGrant
      = some (.commit 11)
    ∧ { linked (.executing .cardFind [0, 0, 3070, 8] false) pier with
        arbiter := { pier.arbiter with hostRequest := true } }.nextGrant = some .host
    ∧ { pier with arbiter := { pier.arbiter with tapPending := pier.arbiter.tapPending.set 0 true } }.nextGrant
      = some (.tap 0) := by decide +kernel

/-- Cause sets 0, 2,047 and 2,048. -/
theorem witness_AttentionCommanded :
    pier.takesCommand = true ∧ (0 : Word).toNat ≤ 2047 ∧ (2047 : Word).toNat ≤ 2047 ∧ 2047 < (2048 : Word).toNat := by
  decide +kernel

/-- Each service state, and k and P at and beyond the ends of their ranges. -/
theorem witness_StartTaken :
    State.reset.takesCommand = true ∧ State.reset.service = .unstarted ∧ { pier with service := .halted }.service = .halted
    ∧ { pier with service := .resumable }.service = .resumable ∧ pier.service = .serving
    ∧ { pier with service := .clearing }.service = .clearing ∧ { pier with service := .halting }.service = .halting
    ∧ 10 ≤ (10 : Word).toNat ∧ (18 : Word).toNat ≤ 18 ∧ 1 ≤ (1 : Word).toNat ∧ (8 : Word).toNat ≤ 8
    ∧ State.reset.engine = .idle ∧ pier.engine = .idle
    ∧ (9 : Word).toNat < 10 ∧ 18 < (19 : Word).toNat ∧ (0 : Word).toNat = 0 ∧ 8 < (9 : Word).toNat := by
  decide +kernel

/-- Each service state with the link free. -/
theorem witness_ServiceCommanded :
    ∀ v ∈ [Service.resumable, .unstarted, .clearing, .serving, .halting, .halted],
      { pier with service := v }.takesCommand = true ∧ { pier with service := v }.service = v := by decide +kernel

/-- SERVING, HALTING and HALTED. -/
theorem witness_HaltTaken :
    pier.takesCommand = true ∧ pier.service = .serving ∧ { passing with service := .halting }.takesCommand = true
    ∧ { passing with service := .halting }.service = .halting ∧ { pier with service := .halted }.service = .halted := by
  decide +kernel

/-- Each phase of the link, each kind of entry in front, and a transfer in progress. -/
theorem witness_TransferBegins :
    pier.link.transfer = none ∧ pier.link.phase = .ready
    ∧ { pier with link := ⟨.collecting .deny 3 [], none⟩ }.link.phase = .collecting .deny 3 []
    ∧ { pier with link := ⟨.executing .watchRead [] true, none⟩ }.link.phase = .executing .watchRead [] true
    ∧ { pier with link := ⟨.results [.data 1, .done 1], none⟩ }.link.phase = .results (.data 1 :: [.done 1])
    ∧ { pier with link := ⟨.results [.done 0], none⟩ }.link.phase = .results (.done 0 :: [])
    ∧ { pier with link := ⟨.results [.reject .fault], none⟩ }.link.phase = .results (.reject .fault :: [])
    ∧ (linked .ready pier).link.transfer ≠ none := by decide +kernel

/-- A transfer over READY; unknown codes; commands of none, one and eighteen operands. -/
theorem witness_WordsTaken_ready :
    (linked .ready pier).link.transfer = some ⟨0, false⟩ ∧ (linked .ready pier).link.phase = .ready
    ∧ Cmd.ofCode 0 = none ∧ Cmd.ofCode 3 = none ∧ Cmd.ofCode 137 = none ∧ Cmd.ofCode 65535 = none
    ∧ (1 : Byte) ≠ 90 ∧ (255 : Byte) ≠ 165 ∧ (61 : Byte) ≠ 60 ∧ (1 : Byte) ≠ 0
    ∧ (16 : Word) = word Cmd.start.code ∧ 0 < Cmd.start.operands ∧ Cmd.nop.operands = 0
    ∧ directRow .nop [] = some .nop ∧ Cmd.watchRead.operands = 0 ∧ Cmd.watchRead.isEngine = true := by decide +kernel

/-- A transfer over RESULTS, whose queue it empties or not, and over COLLECTING with one operand and with more
still expected. -/
theorem witness_WordsTaken_results_and_collecting :
    (linked (.results [.done 0]) pier).link = ⟨.results [.done 0], some ⟨0, false⟩⟩
    ∧ ([.done 0] : List Entry).tail = [] ∧ ([.data 1, .done 1] : List Entry).tail ≠ []
    ∧ (linked (.collecting .cardAdd 18 []) pier).link = ⟨.collecting .cardAdd 18 [], some ⟨0, false⟩⟩
    ∧ (linked (.collecting .setTime 1 []) pier).link = ⟨.collecting .setTime 1 [], some ⟨0, false⟩⟩
    ∧ directRow .setTime ([] ++ [5]) = some (.setTime 5)
    ∧ (linked (.collecting .enforce 1 []) pier).link = ⟨.collecting .enforce 1 [], some ⟨0, false⟩⟩
    ∧ Cmd.enforce.isEngine = true := by decide +kernel

/-- A transfer over EXECUTING: a request that waits, one that is served, and one that an ABORT has met. -/
theorem witness_WordsTaken_executing :
    (linked (.executing .enforce [1] true) pier).link = ⟨.executing .enforce [1] true, some ⟨0, false⟩⟩
    ∧ { linked (.executing .enforce [1] false) boarding with
        arbiter := { pier.arbiter with hostRequest := true } }.arbiter.hostRequest = true
    ∧ (linked (.executing .enforce [1] false) pier).arbiter.hostRequest = false := by decide +kernel

/-- Commands without operands and with the most operands of the DIRECT ones. -/
theorem witness_LinkDeliversDirect :
    directRow .berthRead [] = some .berthRead ∧ ([] : List Word).length = Cmd.berthRead.operands
    ∧ directRow .departureDefine [4, 2, 5, 1715, 6, 2, 5, 0] = some (.departureDefine 4 2 5 1715 6 2 5 0)
    ∧ ([4, 2, 5, 1715, 6, 2, 5, 0] : List Word).length = Cmd.departureDefine.operands
    ∧ directRow .clockRead [] = some .clockRead ∧ directRow .restart [] = some .restart := by decide +kernel

/-- A record command and a fare command in every service state, with the engine idle and busy, and over each phase
of the link. -/
theorem witness_LinkDeliversEngine :
    Cmd.cardAdd.isEngine = true ∧ (cardAddWords record).length = Cmd.cardAdd.operands ∧ Cmd.cardAdd.group = .record
    ∧ Cmd.fareRead.isEngine = true ∧ ([3] : List Word).length = Cmd.fareRead.operands ∧ Cmd.fareRead.group = .fare
    ∧ pier.takesCommand = true ∧ (linked (.results [.data 1, .done 1]) pier).takesCommand = true
    ∧ (linked (.collecting .setTime 1 []) pier).link.phase = .collecting .setTime 1 []
    ∧ (serving .deny [0, 0, 1] pier).linkFree = false
    ∧ pier.inService = true ∧ { pier with service := .clearing }.service = .clearing
    ∧ State.reset.service = .unstarted ∧ State.reset.takesCommand = true
    ∧ { pier with service := .resumable }.service = .resumable
    ∧ pier.engine = .idle ∧ pier.arbiter.quiet = true ∧ boarding.engine ≠ .idle ∧ boarding.takesCommand = true := by
  decide +kernel

/-- Each phase with no transfer in progress, a result queue of two entries, one and none among them. -/
theorem witness_NopAndIdentify :
    State.reset.takesCommand = true ∧ pier.link.transfer = none ∧ pier.link.phase = .ready
    ∧ (∀ q ∈ [[Entry.data 1, .done 1], [.reject .fault], []], { pier with link := ⟨.results q, none⟩ }.link = ⟨.results q, none⟩)
    ∧ { pier with link := ⟨.collecting .newDay 1 [], none⟩ }.link.transfer = none
    ∧ { pier with link := ⟨.collecting .newDay 1 [], none⟩ }.link.phase = .collecting .newDay 1 []
    ∧ { pier with link := ⟨.executing .deny [0, 0, 1] false, none⟩ }.link.phase = .executing .deny [0, 0, 1] false := by
  decide +kernel

theorem witness_DirectJudged :
    directRow .laneOpen [0] = some (.laneOpen 0) ∧ Cmd.laneOpen.group = .service ∧ State.reset.takesCommand = true
    ∧ (linked (.collecting .setTime 1 []) pier).link.phase = .collecting .setTime 1 []
    ∧ State.reset.service = .unstarted ∧ { pier with service := .resumable }.service = .resumable
    ∧ { pier with service := .clearing }.service = .clearing ∧ (serving .deny [0, 0, 1] pier).linkFree = false := by
  decide +kernel

/-- A decision, a commit and a host request in service, and an engine that serves none of them. -/
theorem witness_OperationsMoveByStages :
    judging.engine = .deciding fresh ∧ fresh.stage ≠ .decisionEnd
    ∧ boarding.engine = .committing ⟨3, .count, none⟩ ∧ CommitStage.count ≠ .commitEnd
    ∧ (serving .enforce [1] pier).hosts .enforce [1]
    ∧ engineRow .enforce (.stages 1) = some (.enforce (.stages 1)) ∧ engineRow .enforce .whole = some (.enforce .whole)
    ∧ pier.engine.decision = none ∧ pier.engine.commit = none ∧ pier.engine.clearingAt = none := by
  unfold State.hosts; decide +kernel

/-- No entry of the pier's watch list is present. -/
theorem witness_watch_list : WatchLegal pier.watch := by
  intro i e h
  have none_present : ∀ i : Fin 4, pier.watch[i] = none := by decide +kernel
  rw [none_present i] at h; cases h

/-- Card 3,070 on the watch list, at entry 1. -/
def watched (mode : WatchMode) : State := { judging with watch := judging.watch.set 1 (some ⟨3070, mode⟩) }

/-- The only entry of that list that is present names a valid card. -/
theorem witness_watched (mode : WatchMode) : WatchLegal (watched mode).watch := by
  intro i e h
  have present : ∀ i : Fin 4, i ≠ 1 → (watched mode).watch[i] = none := by cases mode <;> decide +kernel
  have only : ∀ (j : Fin 4) (f : WatchEntry), (watched mode).watch[j] = some f → j = 1 := by
    intro j f hf
    by_contra other
    rw [present j other] at hf; cases hf
  obtain rfl := only i e h
  have entry : (watched mode).watch[(1 : Fin 4)] = some ⟨3070, mode⟩ := rfl
  rw [entry] at h
  cases h
  exact ⟨(by decide +kernel : validCard 3070 = true), fun j f hf _ => only j f hf⟩

/-- The attention causes that a decision's stages raise: WATCH HIT in both modes, MEMORY FAULT and TABLE FULL. -/
theorem witness_tapEvents :
    (watched .hold).tapReason fresh = some .watch ∧ (watched .note).tapReason fresh = none
    ∧ ((watched .hold).tapEvents fresh).causes[(3 : Fin 11)] = ⟨true, 1, (3, 1)⟩
    ∧ ((watched .note).tapEvents fresh).causes[(3 : Fin 11)] = ⟨true, 1, (3, 1)⟩
    ∧ { judging with mem := Memory.putSlot [] 4091 (Vector.replicate 16 0) }.tapReason fresh = some .fault
    ∧ ({ judging with mem := Memory.putSlot [] 4091 (Vector.replicate 16 0) }.tapEvents fresh).causes[(5 : Fin 11)]
      = ⟨true, 1, (0, 4091)⟩
    ∧ (judging.tapEvents fresh).causes[(2 : Fin 11)] = ⟨false, 0, (0, 0)⟩ := by decide +kernel

/-- A window without a FREE slot and without the card: TABLE FULL names its home bucket. -/
theorem witness_tapEvents_tableFull :
    let full : State := { judging with
      geometry := ⟨10, 1⟩
      fares := { FareTables.reset with policy := .provisional }
      mem := fourOthers }
    full.tapReason fresh = some .tableFull
    ∧ (full.tapEvents fresh).causes[(4 : Fin 11)] = ⟨true, 1, (0, 1022)⟩ := by decide +kernel

/-- A refusal by the latch, by INSUFFICIENT, with and without a cancel noted, and an OPEN result turned to
CANCELLED, on a found record and on one built (with `witness_tapEvents` and `witness_watched`). -/
theorem witness_DecisionRefuses :
    judging.engine = .deciding fresh ∧ fresh.Fresh ∧ WatchLegal judging.watch
    ∧ { judging with mem := Memory.writeSlot [] 4090 (encodeRecord charged) }.tapReason fresh = some .overdrawn
    ∧ { judging with fares := { tables with allowances := FareTables.reset.allowances } }.tapReason fresh
      = some .insufficient
    ∧ (judging.lane 3).cancelNoted = false
    ∧ ((judging.setLane 3 { judging.lane 3 with cancelNoted := true }).lane 3).cancelNoted = true
    ∧ (judging.setLane 3 { judging.lane 3 with cancelNoted := true }).tapReason fresh = none
    ∧ { judging with
        mem := [], fares := { FareTables.reset with policy := .provisional } }.tapReason fresh = none := by
  refine ⟨by decide +kernel, by unfold Decision.Fresh; decide +kernel, witness_watch_list, ?_⟩
  decide +kernel

/-- The decision of the example, on its record, landing on departure 5; with the card on the watch list in NOTE mode
it opens too (`witness_tapEvents`). -/
theorem witness_DecisionOpens :
    judging.engine = .deciding fresh ∧ fresh.Fresh ∧ WatchLegal judging.watch
    ∧ judging.tapReason fresh = none
    ∧ judging.tapRecord fresh = .ok (4090, record, false) ∧ judging.holdTarget (judging.lane fresh.lane).berth = .ok 5
    ∧ (judging.lane fresh.lane).cancelNoted = false := by
  refine ⟨by decide +kernel, by unfold Decision.Fresh; decide +kernel, witness_watch_list,
    by decide +kernel, ?_, rfl, by decide +kernel⟩
  have found : lookupSlots judging.mem fresh.card (windowSlots judging.geometry fresh.card) none none
      = .found 4090 record (some 4088) := by decide +kernel
  unfold State.tapRecord; rw [found]

/-- Tables of the manual's case: a journey that is credited and one that is not, a cap and none. -/
theorem witness_FareStages :
    tables.Legal ∧ record.product = .purse ∧ { record with product := .staff }.product ≠ .purse
    ∧ record.journey = some ⟨212, 1090, 2, 300⟩
    ∧ (0 < tables.transferWindow ∧ 1100 ≤ 1090 + tables.transferWindow ∧ (2 : RouteClass) ≠ 5)
    ∧ ¬(1151 ≤ 1090 + tables.transferWindow) := by
  unfold FareTables.Legal; decide +kernel

/-- The commit of the example; a slot that holds the card, a slot fault, and a FREE slot. -/
theorem witness_CommitTaken :
    boarding.engine = .committing ⟨3, .count, none⟩ ∧ (boarding.lane 3).openVerdict = some verdict
    ∧ (boarding.dep verdict.departure).state ≠ .empty
    ∧ Memory.wf boarding.mem = true ∧ Memory.verdict boarding.mem verdict.slot = .live record
    ∧ record.card = verdict.card ∧ Memory.verdict [] verdict.slot = .free
    ∧ Memory.verdict (Memory.putSlot [] 4090 (Vector.replicate 16 0)) verdict.slot = .fault := by decide +kernel

/-- Clearing at its first slot, at its last, and at the end of the table. -/
theorem witness_ClearingTaken :
    { pier with engine := .clearing 0 }.engine = .clearing 0 ∧ Memory.wf pier.mem = true
    ∧ 4095 < pier.geometry.slots ∧ pier.geometry.slots ≤ 4096 ∧ pier.arbiter.quiet = true := by decide +kernel

/-- The pier's table holds card 3,070 at slot 4,090, with slot 4,088 the first FREE one of its window. -/
theorem witness_finds : pier.finds 3070 4090 record := ⟨some 4088, by decide +kernel⟩

/-- A card the table holds (`witness_finds`), masks 0 and 1,023, a slot fault, a card it does not hold, and operands out of range. -/
theorem witness_CardCommandsLookUp :
    (serving .cardFind (cardWords 3070 ++ [1023]) pier).hosts .cardFind (cardWords 3070 ++ [1023])
    ∧ validCard 3070 = true ∧ (1023 : Word).toNat ≤ 1023
    ∧ (serving .cardFind (cardWords 3070 ++ [1023]) pier).mem = pier.mem
    ∧ (serving .cardFind (cardWords 3070 ++ [1023]) pier).geometry = pier.geometry
    ∧ Cmd.deny ∈ [Cmd.cardFind, .addValue, .setBalance, .settle, .setProduct, .deny, .allow, .cardRetire]
    ∧ engineRow .deny .whole = some (.deny .whole)
    ∧ operandsInRange .deny (cardWords 0) = false ∧ operandsInRange .cardFind (cardWords 3070 ++ [1024]) = false
    ∧ operandsInRange .deny (cardWords 3070) = true ∧ cardArg (cardWords 3070) = 3070
    ∧ lookupSlots (Memory.putSlot [] 4091 (Vector.replicate 16 0)) 3070 (windowSlots ⟨10, 3⟩ 3070) none none = .fault 4091
    ∧ lookupSlots [] 3070 (windowSlots ⟨10, 3⟩ 3070) none none = .notFound (some 4088) := by
  unfold State.hosts; decide +kernel

/-- The words of a record, words that no record reads out as, and each range at its ends and beyond. -/
theorem witness_CardAddTaken_words :
    cardAddInRange (cardAddWords record) = true ∧ cardAddInRange looseWords = true
    ∧ cardAddInRange (cardAddWords { record with balance := -5000, latch := false }) = true
    ∧ cardAddInRange (cardAddWords { record with product := .pass, fareClass := 3, passFirst := 9, passLast := 9 }) = true
    ∧ cardAddInRange (cardAddWords { record with
        balance := 999999, boardings := 65535, daySpend := 16777215, journey := some ⟨65535, 1919, 7, 16777215⟩ }) = true
    ∧ cardAddInRange ((cardAddWords record).set 2 0) = false
    ∧ cardAddInRange ((cardAddWords record).set 3 768) = false ∧ cardAddInRange ((cardAddWords record).set 3 4) = false
    ∧ cardAddInRange ((cardAddWords record).set 4 63) = false ∧ cardAddInRange ((cardAddWords record).set 10 256) = false
    ∧ cardAddInRange ((cardAddWords record).set 13 1920) = false ∧ cardAddInRange ((cardAddWords record).set 14 8) = false
    ∧ cardAddInRange ((cardAddWords record).set 15 256) = false ∧ cardAddInRange (looseWords.set 15 256) = false
    ∧ cardAddInRange (cardAddWords { record with product := .pass, passFirst := 10, passLast := 9 }) = false
    ∧ cardAddInRange (cardAddWords { record with balance := -5001 }) = false
    ∧ cardAddInRange (cardAddWords { record with balance := 1000000 }) = false
    ∧ cardAddGives (cardAddWords record) = record
    ∧ (cardAddGives (cardAddWords { record with balance := -5000, latch := false })).latch = true := by decide +kernel

/-- Each result of a lookup, for the card of those words. -/
theorem witness_CardAddTaken :
    (serving .cardAdd looseWords { pier with mem := [] }).hosts .cardAdd looseWords
    ∧ (cardAddGives looseWords).card = record.card ∧ Memory.wf pier.mem = true
    ∧ lookupSlots [] record.card (windowSlots ⟨10, 3⟩ record.card) none none = .notFound (some 4088)
    ∧ lookupSlots fourOthers record.card (windowSlots ⟨10, 1⟩ record.card) none none = .notFound none
    ∧ lookupSlots pier.mem record.card (windowSlots ⟨10, 3⟩ record.card) none none = .found 4090 record (some 4088)
    ∧ lookupSlots (Memory.putSlot [] 4091 (Vector.replicate 16 0)) record.card (windowSlots ⟨10, 3⟩ record.card) none
        none = .fault 4091 := by
  unfold State.hosts; decide +kernel

/-- Amounts 1 and 999,999, balances at the ceiling, values -5,000 and 999,999, and a balance below zero, on a card
that the table holds (`witness_finds`). -/
theorem witness_BalancesChanged :
    validCard 3070 = true ∧ Memory.wf pier.mem = true
    ∧ (serving .addValue (cardWords 3070 ++ twoWordsSigned 1) pier).hosts .addValue (cardWords 3070 ++ twoWordsSigned 1)
    ∧ record.balance + 999879 ≤ 999999 ∧ 999999 < record.balance + 999880
    ∧ (serving .setBalance (cardWords 3070 ++ twoWordsSigned (-5000)) pier).hosts .setBalance
        (cardWords 3070 ++ twoWordsSigned (-5000))
    ∧ (serving .settle (cardWords 3070) pier).hosts .settle (cardWords 3070) ∧ 0 ≤ record.balance
    ∧ lookupSlots (Memory.writeSlot [] 4090 (encodeRecord charged)) 3070 (windowSlots ⟨10, 3⟩ 3070) none none
      = .found 4090 charged (some 4088)
    ∧ charged.balance < 0 := by
  unfold State.hosts; decide +kernel

/-- Each product, pass days that are equal, and a slot in passage and one that is not, on a card that the table
holds (`witness_finds`). -/
theorem witness_RecordsChanged :
    validCard 3070 = true ∧ Memory.wf pier.mem = true
    ∧ (serving .setProduct (cardWords 3070 ++ [word (256 + 3), 9, 9]) pier).hosts .setProduct
        (cardWords 3070 ++ [word (256 + (3 : FareClass).val), 9, 9]) ∧ (9 : Word).toNat ≤ (9 : Word).toNat
    ∧ (serving .deny (cardWords 3070) pier).hosts .deny (cardWords 3070)
    ∧ (serving .allow (cardWords 3070) pier).hosts .allow (cardWords 3070)
    ∧ (serving .cardRetire (cardWords 3070) pier).hosts .cardRetire (cardWords 3070)
    ∧ (∀ l : Lane, (pier.lane l).holdsSlot 4090 = false)
    ∧ passing.mem = pier.mem ∧ passing.geometry = pier.geometry
    ∧ ∃ l : Lane, (passing.lane l).holdsSlot 4090 = true := by
  unfold State.hosts; decide +kernel

/-- Each entry at the end of its range and at its first value beyond, and band starts that rise and that do not. -/
theorem witness_FareTablesWritten :
    (serving .enforce [1] pier).hosts .enforce [1] ∧ 2 ≤ (2 : Word).toNat
    ∧ (serving .fareSetBase [7, 3, 60000] pier).hosts .fareSetBase [7, 3, 60000]
    ∧ (7 : Word) = word (7 : RouteClass).val ∧ (3 : Word) = word (3 : FareClass).val ∧ (60000 : Word).toNat ≤ 60000
    ∧ 8 ≤ (8 : Word).toNat ∧ 4 ≤ (4 : Word).toNat ∧ 60000 < (60001 : Word).toNat
    ∧ (serving .fareSetBand [2, 421, 0, 0, 0, 65535] pier).hosts .fareSetBand [2, 421, 0, 0, 0, 65535]
    ∧ (2 : Word) = word (2 : BandIx).val
    ∧ (∀ x y : BandIx, x < y →
        bandUsed x (tables.bands.set 2 ⟨421, #v[0, 0, 0, 65535]⟩)[x] = true →
        bandUsed y (tables.bands.set 2 ⟨421, #v[0, 0, 0, 65535]⟩)[y] = true →
        ((tables.bands.set 2 ⟨421, #v[0, 0, 0, 65535]⟩)[x]).start
          < ((tables.bands.set 2 ⟨421, #v[0, 0, 0, 65535]⟩)[y]).start)
    ∧ ¬(((tables.bands.set 2 ⟨420, #v[0, 0, 0, 0]⟩)[(1 : BandIx)]).start
          < ((tables.bands.set 2 ⟨420, #v[0, 0, 0, 0]⟩)[(2 : BandIx)]).start)
    ∧ ¬((1 ≤ (1920 : Word).toNat ∧ (1920 : Word).toNat ≤ 1919) ∨ (1920 : Word) = 65535#16) ∧ 6 ≤ (6 : Word).toNat
    ∧ (serving .fareSetClass [3, 65000, 5000] pier).hosts .fareSetClass [3, 65000, 5000]
    ∧ (65000 : Word).toNat ≤ 65000 ∧ (5000 : Word).toNat ≤ 5000 ∧ 65000 < (65001 : Word).toNat ∧ 5000 < (5001 : Word).toNat
    ∧ (serving .fareSetPolicy [240, 65000, 1, 3] pier).hosts .fareSetPolicy [240, 65000, 1, 3]
    ∧ (1 : Word) = word UnknownPolicy.provisional.code ∧ (240 : Word).toNat ≤ 240 ∧ 240 < (241 : Word).toNat := by
  unfold State.hosts; decide +kernel

/-- Parts 0, 3 and 4. -/
theorem witness_FaresRead :
    (serving .fareRead [0] pier).hosts .fareRead [0] ∧ (serving .fareRead [3] State.reset).hosts .fareRead [3]
    ∧ (serving .fareRead [4] pier).hosts .fareRead [4] ∧ 4 ≤ (4 : Word).toNat := by
  unfold State.hosts; decide +kernel

/-- Entries 3 and 4, a card held by no other entry and by another, and each operand out of range. -/
theorem witness_WatchListCommanded :
    (serving .watchSet (word 3 :: cardWords 3070 ++ [word WatchMode.hold.code]) pier).hosts .watchSet
        (word (3 : WatchIx).val :: cardWords 3070 ++ [word WatchMode.hold.code])
    ∧ validCard 3070 = true ∧ (∀ i : WatchIx, pier.watch[i] = none)
    ∧ { pier with watch := pier.watch.set 1 (some ⟨3070, .note⟩) }.watch[(1 : WatchIx)] = some ⟨3070, .note⟩
    ∧ 4 ≤ (4 : Word).toNat ∧ validCard 281474976710655#48 = false ∧ 3 ≤ (3 : Word).toNat
    ∧ (serving .watchClear [3] pier).hosts .watchClear [3] ∧ (3 : Word) = word (3 : WatchIx).val
    ∧ (serving .watchRead [] pier).hosts .watchRead [] := by
  unfold State.hosts; decide +kernel

/-- The last slot of the table and the one beyond, the cursor at each, a readable slot and a faulty one. -/
theorem witness_TableSoughtAndRead :
    (serving .tableSeek [0, 4095] pier).hosts .tableSeek [0, 4095]
    ∧ 65536 * (0 : Word).toNat + (4095 : Word).toNat < 4 * 2 ^ pier.geometry.k
    ∧ 4 * 2 ^ pier.geometry.k ≤ 65536 * (0 : Word).toNat + (4096 : Word).toNat
    ∧ (serving .tableRead [] { pier with tableCursor := 4095 }).hosts .tableRead []
    ∧ { pier with tableCursor := 4095 }.tableCursor < 4 * 2 ^ pier.geometry.k
    ∧ Memory.verdict pier.mem 4095 ≠ .fault
    ∧ Memory.verdict (Memory.putSlot [] 4095 (Vector.replicate 16 0)) 4095 = .fault := by
  unfold State.hosts; decide +kernel

/-- Each state indication, content that decodes and that does not, a slot outside the window, and inside it a
fault elsewhere, the card elsewhere, a slot in passage, and none of these. -/
theorem witness_TableWritten :
    (serving .tableWrite (encodeRecord record).toList { pier with tableCursor := 4090 }).hosts .tableWrite
        (encodeRecord record).toList
    ∧ { pier with tableCursor := 4090 }.tableCursor < 4 * 2 ^ pier.geometry.k ∧ Memory.wf pier.mem = true
    ∧ (freeContent[(0 : Fin 15)]).toNat % 4 = 0 ∧ ((encodeRecord record)[(0 : Fin 15)]).toNat % 4 = 1
    ∧ 2 ≤ ((freeContent.set 0 2)[(0 : Fin 15)]).toNat % 4
    ∧ decodeRecord (encodeRecord record) = some record ∧ decodeRecord (freeContent.set 0 1) = none
    ∧ 4090 ∈ windowSlots ⟨10, 3⟩ 3070 ∧ 5 ∉ windowSlots ⟨10, 3⟩ 3070
    ∧ (((windowSlots ⟨10, 3⟩ 3070).filter (· ≠ 4090)).find? fun slot =>
        Memory.verdict (Memory.putSlot [] 4091 (Vector.replicate 16 0)) slot == .fault) = some 4091
    ∧ (((windowSlots ⟨10, 3⟩ 3070).filter (· ≠ 4090)).find? fun slot => Memory.verdict pier.mem slot == .fault) = none
    ∧ (4090 ∈ (windowSlots ⟨10, 3⟩ 3070).filter (· ≠ 4091) ∧ Memory.verdict pier.mem 4090 = .live record)
    ∧ (∀ l : Lane, (pier.lane l).holdsSlot 4090 = false) ∧ (∃ l : Lane, (passing.lane l).holdsSlot 4090 = true) := by
  unfold State.hosts; decide +kernel

/-- Slots FREE, changed, unchanged and faulty under the cursor, which stands at the last slot of the table. -/
theorem witness_SweepTaken :
    (serving .sweepNext [] { pier with sweepCursor := 4095 }).hosts .sweepNext []
    ∧ { pier with sweepCursor := 4095 }.sweepCursor < 4 * 2 ^ pier.geometry.k ∧ 10 ≤ pier.geometry.k
    ∧ Memory.wf pier.mem = true ∧ (∀ slot, Memory.verdict [] slot = .free)
    ∧ Memory.verdict (Memory.writeSlot [] 4095 (encodeRecord charged)) 4095 = .live charged ∧ charged.changed = true
    ∧ Memory.verdict pier.mem 4090 = .live record ∧ record.changed = false
    ∧ Memory.verdict (Memory.putSlot [] 4095 (Vector.replicate 16 0)) 4095 = .fault := by
  refine ⟨by unfold State.hosts; decide +kernel, by decide +kernel, by decide +kernel, by decide +kernel,
    fun slot => Memory.verdict_unlisted [] slot fun _ _ _ => rfl, ?_⟩
  decide +kernel

theorem witness_SlotDecays : Memory.wf pier.mem = true ∧ 1048575 ≤ 1048575 ∧ 1048576 ≤ 1048576 := by decide +kernel

theorem witness_CheckWordWritten : Memory.wf pier.mem = true := by decide +kernel

/-- The smallest and the largest geometry; a window with a fault, with the card in one slot, and without it. -/
theorem witness_LookupDecides :
    (⟨10, 1⟩ : Geometry).Legal ∧ (⟨18, 8⟩ : Geometry).Legal
    ∧ (∀ x ∈ windowSlots ⟨10, 3⟩ 3070, Memory.verdict pier.mem x ≠ .fault)
    ∧ 4090 ∈ windowSlots ⟨10, 3⟩ 3070 ∧ Memory.verdict pier.mem 4090 = .live record
    ∧ (∀ x ∈ windowSlots ⟨10, 3⟩ 3070, x ≠ 4090 → Memory.verdict pier.mem x = .free)
    ∧ (∀ x ∈ windowSlots ⟨10, 3⟩ 1024, x ≠ 4090 ∧ Memory.verdict pier.mem x = .free)
    ∧ Memory.verdict (Memory.putSlot [] 4088 (Vector.replicate 16 0)) 4088 = .fault := by
  unfold Geometry.Legal; decide +kernel

/-- A record in range with a consistent latch, at the ends of its ranges too, and the words of one. -/
theorem witness_SlotsAgree :
    record.inRange = true ∧ record.latchConsistent = true
    ∧ { record with balance := -5000, latch := true }.inRange = true
    ∧ { record with balance := -5000, latch := true }.latchConsistent = true
    ∧ { record with card := 281474976710654#48, balance := 999999, boardings := 65535 }.inRange = true
    ∧ slotVerdict (withCheck (encodeRecord record)) = .live record := by decide +kernel

/-! ### Witnesses of the laws that every step keeps -/

/-- The pier with lane 3 AWAITING and its gate's WALKAWAY about to be taken. -/
def leaving : State := { passing with pending := [.walkaway 3] }

theorem leaving_steps : ∃ t, step leaving = .next t := ⟨_, rfl⟩

theorem witness_StepKeepsAttentionConsistent : leaving.attention.Consistent ∧ ∃ t, step leaving = .next t :=
  ⟨by unfold Attention.Consistent; decide +kernel, leaving_steps⟩

theorem witness_StepKeepsSettingsLegal : leaving.SettingsLegal ∧ ∃ t, step leaving = .next t := by
  refine ⟨⟨?_, ?_, by decide +kernel, by decide +kernel, ?_, ?_, ?_, witness_watch_list⟩, leaving_steps⟩
  · unfold Geometry.Legal; decide +kernel
  · unfold Geometry.Legal; decide +kernel
  · unfold State.KeepLegal; decide +kernel
  · unfold Clock.Legal; decide +kernel
  · unfold FareTables.Legal; decide +kernel

theorem leaving_coherent : leaving.Coherent := by
  refine ⟨?_, by decide +kernel, by decide +kernel, by decide +kernel, by decide +kernel, ?_, by decide +kernel, ?_,
    by decide +kernel, by decide +kernel, by decide +kernel, by decide +kernel, by decide +kernel, by decide +kernel,
    by decide +kernel, by decide +kernel⟩
  · unfold LanePort.Coherent; decide +kernel
  · intro d h; exact absurd (show Engine.idle = .deciding d from h) Engine.noConfusion
  · intro x h; exact absurd (show Engine.idle = .host x from h) Engine.noConfusion

theorem witness_StepKeepsCoherent : leaving.Coherent ∧ ∃ t, step leaving = .next t := ⟨leaving_coherent, leaving_steps⟩

theorem witness_StepKeepsHoldsCounted : leaving.Coherent ∧ leaving.HoldsCounted ∧ ∃ t, step leaving = .next t :=
  ⟨leaving_coherent, by unfold State.HoldsCounted Departure.Legal; decide +kernel, leaving_steps⟩

theorem witness_StepKeepsBerthsLegal : leaving.BerthsLegal ∧ ∃ t, step leaving = .next t :=
  ⟨by unfold State.BerthsLegal; decide +kernel, leaving_steps⟩

/-- Only lane 3 names a slot. -/
theorem witness_StepKeepsOneVerdictPerSlot :
    leaving.Coherent ∧ leaving.OneVerdictPerSlot ∧ ∃ t, step leaving = .next t := by
  refine ⟨leaving_coherent, ⟨?_, ?_⟩, leaving_steps⟩
  · have only : ∀ l : Lane, l ≠ 3 → (leaving.lane l).openVerdict = none := by decide +kernel
    have names : ∀ (l : Lane) (slot : Nat), (leaving.lane l).holdsSlot slot = true → l = 3 := by
      intro l slot h
      by_contra other
      rw [LanePort.holdsSlot, only l other] at h
      simp at h
    intro l m slot hl hm
    rw [names l slot hl, names m slot hm]
  · intro d h; exact absurd (show Engine.idle = .deciding d from h) Engine.noConfusion

/-- One record, at slot 4,090 of its card's window. -/
theorem witness_StepKeepsTableSound :
    leaving.SettingsLegal ∧ leaving.Coherent ∧ Memory.wf leaving.mem = true ∧ leaving.TableSound
    ∧ (∀ slot words, leaving.pending.head? ≠ some (.slotDecay slot words)) ∧ ∃ t, step leaving = .next t := by
  have only : ∀ slot card, leaving.holdsCard slot card → slot = 4090 ∧ card = 3070 := by
    rintro slot card ⟨r, live, rfl⟩
    by_cases h : slot = 4090
    · subst h
      have here : Memory.verdict leaving.mem 4090 = .live record := by decide +kernel
      rw [here] at live
      cases live
      exact ⟨rfl, rfl⟩
    · have elsewhere : Memory.verdict leaving.mem slot = .free :=
        (Memory.verdict_writeSlot_other [] 4090 slot (encodeRecord record) rfl h).trans
          (Memory.verdict_unlisted [] slot fun _ _ _ => rfl)
      rw [elsewhere] at live
      cases live
  refine ⟨witness_StepKeepsSettingsLegal.1, leaving_coherent, by decide +kernel, ⟨?_, ?_, ?_, ?_⟩, ?_, leaving_steps⟩
  · intro _ _ slot card _ h
    obtain ⟨rfl, rfl⟩ := only slot card h
    exact ⟨by decide +kernel, fun other _ there => (only other _ there).1⟩
  · intro n h; exact absurd (show Engine.idle = .clearing n from h) Engine.noConfusion
  · intro d h; exact absurd (show Engine.idle = .deciding d from h) Engine.noConfusion
  · intro g v r h; exact absurd (show Engine.idle = .committing g from h) Engine.noConfusion
  · intro slot words h; cases h

theorem witness_StepKeepsLinkLegal :
    { leaving with link := ⟨.results [.data 1, .done 1], none⟩ }.LinkLegal
    ∧ ∃ t, step { leaving with link := ⟨.results [.data 1, .done 1], none⟩ } = .next t := by
  refine ⟨⟨⟨[.data 1], .done 1, rfl, rfl, rfl, by decide⟩, ?_⟩, ⟨_, rfl⟩⟩
  intro x a h; exact absurd (show Engine.idle = .host x from h) Engine.noConfusion

theorem witness_StepKeepsMemoryCanonical : Memory.wf leaving.mem = true ∧ ∃ t, step leaving = .next t :=
  ⟨by decide +kernel, leaving_steps⟩

end Sys2Proof.Tests
end

section
namespace Sys2Proof.Machine

/-! ### What most commands leave alone -/

/-- What a command of no table, clock or watch list can do: the memory, the geometry, the cursors, the clock, the
fare tables and the watch list stay, the keep flag is not raised, UNSTARTED and CLEARING are not entered, no lane
comes to hold a slot, and no decision passes the in-passage stage. -/
structure State.Quiet (s t : State) : Prop where
  mem : t.mem = s.mem
  geometry : t.geometry = s.geometry
  kept : t.kept = s.kept
  tableCursor : t.tableCursor = s.tableCursor
  sweepCursor : t.sweepCursor = s.sweepCursor
  clock : t.clock = s.clock
  fares : t.fares = s.fares
  watch : t.watch = s.watch
  keepValid : t.keepValid = true → s.keepValid = true
  service : t.service = s.service ∨ (t.service ≠ .unstarted ∧ t.service ≠ .clearing)
  holds : ∀ l slot, (t.lane l).holdsSlot slot = true → (s.lane l).holdsSlot slot = true
  passed : ∀ d, t.engine = .deciding d → d.passedInPassage = true → s.engine = .deciding d

namespace State.Quiet

@[refl] theorem refl (s : State) : s.Quiet s :=
  ⟨rfl, rfl, rfl, rfl, rfl, rfl, rfl, rfl, id, .inl rfl, fun _ _ h => h, fun _ h _ => h⟩

@[trans] theorem trans {s t u : State} (a : s.Quiet t) (b : t.Quiet u) : s.Quiet u where
  mem := b.mem.trans a.mem
  geometry := b.geometry.trans a.geometry
  kept := b.kept.trans a.kept
  tableCursor := b.tableCursor.trans a.tableCursor
  sweepCursor := b.sweepCursor.trans a.sweepCursor
  clock := b.clock.trans a.clock
  fares := b.fares.trans a.fares
  watch := b.watch.trans a.watch
  keepValid h := a.keepValid (b.keepValid h)
  service := b.service.elim (fun e => e ▸ a.service) .inr
  holds l slot h := a.holds l slot (b.holds l slot h)
  passed d h p := a.passed d (b.passed d h p) p

/-- A change of the departures, the arbiter, the link, the attention unit and the like alone is quiet. -/
theorem of_rest {s t : State} (h : t = { s with
    enforce := t.enforce, departures := t.departures, berths := t.berths, arbiter := t.arbiter, link := t.link,
    attention := t.attention, resetLine := t.resetLine, freeCount := t.freeCount, pending := t.pending }) :
    s.Quiet t := by
  rw [h]
  exact ⟨rfl, rfl, rfl, rfl, rfl, rfl, rfl, rfl, id, .inl rfl, fun _ _ h => h, fun _ h _ => h⟩

/-- So is one of the engine too, where it takes up no decision past its in-passage stage. -/
theorem of_engine {s t : State} (h : t = { s with
    enforce := t.enforce, departures := t.departures, berths := t.berths, arbiter := t.arbiter, link := t.link,
    attention := t.attention, resetLine := t.resetLine, freeCount := t.freeCount, pending := t.pending
    engine := t.engine }) (fresh : ∀ d, t.engine = .deciding d → d.passedInPassage = false) : s.Quiet t := by
  have passed : ∀ d, t.engine = .deciding d → d.passedInPassage = true → s.engine = .deciding d :=
    fun d he hp => absurd hp (by rw [fresh d he]; exact Bool.false_ne_true)
  rw [h]
  exact ⟨rfl, rfl, rfl, rfl, rfl, rfl, rfl, rfl, id, .inl rfl, fun _ _ h => h, passed⟩

theorem setEngine (s : State) (e : Engine) (fresh : ∀ d, e = .deciding d → d.passedInPassage = false) :
    s.Quiet { s with engine := e } := .of_engine rfl fresh

theorem setHost (s : State) (h : HostOp) : s.Quiet { s with engine := .host h } :=
  .setEngine s _ fun _ e => Engine.noConfusion e

theorem setCommitting (s : State) (c : Commit) : s.Quiet { s with engine := .committing c } :=
  .setEngine s _ fun _ e => Engine.noConfusion e

theorem setClearing (s : State) (n : Nat) : s.Quiet { s with engine := .clearing n } :=
  .setEngine s _ fun _ e => Engine.noConfusion e

/-- A service state that is not UNSTARTED or CLEARING. -/
theorem of_service (s : State) {v : Service} (hu : v ≠ .unstarted) (hc : v ≠ .clearing) :
    s.Quiet { s with service := v } :=
  ⟨rfl, rfl, rfl, rfl, rfl, rfl, rfl, rfl, id, .inr ⟨hu, hc⟩, fun _ _ h => h, fun _ h _ => h⟩

/-- A lane written that holds no slot it did not hold. -/
theorem setLane (s : State) (l : Lane) (p : LanePort)
    (h : ∀ slot, p.holdsSlot slot = true → (s.lane l).holdsSlot slot = true) : s.Quiet (s.setLane l p) := by
  refine ⟨rfl, rfl, rfl, rfl, rfl, rfl, rfl, rfl, id, .inl rfl, fun k slot hk => ?_, fun _ h _ => h⟩
  rw [State.setLane_lane] at hk
  by_cases hkl : k = l
  · subst hkl; exact h slot (by simpa using hk)
  · simpa [hkl] using hk

/-- A fold of quiet steps. -/
theorem foldl {α : Type} (f : State → α → State) (hf : ∀ (s : State) a, s.Quiet (f s a)) (as : List α) (s : State) :
    s.Quiet (as.foldl f s) := by
  induction as generalizing s with
  | nil => exact .refl s
  | cons a as ih => exact (hf s a).trans (ih _)

end State.Quiet

/-! ### Lanes that hold a slot (R15) -/

theorem LanePort.holdsSlot_iff (p : LanePort) (slot : Nat) :
    p.holdsSlot slot = true ↔
      (p.state = .awaiting ∨ p.state = .committing) ∧ ∃ v, p.openVerdict = some v ∧ v.slot = slot := by
  cases h : p.openVerdict <;> simp [LanePort.holdsSlot, h]

/-- A lane that is neither AWAITING nor COMMITTING holds no slot. -/
theorem LanePort.holdsSlot_of_state {p : LanePort} (ha : p.state ≠ .awaiting) (hc : p.state ≠ .committing)
    (slot : Nat) : p.holdsSlot slot = false := by
  simp [LanePort.holdsSlot, ha, hc]

/-- A lane without an open verdict holds no slot. -/
theorem LanePort.holdsSlot_of_none {p : LanePort} (h : p.openVerdict = none) (slot : Nat) :
    p.holdsSlot slot = false := by
  simp [LanePort.holdsSlot, h]

/-- The state and the open verdict of a lane decide what it holds. -/
theorem LanePort.holdsSlot_congr {p q : LanePort} (hs : p.state = q.state) (hv : p.openVerdict = q.openVerdict)
    (slot : Nat) : p.holdsSlot slot = q.holdsSlot slot := by
  simp [LanePort.holdsSlot, hs, hv]

/-! ### The shared operations are quiet -/

namespace State

/-- A lane written in a state in which it holds no slot. -/
theorem Quiet.setLane_idle (s : State) (l : Lane) (p : LanePort) (ha : p.state ≠ .awaiting := by simp)
    (hc : p.state ≠ .committing := by simp) : s.Quiet (s.setLane l p) :=
  .setLane s l p fun slot h => by simp [LanePort.holdsSlot_of_state ha hc slot] at h

/-- A lane written with its state and open verdict as they were. -/
theorem Quiet.setLane_same (s : State) (l : Lane) (p : LanePort) (hs : p.state = (s.lane l).state := by rfl)
    (hv : p.openVerdict = (s.lane l).openVerdict := by rfl) : s.Quiet (s.setLane l p) :=
  .setLane s l p fun slot h => LanePort.holdsSlot_congr hs hv slot ▸ h

theorem raise_quiet (s : State) (c : Cause) (x : Subject) : s.Quiet (s.raise c x) := .of_rest rfl
theorem setDep_quiet (s : State) (d : DepIx) (r : Departure) : s.Quiet (s.setDep d r) := .of_rest rfl
theorem answerLink_quiet (s : State) (a : Answer) : s.Quiet (s.answerLink a) := .of_rest rfl
theorem setPhase_quiet (s : State) (p : Phase) : s.Quiet (s.setPhase p) := .of_rest rfl
theorem setTapPending_quiet (s : State) (l : Lane) (b : Bool) : s.Quiet (s.setTapPending l b) := .of_rest rfl
theorem setCommitPending_quiet (s : State) (l : Lane) (b : Bool) : s.Quiet (s.setCommitPending l b) := .of_rest rfl
theorem setHostRequest_quiet (s : State) (b : Bool) : s.Quiet (s.setHostRequest b) := .of_rest rfl
theorem setClearingRequest_quiet (s : State) (b : Bool) : s.Quiet (s.setClearingRequest b) := .of_rest rfl

theorem endFrame_quiet (s : State) (l : Lane) : s.Quiet (s.endFrame l) := .setLane_same s l _

theorem send_quiet (s : State) (l : Lane) (m : Message) : s.Quiet (s.send l m) := by
  rcases s.send_cases l m with ⟨_, e⟩ | ⟨_, e⟩ <;> rw [e]
  · exact .setLane_same s l _
  · exact s.raise_quiet _ _

theorem changeDep_quiet (s : State) (d : DepIx) (r : Departure) : s.Quiet (s.changeDep d r) := by
  simp only [State.changeDep]
  split <;> split <;> exact .of_rest rfl

theorem release_quiet (s : State) (d : DepIx) : s.Quiet (s.release d) := by
  unfold State.release
  split
  · exact .refl s
  · exact s.changeDep_quiet _ _

theorem commitOfCount_quiet (s : State) (d : DepIx) (n : Nat) : s.Quiet (s.commitOfCount d n) := by
  simp only [State.commitOfCount]
  split
  · exact .refl s
  · exact s.setDep_quiet _ _

theorem holdOn_quiet (s : State) (d : DepIx) : s.Quiet (s.holdOn d).2 := s.changeDep_quiet _ _

theorem autoStart_quiet (s : State) (d : DepIx) : s.Quiet (s.autoStart d) := .of_rest rfl

theorem holdRequest_quiet (s : State) (b : Berth) : s.Quiet (s.holdRequest b).2 := by
  rcases s.holdRequest_cases b with e | e | ⟨d, _, _, _, e⟩ | ⟨d, f, _, _, _, _, e⟩ | ⟨d, f, _, _, _, _, e⟩ <;> rw [e]
  · exact s.holdOn_quiet d
  · exact s.holdOn_quiet f
  · exact (s.autoStart_quiet f).trans (holdOn_quiet _ f)

theorem portRead_quiet (s : State) (slot : Nat) : s.Quiet (s.portRead slot).2 := by
  rcases s.portRead_cases slot with ⟨_, e⟩ | ⟨_, e⟩ <;> rw [e]
  exact s.raise_quiet _ _

theorem lookup_quiet (s : State) (card : CardNumber) : s.Quiet (s.lookup card).2 := by
  rcases s.lookup_cases card with ⟨_, _, e⟩ | ⟨_, e⟩ <;> rw [e]
  exact s.raise_quiet _ _

theorem quiet_of_portRead {s t : State} {slot : Nat} {v : SlotVerdict} (h : s.portRead slot = (v, t)) :
    s.Quiet t := by
  simpa [h] using s.portRead_quiet slot

theorem quiet_of_lookup {s t : State} {card : CardNumber} {result : LookupResult}
    (h : s.lookup card = (result, t)) : s.Quiet t := by
  simpa [h] using s.lookup_quiet card

theorem quiet_of_holdRequest {s t : State} {b : Berth} {answer : HoldAnswer}
    (h : s.holdRequest b = (answer, t)) : s.Quiet t := by
  simpa [h] using s.holdRequest_quiet b

theorem checkHalted_quiet (s : State) : s.Quiet s.checkHalted := by
  rcases s.checkHalted_cases with ⟨_, _, e⟩ | ⟨_, e⟩ <;> rw [e]
  exact .of_service s (by decide) (by decide)

theorem laneRest_quiet (s : State) (l : Lane) : s.Quiet (s.laneRest l) := by
  simp only [State.laneRest]
  refine .trans ?_ (checkHalted_quiet _)
  split
  · exact .trans (.setLane_idle s l _) (send_quiet _ l _)
  · exact .setLane_idle s l _

theorem endUnpassed_quiet (s : State) (l : Lane) (a : Answered) (e : Bool) : s.Quiet (s.endUnpassed l a e) := by
  simp only [State.endUnpassed]
  refine .trans ?_ ((send_quiet _ l _).trans (laneRest_quiet _ l))
  refine .trans ?_ (.setLane _ l _ fun slot h => by simp [LanePort.holdsSlot_of_none] at h)
  split
  · exact s.release_quiet _
  · exact .refl s

theorem expire_quiet (s : State) (l : Lane) : s.Quiet (s.expire l) := s.endUnpassed_quiet l _ _

theorem endRefused_quiet (s : State) (l : Lane) (r : Reason) (f : FareFields) : s.Quiet (s.endRefused l r f) :=
  (s.send_quiet l _).trans (laneRest_quiet _ l)

theorem withdrawTap_quiet (s : State) (l : Lane) (r : Reason) (next : LaneState) (ha : next ≠ .awaiting)
    (hc : next ≠ .committing) : s.Quiet (s.withdrawTap l r next) :=
  ((s.setTapPending_quiet l false).trans (.setLane_idle _ l _ ha hc)).trans (send_quiet _ l _)

theorem portOrder_quiet (s : State) (n : Nat) : s.Quiet (s.portOrder n).2 := by
  simp only [State.portOrder]
  split
  · exact .refl s
  · exact .of_rest rfl

/-- A tap granted makes a decision that is at its first stage, and its lane DECIDING (R106, R137). -/
theorem grantTap_quiet (s : State) (l : Lane) : s.Quiet (s.grantTap l) := by
  have lane : s.Quiet ((s.setTapPending l false).setLane l { s.lane l with state := .deciding }) :=
    (s.setTapPending_quiet l false).trans (.setLane_idle _ l _)
  simp only [State.grantTap]
  exact lane.trans (.of_engine rfl fun d h => by cases h; rfl)

theorem applyGrant_quiet (s : State) (g : Grant) : s.Quiet (s.applyGrant g) := by
  cases g with
  | clearing => exact (s.setClearingRequest_quiet false).trans (.of_engine rfl fun _ h => nomatch h)
  | commit l => exact (s.setCommitPending_quiet l false).trans (.of_engine rfl fun _ h => nomatch h)
  | host =>
    simp only [State.applyGrant]
    split
    · exact (s.setHostRequest_quiet false).trans (.of_engine rfl fun _ h => nomatch h)
    · exact s.setHostRequest_quiet false
  | tap l => exact s.grantTap_quiet l

theorem settle_quiet (s : State) : s.Quiet s.settle := by
  rcases s.settle_cases with ⟨_, e⟩ | ⟨_, _, e⟩ | ⟨g, _, _, e⟩ <;> rw [e]
  exact s.applyGrant_quiet g

theorem engineDone_quiet (s : State) : s.Quiet s.engineDone :=
  Quiet.trans (t := { s with engine := .idle }) (.of_engine rfl fun _ h => nomatch h) (settle_quiet _)

theorem handOver_quiet (s : State) (a : Answer) : s.Quiet (s.handOver a) := by
  simp only [State.handOver]
  refine .trans ?_ (engineDone_quiet _)
  split
  · exact s.answerLink_quiet _
  · exact .refl s

end State
end Sys2Proof.Machine
end

section
namespace Sys2Proof.Machine

/-! ### The elementary changes of a step -/

/-- One elementary change of a step: a quiet one; a clock, fare tables, watch list or cursor written within its range;
a memory kept canonical; KEEP, START and the resets; a decision moved on, which passes the in-passage stage at a slot
in no passage alone (R140); and an OPEN decision end, which gives its lane a verdict on its slot (R116). -/
inductive State.Change : State → State → Prop
  | quiet {s t : State} (h : s.Quiet t) : State.Change s t
  | clock {s t : State} (h : t = { s with clock := t.clock }) (legal : s.clock.Legal → t.clock.Legal) :
    State.Change s t
  | fares {s t : State} (h : t = { s with fares := t.fares }) (legal : s.fares.Legal → t.fares.Legal) :
    State.Change s t
  | watch {s t : State} (h : t = { s with watch := t.watch }) (legal : WatchLegal s.watch → WatchLegal t.watch) :
    State.Change s t
  | cursors {s t : State} (h : t = { s with tableCursor := t.tableCursor, sweepCursor := t.sweepCursor })
    (table : t.tableCursor = s.tableCursor ∨ t.tableCursor < s.geometry.slots)
    (sweep : t.sweepCursor = s.sweepCursor ∨ t.sweepCursor < s.geometry.slots) : State.Change s t
  | memory {s t : State} (h : t = { s with mem := t.mem })
    (canonical : Memory.wf s.mem = true → Memory.wf t.mem = true) : State.Change s t
  | keep (s : State) (h : s.service = .serving ∨ s.service = .halted) :
    State.Change s { s with kept := s.geometry, keepValid := true }
  | started (s : State) {g : Geometry} (h : g.Legal) : State.Change s (s.started g)
  | warmReset (s : State) : State.Change s s.warmReset
  | coldReset (s : State) : State.Change s
    { State.reset with resetLine := s.resetLine, freeCount := s.freeCount, pending := s.pending }
  | decides (s : State) {d d' : Decision} (h : s.engine = .deciding d)
    (passed : d'.passedInPassage = true →
      (d.passedInPassage = true ∧ d'.slot = d.slot) ∨ s.inPassage d'.slot = false) :
    State.Change s { s with engine := .deciding d' }
  | opens (s : State) {d : Decision} (l : Lane) {p : LanePort} (h : s.engine = .deciding d)
    (passed : d.passedInPassage = true) (hp : ∀ slot, p.holdsSlot slot = true → slot = d.slot) :
    State.Change s { s.setLane l p with engine := .idle }

/-- Elementary changes one after the other. -/
abbrev State.Changes (s t : State) : Prop := Relation.ReflTransGen State.Change s t

theorem State.Change.changes {s t : State} (h : State.Change s t) : s.Changes t := .single h
theorem State.Quiet.changes {s t : State} (h : s.Quiet t) : s.Changes t := .single (.quiet h)

/-- A property that every elementary change keeps is kept by all of them. -/
theorem State.Changes.keeps {P : State → Prop} (hP : ∀ s t, State.Change s t → P s → P t) {s t : State}
    (h : s.Changes t) (hs : P s) : P t := by
  induction h with
  | refl => exact hs
  | tail _ c ih => exact hP _ _ c ih

namespace State

/-! ### Gate events and the clock (R108 to R113, R126, R127, R72, R73) -/

theorem placeTap_quiet (s : State) (l : Lane) (card : CardNumber) : s.Quiet (s.placeTap l card) :=
  (Quiet.setLane_idle s l _).trans ((setTapPending_quiet _ l true).trans (settle_quiet _))

theorem takeTap_quiet (s : State) (l : Lane) (card : CardNumber) : s.Quiet (s.takeTap l card) := by
  simp only [State.takeTap]
  split
  · exact s.send_quiet l _
  · have cleared : s.Quiet (s.setLane l { s.lane l with expiredLast := false }) := .setLane_same s l _
    refine cleared.trans ?_
    split
    · exact send_quiet _ l _
    · split
      · exact placeTap_quiet _ l card
      · exact send_quiet _ l _
  · split <;> exact s.send_quiet l _

/-- An AWAITING lane that goes to COMMITTING holds the slot it held. -/
theorem awaiting_commits_quiet (s : State) (l : Lane) (h : (s.lane l).state = .awaiting) :
    s.Quiet (s.setLane l { s.lane l with secondsLeft := 0, state := .committing }) :=
  .setLane s l _ fun slot hp => by
    rw [LanePort.holdsSlot_iff] at hp ⊢
    exact ⟨.inl h, hp.2⟩

theorem takePassed_quiet (s : State) (l : Lane) : s.Quiet (s.takePassed l) := by
  have late : s.Quiet (if (s.lane l).expiredLast then
      ((s.setLane l { s.lane l with expiredLast := false }).send l (.passageAnswer .late)).raise .latePassage
        (numberSubject l.val) else s.send l (.passageAnswer .notExpected)) := by
    split
    · exact (Quiet.setLane_same s l _).trans ((send_quiet _ l _).trans (raise_quiet _ _ _))
    · exact s.send_quiet l _
  simp only [State.takePassed]
  split
  · next h => exact (s.awaiting_commits_quiet l h).trans ((setCommitPending_quiet _ l true).trans (settle_quiet _))
  · exact late
  · exact late
  · exact s.send_quiet l _

theorem takeWalkaway_quiet (s : State) (l : Lane) : s.Quiet (s.takeWalkaway l) := by
  simp only [State.takeWalkaway]
  split
  · exact s.endUnpassed_quiet l _ _
  · exact s.send_quiet l _

theorem takeCancel_quiet (s : State) (l : Lane) : s.Quiet (s.takeCancel l) := by
  simp only [State.takeCancel]
  split
  · exact s.withdrawTap_quiet l _ _ (by decide) (by decide)
  · exact .setLane_same s l _
  · exact s.endUnpassed_quiet l _ _
  · exact .refl s

theorem takeFrame_quiet (s : State) (l : Lane) (m : GateMessage) (take : State → State)
    (h : ∀ t : State, t.Quiet (take t)) : s.Quiet (s.takeFrame l m take) := by
  rcases s.takeFrame_cases l m take with ⟨_, e⟩ | ⟨_, e⟩ <;> rw [e]
  exact (s.endFrame_quiet l).trans (h _)

theorem tickTimer_quiet (s : State) (l : Lane) : s.Quiet (s.tickTimer l) := by
  rcases s.tickTimer_cases l with ⟨_, e⟩ | ⟨_, _, e⟩ | ⟨_, _, e⟩ <;> rw [e]
  · exact (Quiet.setLane_same s l _).trans (expire_quiet _ l)
  · exact .setLane_same s l _

theorem tickFrame_quiet (s : State) (l : Lane) : s.Quiet (s.tickFrame l) := by
  rcases s.tickFrame_cases l with ⟨_, e⟩ | ⟨_, e⟩ <;> rw [e]
  · exact (s.endFrame_quiet l).trans (raise_quiet _ _ _)
  · exact .setLane_same s l _

theorem tickLane_quiet (s : State) (l : Lane) : s.Quiet (s.tickLane l) :=
  (s.tickTimer_quiet l).trans (tickFrame_quiet _ l)

theorem minuteEvent_changes (s : State) : s.Changes s.minuteEvent := by
  unfold State.minuteEvent
  split
  · exact Change.changes (.clock rfl fun h => ⟨h.1, by simp only; omega, h.2.2⟩)
  · split
    · have held : s.Changes { s with clock := { s.clock with minute := 1919 } } :=
        Change.changes (.clock rfl fun h => ⟨h.1, le_rfl, h.2.2⟩)
      exact held.trans (raise_quiet _ _ _).changes
    · exact .refl

theorem countSecond_changes (s : State) : s.Changes s.countSecond := by
  unfold State.countSecond
  split
  · exact Change.changes (.clock rfl fun h => ⟨h.1, h.2.1, by simp only; omega⟩)
  · have zeroed : s.Changes { s with clock := { s.clock with second := 0 } } :=
      Change.changes (.clock rfl fun h => ⟨h.1, h.2.1, Nat.zero_le _⟩)
    exact zeroed.trans (minuteEvent_changes _)

theorem secondEvent_changes (s : State) : s.Changes s.secondEvent := by
  simp only [State.secondEvent]
  refine .trans (Quiet.changes ?_) (countSecond_changes _)
  exact (s.portOrder_quiet _).trans (.foldl State.tickLane tickLane_quiet _ _)

theorem setClock_changes (s : State) (day minute : Nat) (h : s.clock.Legal → day ≤ 65535) (hm : minute ≤ 1919) :
    s.Changes (s.setClock day minute) := by
  have written : s.Changes { s with clock := ⟨day, minute, 0⟩ } :=
    Change.changes (.clock rfl fun hc => ⟨h hc, hm, Nat.zero_le _⟩)
  simp only [State.setClock]
  split
  · exact written.trans (raise_quiet _ _ _).changes
  · exact written

theorem raiseLaneFaults_quiet (s : State) (l : Lane) (n : Nat) : s.Quiet (s.raiseLaneFaults l n) := by
  rw [s.raiseLaneFaults_eq]
  exact .of_rest rfl

/-! ### Service control (R120, R127, R189, R192) -/

theorem haltLane_quiet (s : State) (l : Lane) : s.Quiet (s.haltLane l) := by
  unfold State.haltLane
  split
  · exact s.withdrawTap_quiet l _ _ (by decide) (by decide)
  · exact .refl s

theorem haltNotice_quiet (s : State) : s.Quiet s.haltNotice :=
  (s.portOrder_quiet _).trans (.foldl State.haltLane haltLane_quiet _ _)

theorem raiseStartFaults_quiet (s before : State) : s.Quiet (s.raiseStartFaults before) := by
  unfold State.raiseStartFaults
  split
  · have counted : s.Quiet { s with freeCount := s.freeCount + 1 } := .of_rest rfl
    exact counted.trans (.foldl _ (fun t l => t.raise_quiet _ _) _ _)
  · exact .refl s

end State

/-! ### What the owners of DIRECT commands do (8.8) -/

theorem ownStart_changes (k p : Word) (s : State) : s.Changes (ownStart k p s).1 := by
  have taken : s.Changes (if 10 ≤ k.toNat ∧ k.toNat ≤ 18 ∧ 1 ≤ p.toNat ∧ p.toNat ≤ 8 then
      ((s.started ⟨k.toNat, p.toNat⟩).raiseStartFaults s).settle.ok else s.refuse .badOperand).1 := by
    split
    · next h =>
      have legal : Geometry.Legal ⟨k.toNat, p.toNat⟩ := h
      exact (State.Change.started s legal).changes.trans
        ((State.raiseStartFaults_quiet _ s).trans (State.settle_quiet _)).changes
    · exact .refl
  unfold ownStart
  split
  · exact .refl
  · exact .refl
  · exact .refl
  · exact taken

theorem ownResume_quiet (s : State) : s.Quiet (ownResume s).1 := by
  unfold ownResume
  split
  · exact ⟨rfl, rfl, rfl, rfl, rfl, rfl, rfl, rfl, fun h => (nomatch h), .inr ⟨nofun, nofun⟩,
      fun _ _ h => h, fun _ h _ => h⟩
  · exact .refl s
  · exact .refl s

theorem ownHalt_quiet (s : State) : s.Quiet (ownHalt s).1 := by
  unfold ownHalt
  split
  · exact .refl s
  · exact .refl s
  · exact .refl s
  · exact .refl s
  · exact .refl s
  · refine s.haltNotice_quiet.trans (.of_service _ ?_ ?_) <;> split <;> decide

theorem ownContinue_quiet (s : State) : s.Quiet (ownContinue s).1 := by
  unfold ownContinue
  split
  · exact .of_service s (by decide) (by decide)
  · exact .refl s
  · exact .refl s
  · exact .refl s

theorem ownKeep_changes (s : State) : s.Changes (ownKeep s).1 := by
  unfold ownKeep
  split
  · next h => exact (State.Change.keep s (.inl h)).changes
  · next h => exact (State.Change.keep s (.inr h)).changes
  · exact .refl
  · exact .refl
  · exact .refl

theorem ownSetTime_changes (minute : Word) (s : State) : s.Changes (ownSetTime minute s).1 := by
  unfold ownSetTime
  split
  · next h => exact s.setClock_changes _ _ (fun hc => hc.1) h
  · exact .refl

theorem ownNewDay_changes (minute : Word) (s : State) : s.Changes (ownNewDay minute s).1 := by
  unfold ownNewDay
  split
  · next h => exact s.setClock_changes _ _ (fun _ => h.2) h.1
  · exact .refl

theorem ownSetDay_changes (day minute : Word) (s : State) : s.Changes (ownSetDay day minute s).1 := by
  unfold ownSetDay
  split
  · next h => exact s.setClock_changes _ _ (fun _ => by have := day.isLt; omega) h
  · exact .refl

/-! The departure, attention and arbiter commands write their own unit alone. -/

theorem ownDepartureDefine_quiet (d b r t c m f a : Word) (s : State) :
    s.Quiet (ownDepartureDefine d b r t c m f a s).1 := by
  unfold ownDepartureDefine
  repeat' split
  all_goals exact .of_rest rfl

theorem ownDepartureOpen_quiet (d : Word) (s : State) : s.Quiet (ownDepartureOpen d s).1 := by
  unfold ownDepartureOpen
  repeat' split
  all_goals exact .of_rest rfl

theorem ownDepartureClose_quiet (d : Word) (s : State) : s.Quiet (ownDepartureClose d s).1 := by
  simp only [ownDepartureClose]
  repeat' split
  all_goals exact .of_rest rfl

theorem ownDepartureSetCapacity_quiet (d c m : Word) (s : State) : s.Quiet (ownDepartureSetCapacity d c m s).1 := by
  simp only [ownDepartureSetCapacity]
  split
  · exact .refl s
  · split
    · split
      · split
        · exact s.changeDep_quiet _ _
        · exact .refl s
      · exact .refl s
    · exact .refl s

theorem ownDepartureLink_quiet (d f : Word) (s : State) : s.Quiet (ownDepartureLink d f s).1 := by
  simp only [ownDepartureLink]
  repeat' split
  all_goals exact .of_rest rfl

theorem ownDepartureRead_quiet (d m : Word) (s : State) : s.Quiet (ownDepartureRead d m s).1 := by
  unfold ownDepartureRead
  repeat' split
  all_goals exact .of_rest rfl

theorem ownDepartureRetire_quiet (d : Word) (s : State) : s.Quiet (ownDepartureRetire d s).1 := by
  unfold ownDepartureRetire
  repeat' split
  all_goals exact .of_rest rfl

theorem ownBerthSetCurrent_quiet (b d : Word) (s : State) : s.Quiet (ownBerthSetCurrent b d s).1 := by
  unfold ownBerthSetCurrent
  repeat' split
  all_goals exact .of_rest rfl

theorem ownArbiterMode_quiet (m : Word) (s : State) : s.Quiet (ownArbiterMode m s).1 := by
  unfold ownArbiterMode
  split <;> exact .of_rest rfl

theorem ownSetBottom_quiet (l : Word) (s : State) : s.Quiet (ownSetBottom l s).1 := by
  unfold ownSetBottom
  split <;> exact .of_rest rfl

theorem ownAttentionAck_quiet (c : Word) (s : State) : s.Quiet (ownAttentionAck c s).1 := by
  unfold ownAttentionAck
  split <;> exact .of_rest rfl

theorem ownAttentionMask_quiet (c : Word) (s : State) : s.Quiet (ownAttentionMask c s).1 := by
  unfold ownAttentionMask
  split <;> exact .of_rest rfl

/-! The lane commands give no lane a verdict. -/

theorem ownLaneOpen_quiet (lane : Word) (s : State) : s.Quiet (ownLaneOpen lane s).1 := by
  unfold ownLaneOpen
  split
  · exact .refl s
  · next l _ =>
    simp only
    split
    · exact .refl s
    · exact (State.Quiet.setLane_idle s l _).trans (State.send_quiet _ l _)

theorem ownLaneClose_quiet (lane : Word) (s : State) : s.Quiet (ownLaneClose lane s).1 := by
  unfold ownLaneClose
  split
  · exact .refl s
  · next l _ =>
    simp only
    split
    · exact .refl s
    · exact (State.Quiet.setLane_idle s l _).trans (State.send_quiet _ l _)
    · exact (s.withdrawTap_quiet l _ _ (by decide) (by decide)).trans (State.send_quiet _ l _)
    · exact .setLane_same s l _

theorem ownLaneSet_quiet (lane b k c t : Word) (s : State) : s.Quiet (ownLaneSet lane b k c t s).1 := by
  unfold ownLaneSet
  split
  · next l _ _ _ _ _ _ _ =>
    split
    · simp only
      split
      · exact .setLane_same s l _
      · exact .refl s
    · exact .refl s
  · exact .refl s

theorem ownLaneRead_quiet (lane : Word) (s : State) : s.Quiet (ownLaneRead lane s).1 := by
  unfold ownLaneRead
  split <;> exact .refl s

/-- What the owner of a DIRECT command does to the state. -/
theorem owner_changes (c : Cmd) (ws : List Word) (s : State) : s.Changes (owner c ws s).1 := by
  cases c with
  | start => exact ownStart_changes _ _ s
  | resume => exact (ownResume_quiet s).changes
  | halt => exact (ownHalt_quiet s).changes
  | continueService => exact (ownContinue_quiet s).changes
  | keep => exact ownKeep_changes s
  | restart => exact (State.Change.warmReset s).changes
  | setTime => exact ownSetTime_changes _ s
  | newDay => exact ownNewDay_changes _ s
  | setDay => exact ownSetDay_changes _ _ s
  | departureDefine => exact (ownDepartureDefine_quiet _ _ _ _ _ _ _ _ s).changes
  | departureOpen => exact (ownDepartureOpen_quiet _ s).changes
  | departureClose => exact (ownDepartureClose_quiet _ s).changes
  | departureSetCapacity => exact (ownDepartureSetCapacity_quiet _ _ _ s).changes
  | departureLink => exact (ownDepartureLink_quiet _ _ s).changes
  | departureRead => exact (ownDepartureRead_quiet _ _ s).changes
  | departureRetire => exact (ownDepartureRetire_quiet _ s).changes
  | berthSetCurrent => exact (ownBerthSetCurrent_quiet _ _ s).changes
  | laneOpen => exact (ownLaneOpen_quiet _ s).changes
  | laneClose => exact (ownLaneClose_quiet _ s).changes
  | laneSet => exact (ownLaneSet_quiet _ _ _ _ _ s).changes
  | laneRead => exact (ownLaneRead_quiet _ s).changes
  | arbiterMode => exact (ownArbiterMode_quiet _ s).changes
  | setBottom => exact (ownSetBottom_quiet _ s).changes
  | attentionAck => exact (ownAttentionAck_quiet _ s).changes
  | attentionMask => exact (ownAttentionMask_quiet _ s).changes
  | _ => exact .refl

theorem State.direct_changes (s : State) (c : Cmd) {own : State → Taken} (h : ∀ t : State, t.Changes (own t).1) :
    s.Changes (s.direct c own) := by
  rcases s.direct_cases c own with ⟨code, _, e⟩ | ⟨_, ⟨t, a, ho, e⟩ | ⟨t, ho, e⟩⟩ <;> rw [e]
  · exact (s.answerLink_quiet _).changes
  · have owned : s.Changes t := by simpa [ho] using h s
    exact owned.trans (t.answerLink_quiet a).changes
  · simpa [ho] using h s

/-- The row of a DIRECT command. -/
theorem State.hostDirect_changes (s : State) (c : Cmd) (ws : List Word) :
    s.Changes (s.hostDirect c (owner c ws)) := by
  rcases s.hostDirect_cases c (owner c ws) with ⟨_, e⟩ | ⟨_, e⟩ | ⟨_, e⟩ <;> rw [e]
  · have ended : s.Changes { s with link := ⟨s.link.phase, none⟩ } := State.Quiet.changes (.of_rest rfl)
    exact ended.trans (State.direct_changes _ c (owner_changes c ws))
  · exact State.Quiet.changes (.of_rest rfl)
  · exact State.Quiet.changes (.of_rest rfl)

/-! ### The station link (R159 to R167) -/

theorem State.dispatch_changes (s : State) (c : Cmd) (ws : List Word) : s.Changes (s.dispatch c ws) := by
  unfold State.dispatch
  split
  · unfold State.request
    split
    · exact (s.answerLink_quiet _).changes
    · exact (State.Quiet.trans (.of_rest rfl) (State.settle_quiet _)).changes
  · exact s.direct_changes c (owner_changes c ws)

theorem State.beginCommand_changes (s : State) (w : Word) : s.Changes (s.beginCommand w) := by
  unfold State.beginCommand
  split
  · exact (s.setPhase_quiet _).changes
  · split
    · exact s.dispatch_changes _ _
    · exact (s.setPhase_quiet _).changes

theorem State.wordReady_changes (s : State) (k : Kind) (w : Word) : s.Changes (s.wordReady k w) := by
  unfold State.wordReady
  split
  · exact s.beginCommand_changes w
  · exact (s.setPhase_quiet _).changes
  · exact (s.setPhase_quiet _).changes

theorem State.wordCollecting_changes (s : State) (c : Cmd) (n : Nat) (ws : List Word) (k : Kind) (w : Word) :
    s.Changes (s.wordCollecting c n ws k w) := by
  cases k with
  | operand =>
    simp only [State.wordCollecting]
    split
    · exact s.dispatch_changes _ _
    · exact (s.setPhase_quiet _).changes
  | idle => exact .refl
  | command => exact (s.setPhase_quiet _).changes
  | abort => exact (s.setPhase_quiet _).changes
  | other => exact (s.setPhase_quiet _).changes

theorem State.wordExecuting_quiet (s : State) (c : Cmd) (ws : List Word) (late : Bool) (k : Kind) :
    s.Quiet (s.wordExecuting c ws late k) := by
  unfold State.wordExecuting
  split
  · split <;> exact .of_rest rfl
  · exact .refl s

theorem State.wordResults_changes (s : State) (left : List Entry) (k : Kind) (w : Word) :
    s.Changes (s.wordResults left k w) := by
  unfold State.wordResults
  split
  · exact s.beginCommand_changes w
  · exact (s.setPhase_quiet _).changes
  · split
    · exact (s.setPhase_quiet _).changes.trans (State.wordReady_changes _ _ w)
    · exact .refl
  · split
    · exact (s.setPhase_quiet _).changes
    · exact .refl

theorem State.takeWord_changes (s : State) (k : Kind) (w : Word) : s.Changes (s.takeWord k w) := by
  unfold State.takeWord
  split
  · exact s.wordReady_changes k w
  · exact s.wordCollecting_changes _ _ _ k w
  · exact (s.wordExecuting_quiet _ _ _ k).changes
  · exact s.wordResults_changes _ k w

end Sys2Proof.Machine
end

section
namespace Sys2Proof.Machine

/-! ### The engine's operations (R38 to R56, R146 to R149, R179 to R181) -/

theorem State.portWrite_changes (s : State) (slot : Nat) (content : Vector Word 15) :
    s.Changes (s.portWrite slot content) :=
  State.Change.changes (.memory rfl fun h => Memory.writeSlot_wf _ _ _ h)

theorem State.writeRecord_changes (s : State) (slot : Nat) (r : CardRecord) : s.Changes (s.writeRecord slot r) :=
  s.portWrite_changes slot _

/-- A slot index one on is a slot of the table (R21). -/
theorem Geometry.nextSlot_lt (g : Geometry) (slot : Nat) : g.nextSlot slot < g.slots :=
  Nat.mod_lt _ (by simp [Geometry.slots])

/-- A table cursor written to a slot of the table. -/
theorem State.setTableCursor_changes (s : State) {n : Nat} (h : n < s.geometry.slots) :
    s.Changes { s with tableCursor := n } :=
  State.Change.changes (.cursors rfl (.inr h) (.inl rfl))

/-- A sweep cursor written to a slot of the table. -/
theorem State.setSweepCursor_changes (s : State) {n : Nat} (h : n < s.geometry.slots) :
    s.Changes { s with sweepCursor := n } :=
  State.Change.changes (.cursors rfl (.inl rfl) (.inr h))

theorem State.advanceTable_changes (s : State) : s.Changes s.advanceTable :=
  s.setTableCursor_changes (s.geometry.nextSlot_lt _)

/-- A command on the record of a card changes what its own part changes. -/
theorem State.onCard_changes (s : State) (card : CardNumber) {f : Nat → CardRecord → State → State × Answer}
    (h : ∀ slot r (t : State), t.Changes (f slot r t).1) : s.Changes (s.onCard card f).1 := by
  unfold State.onCard
  split
  · next e => exact (State.quiet_of_lookup e).changes
  · next e => exact (State.quiet_of_lookup e).changes
  · next e => exact (State.quiet_of_lookup e).changes.trans (h _ _ _)

theorem serveCardAdd_changes (ws : List Word) (s : State) : s.Changes (serveCardAdd ws s).1 := by
  unfold serveCardAdd
  split
  · exact .refl
  · next r _ =>
    split
    · next e => exact (State.quiet_of_lookup e).changes
    · next e => exact (State.quiet_of_lookup e).changes
    · next e => exact (State.quiet_of_lookup e).changes.trans (State.raise_quiet _ _ _).changes
    · next e => exact (State.quiet_of_lookup e).changes.trans (State.writeRecord_changes _ _ r)

theorem serveCardFind_changes (ws : List Word) (s : State) : s.Changes (serveCardFind ws s).1 := by
  unfold serveCardFind
  split
  · exact s.onCard_changes _ fun _ _ _ => .refl
  · exact .refl

theorem serveAddValue_changes (ws : List Word) (s : State) : s.Changes (serveAddValue ws s).1 := by
  simp only [serveAddValue]
  split
  · refine s.onCard_changes _ fun slot r t => ?_
    split
    · exact .refl
    · exact t.writeRecord_changes slot _
  · exact .refl

theorem serveSetBalance_changes (ws : List Word) (s : State) : s.Changes (serveSetBalance ws s).1 := by
  simp only [serveSetBalance]
  split
  · exact s.onCard_changes _ fun slot _ t => t.writeRecord_changes slot _
  · exact .refl

theorem serveSettle_changes (ws : List Word) (s : State) : s.Changes (serveSettle ws s).1 := by
  unfold serveSettle
  split
  · refine s.onCard_changes _ fun slot r t => ?_
    split
    · exact .refl
    · exact t.writeRecord_changes slot _
  · exact .refl

theorem serveSetProduct_changes (ws : List Word) (s : State) : s.Changes (serveSetProduct ws s).1 := by
  simp only [serveSetProduct]
  split
  · exact .refl
  · split
    · exact s.onCard_changes _ fun slot _ t => t.writeRecord_changes slot _
    · exact .refl

theorem serveDenyFlag_changes (flag : Bool) (ws : List Word) (s : State) :
    s.Changes (serveDenyFlag flag ws s).1 := by
  unfold serveDenyFlag
  split
  · exact s.onCard_changes _ fun slot _ t => t.writeRecord_changes slot _
  · exact .refl

theorem serveCardRetire_changes (ws : List Word) (s : State) : s.Changes (serveCardRetire ws s).1 := by
  unfold serveCardRetire
  split
  · refine s.onCard_changes _ fun slot r t => ?_
    split
    · exact .refl
    · exact t.portWrite_changes slot _
  · exact .refl

theorem serveEnforce_quiet (ws : List Word) (s : State) : s.Quiet (serveEnforce ws s).1 := by
  unfold serveEnforce
  repeat' split
  all_goals exact .of_rest rfl

theorem serveTableSeek_changes (ws : List Word) (s : State) : s.Changes (serveTableSeek ws s).1 := by
  simp only [serveTableSeek]
  split
  · next h => exact s.setTableCursor_changes h
  · exact .refl

theorem serveTableRead_changes (ws : List Word) (s : State) : s.Changes (serveTableRead ws s).1 := by
  unfold serveTableRead
  split
  · next e => exact (State.quiet_of_portRead e).changes.trans (State.advanceTable_changes _)
  · next e => exact (State.quiet_of_portRead e).changes.trans (State.advanceTable_changes _)

theorem State.writeAtCursor_changes (s : State) (content : Vector Word 15) :
    s.Changes (s.writeAtCursor content).1 := by
  unfold State.writeAtCursor
  split
  · exact .refl
  · exact (s.portWrite_changes _ _).trans (State.advanceTable_changes _)

theorem serveTableWrite_changes (ws : List Word) (s : State) : s.Changes (serveTableWrite ws s).1 := by
  simp only [serveTableWrite]
  split
  · exact s.writeAtCursor_changes _
  · split
    · split
      · exact .refl
      · split
        · split
          · exact .refl
          · exact (s.raise_quiet _ _).changes
          · exact s.writeAtCursor_changes _
        · exact .refl
    · exact .refl

theorem serveSweepNext_changes (ws : List Word) (s : State) : s.Changes (serveSweepNext ws s).1 := by
  unfold serveSweepNext
  split
  · next slot r _ =>
    exact (s.writeRecord_changes slot _).trans
      (State.setSweepCursor_changes _ (by simpa using s.geometry.nextSlot_lt slot))
  · next slot _ =>
    exact (s.raise_quiet _ _).changes.trans
      (State.setSweepCursor_changes _ (by simpa using s.geometry.nextSlot_lt slot))
  · exact s.setSweepCursor_changes (Nat.mod_lt _ (by simp [Geometry.slots]))

/-! The fare commands keep the tables within their ranges (R52 to R55). -/

theorem serveFareSetBase_changes (ws : List Word) (s : State) : s.Changes (serveFareSetBase ws s).1 := by
  simp only [serveFareSetBase]
  split
  · next r f _ _ =>
    split
    · next hb =>
      refine State.Change.changes (.fares rfl fun ⟨base, rest⟩ => ⟨fun i => ?_, rest⟩)
      simp only [State.served, Fin.getElem_fin, Vector.getElem_set]
      split
      · exact hb
      · exact base i
    · exact .refl
  · exact .refl

/-- Used bands with increasing starts, pair by pair (R49, R53 check 3). -/
theorem start_lt_of_bandsIncreasing {bands : Vector Band 6} (h : bandsIncreasing bands = true) {a b : BandIx}
    (hab : a < b) (ha : bandUsed a bands[a] = true) (hb : bandUsed b bands[b] = true) :
    (bands[a]).start < (bands[b]).start := by
  simp only [bandsIncreasing, usedStarts, decide_eq_true_eq, List.pairwise_filterMap] at h
  have pair := List.pairwise_iff_getElem.1 h a.val b.val (by simp) (by simp) hab
  simp only [List.getElem_finRange, Fin.cast_mk, Fin.eta] at pair
  exact pair _ (if_pos ha) _ (if_pos hb)

/-- The start that a write gives a band is within its range (R49, R53 check 2). -/
theorem start_of_bandStartOk {b : BandIx} {n : Nat} (h : bandStartOk b n = true) : n ≤ 1919 ∨ n = 65535 := by
  unfold bandStartOk at h
  split at h <;> simp at h <;> omega

/-- The rates of four operand words are within their range (R49). -/
theorem band_rates_le (w x y z : Word) (f : Fin 4) : #v[w.toNat, x.toNat, y.toNat, z.toNat][f] ≤ 65535 := by
  have top : ∀ v : Word, v.toNat ≤ 65535 := fun v => by have := v.isLt; omega
  fin_cases f <;> exact top _

theorem serveFareSetBand_changes (ws : List Word) (s : State) : s.Changes (serveFareSetBand ws s).1 := by
  simp only [serveFareSetBand]
  split
  · exact .refl
  · next b _ =>
    split
    · next h =>
      obtain ⟨start, rising⟩ : bandStartOk b (arg ws 1).toNat = true ∧ _ := by simpa using h
      refine State.Change.changes (.fares rfl fun ⟨base, bands, first, _, rest⟩ => ⟨base, fun i => ?_, ?_, ?_, rest⟩)
      · simp only [State.served, Fin.getElem_fin, Vector.getElem_set]
        split
        · exact ⟨start_of_bandStartOk start, fun f => band_rates_le _ _ _ _ f⟩
        · exact bands i
      · simp only [State.served, Fin.getElem_fin, Vector.getElem_set]
        split
        · next hb => simpa [bandStartOk, show b = 0 from Fin.ext hb] using start
        · exact first
      · exact fun a c hac ha hc => start_lt_of_bandsIncreasing rising hac ha hc
    · exact .refl

theorem serveFareSetClass_changes (ws : List Word) (s : State) : s.Changes (serveFareSetClass ws s).1 := by
  simp only [serveFareSetClass]
  split
  · exact .refl
  · split
    · next h =>
      refine State.Change.changes (.fares rfl fun ⟨base, bands, first, rising, classes, rest⟩ =>
        ⟨base, bands, first, rising, fun i => ?_, rest⟩)
      have := classes i
      simp only [State.served, Fin.getElem_fin, Vector.getElem_set]
      split
      · exact h
      · exact classes i
    · exact .refl

theorem serveFareSetPolicy_changes (ws : List Word) (s : State) : s.Changes (serveFareSetPolicy ws s).1 := by
  simp only [serveFareSetPolicy]
  split
  · split
    · next h =>
      exact State.Change.changes (.fares rfl fun ⟨base, bands, first, rising, classes, _⟩ =>
        ⟨base, bands, first, rising, classes, h⟩)
    · exact .refl
  · exact .refl

theorem serveFareRead_quiet (ws : List Word) (s : State) : s.Quiet (serveFareRead ws s).1 := by
  unfold serveFareRead
  split <;> exact .refl s

end Sys2Proof.Machine
end

section
namespace Sys2Proof.Machine

/-! ### The watch list (R147 to R149) -/

/-- An entry set to a valid card that no other entry names keeps the list legal (R146, R148). -/
theorem WatchLegal.set {w : Vector (Option WatchEntry) 4} (h : WatchLegal w) (e : WatchIx) (x : WatchEntry)
    (valid : validCard x.card = true) (alone : ∀ i : Fin 4, i ≠ e → ∀ y, w[i] = some y → y.card ≠ x.card) :
    WatchLegal (w.set e.val (some x)) := by
  have read : ∀ i : Fin 4, (w.set e.val (some x))[i] = if i = e then some x else w[i] := fun i => by
    simp [Vector.getElem_set, Fin.ext_iff, eq_comm]
  intro i y hi
  rw [read] at hi
  by_cases hie : i = e
  · obtain rfl : x = y := by simpa [hie] using hi
    refine ⟨valid, fun j z hj same => ?_⟩
    rw [read] at hj
    by_contra hji
    rw [if_neg (hie ▸ hji)] at hj
    exact alone j (hie ▸ hji) z hj same
  · rw [if_neg hie] at hi
    refine ⟨(h i y hi).1, fun j z hj same => ?_⟩
    rw [read] at hj
    by_cases hje : j = e
    · obtain rfl : x = z := by simpa [hje] using hj
      exact absurd same.symm (alone i hie y hi)
    · rw [if_neg hje] at hj
      exact (h i y hi).2 j z hj same

/-- An entry cleared keeps the list legal (R149). -/
theorem WatchLegal.clear {w : Vector (Option WatchEntry) 4} (h : WatchLegal w) (e : WatchIx) :
    WatchLegal (w.set e.val none) := by
  have read : ∀ (i : Fin 4) y, (w.set e.val none)[i] = some y → w[i] = some y := fun i y hy => by
    simp only [Fin.getElem_fin, Vector.getElem_set] at hy
    split at hy
    · cases hy
    · exact hy
  exact fun i y hi => ⟨(h i y (read i y hi)).1, fun j z hj => (h i y (read i y hi)).2 j z (read j z hj)⟩

theorem serveWatchSet_changes (ws : List Word) (s : State) : s.Changes (serveWatchSet ws s).1 := by
  simp only [serveWatchSet]
  split
  · next e mode _ _ =>
    split
    · next valid =>
      split
      · exact .refl
      · next alone =>
        refine State.Change.changes (.watch rfl fun h => h.set e _ valid fun i hie y hy same => alone ?_)
        rw [List.any_eq_true]
        exact ⟨i, List.mem_finRange i, by simp [hie, hy, entryNames, same]⟩
    · exact .refl
  · exact .refl

theorem serveWatchClear_changes (ws : List Word) (s : State) : s.Changes (serveWatchClear ws s).1 := by
  unfold serveWatchClear
  split
  · next e _ => exact State.Change.changes (.watch rfl fun h => h.clear e)
  · exact .refl

/-! ### The rows of the ENGINE commands (R153) -/

/-- What the engine serves for an ENGINE command. -/
def server : Cmd → List Word → State → State × Answer
  | .cardAdd => serveCardAdd
  | .cardFind => serveCardFind
  | .addValue => serveAddValue
  | .setBalance => serveSetBalance
  | .settle => serveSettle
  | .setProduct => serveSetProduct
  | .deny => serveDenyFlag true
  | .allow => serveDenyFlag false
  | .cardRetire => serveCardRetire
  | .enforce => serveEnforce
  | .tableSeek => serveTableSeek
  | .tableRead => serveTableRead
  | .tableWrite => serveTableWrite
  | .fareSetBase => serveFareSetBase
  | .fareSetBand => serveFareSetBand
  | .fareSetClass => serveFareSetClass
  | .fareSetPolicy => serveFareSetPolicy
  | .fareRead => serveFareRead
  | .watchSet => serveWatchSet
  | .watchClear => serveWatchClear
  | .watchRead => serveWatchRead
  | .sweepNext => serveSweepNext
  | _ => fun _ s => s.refused .unknownCommand

theorem server_changes (c : Cmd) (ws : List Word) (s : State) : s.Changes (server c ws s).1 := by
  cases c with
  | cardAdd => exact serveCardAdd_changes ws s
  | cardFind => exact serveCardFind_changes ws s
  | addValue => exact serveAddValue_changes ws s
  | setBalance => exact serveSetBalance_changes ws s
  | settle => exact serveSettle_changes ws s
  | setProduct => exact serveSetProduct_changes ws s
  | deny => exact serveDenyFlag_changes true ws s
  | allow => exact serveDenyFlag_changes false ws s
  | cardRetire => exact serveCardRetire_changes ws s
  | enforce => exact (serveEnforce_quiet ws s).changes
  | tableSeek => exact serveTableSeek_changes ws s
  | tableRead => exact serveTableRead_changes ws s
  | tableWrite => exact serveTableWrite_changes ws s
  | fareSetBase => exact serveFareSetBase_changes ws s
  | fareSetBand => exact serveFareSetBand_changes ws s
  | fareSetClass => exact serveFareSetClass_changes ws s
  | fareSetPolicy => exact serveFareSetPolicy_changes ws s
  | fareRead => exact (serveFareRead_quiet ws s).changes
  | watchSet => exact serveWatchSet_changes ws s
  | watchClear => exact serveWatchClear_changes ws s
  | sweepNext => exact serveSweepNext_changes ws s
  | _ => exact .refl

/-- The row of an ENGINE command: its serving, the hand-over of its outcome, or both. -/
theorem State.runHost_changes (s : State) (c : Cmd) (p : Progress) : s.Changes (s.runHost c (server c) p) := by
  unfold State.runHost
  split
  · next h _ =>
    split
    · have served := server_changes c h.words s
      rcases s.hostStages_cases h (server c) (stageCount 2 p) with
        ⟨_, e⟩ | ⟨a, _, _, e⟩ | ⟨_, _, e⟩ | ⟨_, _, e⟩ <;> rw [e]
      · exact (s.handOver_quiet a).changes
      · exact served.trans (State.Quiet.setHost _ _).changes
      · exact served.trans (State.handOver_quiet _ _).changes
    · exact .refl
  · exact .refl

/-! ### The tap decision (R137 to R145) -/

/-- With another engine in both, a quiet step is quiet. -/
theorem State.Quiet.withEngine {s t : State} (h : s.Quiet t) (e : Engine) :
    State.Quiet { s with engine := e } { t with engine := e } :=
  ⟨h.mem, h.geometry, h.kept, h.tableCursor, h.sweepCursor, h.clock, h.fares, h.watch, h.keepValid, h.service,
    h.holds, fun _ h _ => h⟩

/-- A decision past the in-passage stage has not been refused, and is at one of the stages from 6 on. -/
theorem Decision.passedInPassage_iff (d : Decision) :
    d.passedInPassage = true ↔
      d.refusal = none ∧ d.stage ∈ [.deny, .latch, .passDays, .hold, .fare, .write, .decisionEnd] := by
  simp [Decision.passedInPassage, or_assoc]

/-- What a decision may become at a stage: refused, on its way to the in-passage stage, or past it at a slot that
was past it before or is in no passage (R140). -/
def Decision.Advances (d d' : Decision) (s : State) : Prop :=
  d'.passedInPassage = true → (d.passedInPassage = true ∧ d'.slot = d.slot) ∨ s.inPassage d'.slot = false

theorem Decision.Advances.of_not_passed {d d' : Decision} {s : State} (h : d'.passedInPassage = false) :
    d.Advances d' s := fun p => absurd (h ▸ p) Bool.false_ne_true

/-- A decision that goes on from a stage past the in-passage stage keeps its slot. -/
theorem Decision.Advances.of_passed {d d' : Decision} {s : State}
    (stage : d.stage ∈ [.deny, .latch, .passDays, .hold, .fare, .write, .decisionEnd])
    (slot : d'.slot = d.slot) (refusal : d'.refusal = d.refusal) : d.Advances d' s := fun p =>
  .inl ⟨d.passedInPassage_iff.2 ⟨refusal ▸ (d'.passedInPassage_iff.1 p).1, stage⟩, slot⟩

theorem stageWatch_advances (d : Decision) (s : State) :
    s.Quiet (stageWatch d s).2 ∧ d.Advances (stageWatch d s).1 s := by
  have onward : (d.goto .lookup).passedInPassage = false := by simp [Decision.goto, Decision.passedInPassage]
  unfold stageWatch
  split
  · exact ⟨.refl s, .of_not_passed onward⟩
  · simp only
    split
    · exact ⟨s.raise_quiet _ _, .of_not_passed rfl⟩
    · exact ⟨s.raise_quiet _ _, .of_not_passed onward⟩
    · exact ⟨s.raise_quiet _ _, .of_not_passed onward⟩

theorem stageLookup_advances (d : Decision) (s : State) :
    s.Quiet (stageLookup d s).2 ∧ d.Advances (stageLookup d s).1 s := by
  unfold stageLookup
  split
  · next e => exact ⟨State.quiet_of_lookup e, .of_not_passed rfl⟩
  · next e => exact ⟨State.quiet_of_lookup e, .of_not_passed (by simp [Decision.passedInPassage])⟩
  · next e => exact ⟨State.quiet_of_lookup e, .of_not_passed (by simp [Decision.passedInPassage])⟩

theorem stageUnknown_advances (d : Decision) (s : State) :
    s.Quiet (stageUnknown d s).2 ∧ d.Advances (stageUnknown d s).1 s := by
  unfold stageUnknown
  split
  · exact ⟨.refl s, .of_not_passed rfl⟩
  · split
    · exact ⟨.refl s, .of_not_passed (by simp [Decision.passedInPassage])⟩
    · exact ⟨s.raise_quiet _ _, .of_not_passed rfl⟩

theorem stageInPassage_advances (d : Decision) (s : State) :
    s.Quiet (stageInPassage d s).2 ∧ d.Advances (stageInPassage d s).1 s := by
  unfold stageInPassage
  split
  · exact ⟨.refl s, .of_not_passed rfl⟩
  · next h => exact ⟨.refl s, fun _ => .inr (by simpa [Decision.goto] using h)⟩

theorem stageHold_advances (d : Decision) (s : State) (stage : d.stage = .hold) :
    s.Quiet (stageHold d s).2 ∧ d.Advances (stageHold d s).1 s := by
  unfold stageHold
  split
  · next e => exact ⟨State.quiet_of_holdRequest e, .of_not_passed rfl⟩
  · next e => exact ⟨State.quiet_of_holdRequest e, .of_not_passed rfl⟩
  · next e => exact ⟨State.quiet_of_holdRequest e, .of_passed (by simp [stage]) rfl rfl⟩

theorem stageFare_advances (d : Decision) (r : CardRecord) (h : Hold) (s : State) (stage : d.stage = .fare) :
    s.Quiet (stageFare d r h s).2 ∧ d.Advances (stageFare d r h s).1 s := by
  simp only [stageFare]
  split
  · exact ⟨.refl s, .of_passed (by simp [stage]) rfl rfl⟩
  · exact ⟨s.release_quiet _, .of_not_passed rfl⟩

/-- A stage of a decision is quiet but for the provisional write, and lets no decision past the in-passage stage at
a slot in passage (R137 to R144). -/
theorem decisionStage_cases (d : Decision) (s : State) :
    (s.Quiet (decisionStage d s).2 ∨ ∃ slot r, (decisionStage d s).2 = s.writeRecord slot r)
    ∧ d.Advances (decisionStage d s).1 s := by
  unfold decisionStage
  split
  · exact (stageWatch_advances d s).imp_left .inl
  · exact (stageLookup_advances d s).imp_left .inl
  · exact (stageUnknown_advances d s).imp_left .inl
  · exact (stageInPassage_advances d s).imp_left .inl
  · next stage _ =>
    unfold stageDeny
    split
    · exact ⟨.inl (.refl s), .of_not_passed rfl⟩
    · exact ⟨.inl (.refl s), .of_passed (by simp [stage]) rfl rfl⟩
  · next stage _ =>
    unfold stageLatch
    split
    · exact ⟨.inl (.refl s), .of_not_passed rfl⟩
    · exact ⟨.inl (.refl s), .of_passed (by simp [stage]) rfl rfl⟩
  · next stage _ =>
    unfold stagePassDays
    split
    · exact ⟨.inl (.refl s), .of_not_passed rfl⟩
    · exact ⟨.inl (.refl s), .of_passed (by simp [stage]) rfl rfl⟩
  · next stage => exact (stageHold_advances d s stage).imp_left .inl
  · next stage _ _ => exact (stageFare_advances d _ _ s stage).imp_left .inl
  · next r stage _ =>
    unfold stageWrite
    split
    · exact ⟨.inr ⟨d.slot, r, rfl⟩, .of_passed (by simp [stage]) rfl rfl⟩
    · exact ⟨.inl (.refl s), .of_passed (by simp [stage]) rfl rfl⟩
  · exact ⟨.inl (.refl s), .of_not_passed rfl⟩

/-- A slot written under another engine. -/
theorem State.portWrite_withEngine (s : State) (e : Engine) (slot : Nat) (content : Vector Word 15) :
    State.Changes { s with engine := e } { s.portWrite slot content with engine := e } :=
  State.Change.changes (.memory rfl fun wf => Memory.writeSlot_wf _ _ _ wf)

/-- One stage of a decision in service, with the engine that carries what it has made of it. -/
theorem decisionStage_changes (d : Decision) (s : State) (h : s.engine = .deciding d) :
    s.Changes { (decisionStage d s).2 with engine := .deciding (decisionStage d s).1 } := by
  obtain ⟨state, advances⟩ := decisionStage_cases d s
  refine (State.Change.decides s h advances).changes.trans ?_
  rcases state with quiet | ⟨slot, r, e⟩
  · exact (quiet.withEngine _).changes
  · rw [e]
    exact s.portWrite_withEngine _ slot _

/-- An OPEN decision end accepted: the lane has its verdict, and the engine is free (R116, R119). -/
theorem State.acceptOpen_changes (s : State) (d : Decision) (h : Hold) (he : s.engine = .deciding d)
    (passed : d.passedInPassage = true) : s.Changes (s.acceptOpen d h).engineDone := by
  have named : ∀ p : LanePort, p.openVerdict = some (d.openVerdict h) →
      ∀ slot, p.holdsSlot slot = true → slot = d.slot := fun p hv slot hp => by
    obtain ⟨_, v, hs, rfl⟩ := p.holdsSlot_iff slot |>.1 hp
    obtain rfl : d.openVerdict h = v := by simpa [hv] using hs
    rfl
  simp only [State.acceptOpen]
  split
  · have opened := State.Change.opens s d.lane he passed (named { s.lane d.lane with
      openVerdict := some (d.openVerdict h), state := .awaiting, secondsLeft := (s.lane d.lane).timer } rfl)
    exact opened.changes.trans (((State.send_quiet _ d.lane _).withEngine .idle).trans (State.settle_quiet _)).changes
  · have opened := State.Change.opens s d.lane he passed (named { s.lane d.lane with
      openVerdict := some (d.openVerdict h), state := .committing } rfl)
    exact opened.changes.trans ((((State.send_quiet _ d.lane _).trans
      (State.setCommitPending_quiet _ d.lane true)).withEngine .idle).trans (State.settle_quiet _)).changes

/-- A decision end (R115, R145). -/
theorem State.endDecision_changes (s : State) (d : Decision) (he : s.engine = .deciding d)
    (stage : d.stage = .decisionEnd) : s.Changes (s.endDecision d) := by
  have cleared : s.Quiet (s.setLane d.lane { s.lane d.lane with tapped := none, cancelNoted := false }) :=
    .setLane_same s d.lane _
  simp only [State.endDecision]
  refine cleared.changes.trans ?_
  split
  · exact ((State.endRefused_quiet _ _ _ _).trans (State.engineDone_quiet _)).changes
  · exact ((State.endRefused_quiet _ _ _ _).trans (State.engineDone_quiet _)).changes
  · next refusal _ _ =>
    exact State.acceptOpen_changes _ d _ he (d.passedInPassage_iff.2 ⟨refusal, by simp [stage]⟩)
  · exact ((State.endRefused_quiet _ _ _ _).trans
      ((State.release_quiet _ _).trans (State.engineDone_quiet _))).changes
  · exact ((State.endRefused_quiet _ _ _ _).trans (State.engineDone_quiet _)).changes

/-- The stages of a decision in service, by induction on how many are run. -/
theorem runDecision_changes (n : Nat) (d : Decision) (s : State) (h : s.engine = .deciding d) :
    s.Changes (runDecision n d s) := by
  induction n generalizing d s with
  | zero => exact .refl
  | succ n ih =>
    unfold runDecision
    split
    · next stage => exact s.endDecision_changes d h stage
    · exact (decisionStage_changes d s h).trans (ih _ _ rfl)

/-! ### The commit (R150 to R152) -/

/-- One of the first four stages of a commit. -/
theorem commitStage_changes (c : Commit) (s : State) : s.Changes (commitStage c s).2 := by
  unfold commitStage
  split
  · exact (s.commitOfCount_quiet _ _).changes
  · next v _ _ _ =>
    simp only [stageRead]
    split
    · next e =>
      split
      · exact (State.quiet_of_portRead e).changes
      · exact (State.quiet_of_portRead e).changes.trans (State.raise_quiet _ _ _).changes
    · next e => exact (State.quiet_of_portRead e).changes.trans (State.raise_quiet _ _ _).changes
    · next e => exact (State.quiet_of_portRead e).changes.trans (State.raise_quiet _ _ _).changes
  · simp only [stageCharge]
    split
    · exact (s.raise_quiet _ _).changes
    · exact .refl
  · exact s.writeRecord_changes _ _
  · exact .refl

/-- A commit end (R118, R152). -/
theorem State.endCommit_quiet (s : State) (c : Commit) : s.Quiet (s.endCommit c) := by
  have dropped : s.Quiet (s.setLane c.lane { s.lane c.lane with openVerdict := none }) :=
    .setLane s c.lane _ fun slot h => by simp [LanePort.holdsSlot_of_none] at h
  simp only [State.endCommit]
  refine dropped.trans (.trans ?_ ((State.laneRest_quiet _ _).trans (State.engineDone_quiet _)))
  split
  · exact State.send_quiet _ _ _
  · exact .refl _

/-- The stages of a commit in service, by induction on how many are run. -/
theorem runCommit_changes (n : Nat) (c : Commit) (s : State) : s.Changes (runCommit n c s) := by
  induction n generalizing c s with
  | zero => exact .refl
  | succ n ih =>
    unfold runCommit
    split
    · exact (s.endCommit_quiet c).changes
    · have carried := State.Quiet.setCommitting (commitStage c s).2 (commitStage c s).1
      exact ((commitStage_changes c s).trans carried.changes).trans (ih _ _)


end Sys2Proof.Machine
end

section
namespace Sys2Proof.Machine

/-! ### Every command is a chain of elementary changes -/

/-- What a command leaves, where it leaves a state, is reached by elementary changes. -/
def Leads (s : State) (r : Result) : Prop := ∀ t, r = .next t → s.Changes t

theorem Leads.next {s t : State} (h : s.Changes t) : Leads s (.next t) := fun u e => by
  cases e
  exact h

theorem Leads.quiet {s t : State} (h : s.Quiet t) : Leads s (.next t) := .next h.changes

theorem Leads.direct (s : State) (c : Cmd) (ws : List Word) : Leads s (.next (s.hostDirect c (owner c ws))) :=
  .next (s.hostDirect_changes c ws)

theorem Leads.engine (s : State) (c : Cmd) (p : Progress) : Leads s (.next (s.runHost c (server c) p)) :=
  .next (s.runHost_changes c p)

theorem execPassageTimerExpiry_leads (l : Lane) (s : State) : Leads s (execPassageTimerExpiry l s) := by
  unfold execPassageTimerExpiry
  split
  · exact .quiet (s.expire_quiet l)
  · exact .next .refl

theorem execFrameDiscard_leads (l : Lane) (bytes : List RxByte) (s : State) :
    Leads s (execFrameDiscard l bytes s) := by
  simp only [execFrameDiscard]
  split
  · exact .quiet ((State.Quiet.setLane_same s l _).trans (State.raiseLaneFaults_quiet _ l _))
  · exact .next .refl

theorem execFrameTimeout_leads (l : Lane) (bytes : List RxByte) (s : State) :
    Leads s (execFrameTimeout l bytes s) := by
  simp only [execFrameTimeout]
  split
  · exact .quiet ((s.endFrame_quiet l).trans (State.raise_quiet _ _ _))
  · exact .next .refl

theorem execFrameSent_leads (l : Lane) (s : State) : Leads s (execFrameSent l s) := by
  unfold execFrameSent
  split
  · exact .next .refl
  · exact .quiet (.setLane_same s l _)

theorem execTransferBegin_leads (s : State) : Leads s (execTransferBegin s) := by
  unfold execTransferBegin
  split
  · exact .next .refl
  · exact .quiet (.of_rest rfl)

theorem execTransferComplete_leads (kind : Byte) (w : Word) (s : State) :
    Leads s (execTransferComplete kind w s) := by
  unfold execTransferComplete
  split
  · exact .next .refl
  · exact .next (.trans (State.Quiet.changes (.of_rest rfl)) (State.takeWord_changes _ _ w))

theorem execTapDecision_leads (p : Progress) (s : State) : Leads s (execTapDecision p s) := by
  unfold execTapDecision
  split
  · next d h => exact .next (runDecision_changes _ d s h)
  · exact .next .refl

theorem execCommit_leads (p : Progress) (s : State) : Leads s (execCommit p s) := by
  unfold execCommit
  split
  · exact .next (runCommit_changes _ _ s)
  · exact .next .refl

theorem execClearing_leads (p : Progress) (s : State) : Leads s (execClearing p s) := by
  unfold execClearing
  split
  · next n _ =>
    have cleared : s.Changes { s with
        mem := Memory.clearSlots s.mem n (clearCount (s.geometry.slots - n) p) } :=
      State.Change.changes (.memory rfl fun wf => Memory.clearSlots_wf _ _ _ wf)
    exact .next (cleared.trans (State.Quiet.setClearing _ _).changes)
  · exact .next .refl

theorem execClearingComplete_leads (s : State) : Leads s (execClearingComplete s) := by
  unfold execClearingComplete
  split
  · split
    · have serving : s.Quiet { s with service := .serving } := .of_service s (by decide) (by decide)
      exact .quiet (serving.trans (State.engineDone_quiet _))
    · exact .next .refl
  · exact .next .refl

theorem execWarmReset_leads (s : State) : Leads s (execWarmReset s) := by
  unfold execWarmReset
  split
  · exact .next .refl
  · have held : s.Quiet { s with resetLine := true } := .of_rest rfl
    exact .next (held.changes.trans (State.Change.warmReset _).changes)

theorem execSlotDecay_leads (slot : Nat) (words : Vector Word 16) (s : State) :
    Leads s (execSlotDecay slot words s) := by
  unfold execSlotDecay
  split
  · exact .next (State.Change.changes (.memory rfl fun wf => Memory.putSlot_wf _ _ _ wf))
  · intro t e
    cases e

/-- Every command leads on by elementary changes. -/
theorem exec_leads (i : Instr) (s : State) : Leads s (exec i s) := by
  cases i with
  | coldReset => exact .next (State.Change.coldReset s).changes
  | warmReset => exact execWarmReset_leads s
  | resetLineRelease => exact .quiet (.of_rest rfl)
  | slotDecay slot words => exact execSlotDecay_leads slot words s
  | secondEvent => exact .next s.secondEvent_changes
  | minuteEvent => exact .next s.minuteEvent_changes
  | passageTimerExpiry l => exact execPassageTimerExpiry_leads l s
  | tap l card => exact .quiet (s.takeFrame_quiet l _ _ fun t => t.takeTap_quiet l card)
  | passed l => exact .quiet (s.takeFrame_quiet l _ _ fun t => t.takePassed_quiet l)
  | walkaway l => exact .quiet (s.takeFrame_quiet l _ _ fun t => t.takeWalkaway_quiet l)
  | cancel l => exact .quiet (s.takeFrame_quiet l _ _ fun t => t.takeCancel_quiet l)
  | frameDiscard l bytes => exact execFrameDiscard_leads l bytes s
  | frameTimeout l bytes => exact execFrameTimeout_leads l bytes s
  | frameSent l => exact execFrameSent_leads l s
  | transferBegin => exact execTransferBegin_leads s
  | transferComplete kind w => exact execTransferComplete_leads kind w s
  | transferVoid => exact .quiet (.of_rest rfl)
  | tapDecision p => exact execTapDecision_leads p s
  | commit p => exact execCommit_leads p s
  | clearing p => exact execClearing_leads p s
  | clearingComplete => exact execClearingComplete_leads s
  | nop => exact .direct s .nop []
  | identify => exact .direct s .identify []
  | start k p => exact .direct s .start [k, p]
  | resume => exact .direct s .resume []
  | halt => exact .direct s .halt []
  | continueService => exact .direct s .continueService []
  | keep => exact .direct s .keep []
  | restart => exact .direct s .restart []
  | clockRead => exact .direct s .clockRead []
  | setTime minute => exact .direct s .setTime [minute]
  | newDay minute => exact .direct s .newDay [minute]
  | setDay day minute => exact .direct s .setDay [day, minute]
  | departureDefine d b r t c m f a => exact .direct s .departureDefine [d, b, r, t, c, m, f, a]
  | departureOpen d => exact .direct s .departureOpen [d]
  | departureClose d => exact .direct s .departureClose [d]
  | departureSetCapacity d c m => exact .direct s .departureSetCapacity [d, c, m]
  | departureLink d f => exact .direct s .departureLink [d, f]
  | departureRead d m => exact .direct s .departureRead [d, m]
  | departureRetire d => exact .direct s .departureRetire [d]
  | berthSetCurrent b d => exact .direct s .berthSetCurrent [b, d]
  | berthRead => exact .direct s .berthRead []
  | laneOpen l => exact .direct s .laneOpen [l]
  | laneClose l => exact .direct s .laneClose [l]
  | laneSet l b k c t => exact .direct s .laneSet [l, b, k, c, t]
  | laneRead l => exact .direct s .laneRead [l]
  | arbiterMode m => exact .direct s .arbiterMode [m]
  | setBottom l => exact .direct s .setBottom [l]
  | pollLanes => exact .direct s .pollLanes []
  | attentionRead => exact .direct s .attentionRead []
  | attentionAck c => exact .direct s .attentionAck [c]
  | attentionMask c => exact .direct s .attentionMask [c]
  | cardAdd p => exact .engine s .cardAdd p
  | cardFind p => exact .engine s .cardFind p
  | addValue p => exact .engine s .addValue p
  | setBalance p => exact .engine s .setBalance p
  | settle p => exact .engine s .settle p
  | setProduct p => exact .engine s .setProduct p
  | deny p => exact .engine s .deny p
  | allow p => exact .engine s .allow p
  | cardRetire p => exact .engine s .cardRetire p
  | enforce p => exact .engine s .enforce p
  | tableSeek p => exact .engine s .tableSeek p
  | tableRead p => exact .engine s .tableRead p
  | tableWrite p => exact .engine s .tableWrite p
  | fareSetBase p => exact .engine s .fareSetBase p
  | fareSetBand p => exact .engine s .fareSetBand p
  | fareSetClass p => exact .engine s .fareSetClass p
  | fareSetPolicy p => exact .engine s .fareSetPolicy p
  | fareRead p => exact .engine s .fareRead p
  | watchSet p => exact .engine s .watchSet p
  | watchClear p => exact .engine s .watchClear p
  | watchRead p => exact .engine s .watchRead p
  | sweepNext p => exact .engine s .sweepNext p

/-- Every step leads on by elementary changes. -/
theorem step_changes (s t : State) (h : step s = .next t) : s.Changes t := by
  unfold step at h
  split at h
  · injection h with h
    exact h ▸ .refl
  · next i rest _ =>
    have taken : s.Quiet { s with pending := rest } := .of_rest rfl
    exact taken.changes.trans (exec_leads i _ t h)

/-- A property that every elementary change keeps is kept by every step. -/
theorem step_keeps {P : State → Prop} (hP : ∀ s t, State.Change s t → P s → P t) (s t : State) (hs : P s)
    (h : step s = .next t) : P t := (step_changes s t h).keeps hP hs

end Sys2Proof.Machine
end

section
namespace Sys2Proof.Machine

/-! ### Canonical memory -/

theorem State.Change.keeps_canonical {s t : State} (c : State.Change s t) (h : Memory.wf s.mem = true) :
    Memory.wf t.mem = true := by
  cases c with
  | quiet q => rw [q.mem]; exact h
  | clock e _ => rw [e]; exact h
  | fares e _ => rw [e]; exact h
  | watch e _ => rw [e]; exact h
  | cursors e _ _ => rw [e]; exact h
  | memory _ canonical => exact canonical h
  | keep _ => exact h
  | started _ => exact h
  | warmReset =>
    unfold State.warmReset
    split <;> exact h
  | coldReset => exact Memory.nil_wf
  | decides _ _ => exact h
  | opens _ _ _ _ => exact h

/-- Settles O59: every elementary change of a step keeps the canonical form. -/
theorem stepKeepsMemoryCanonical : Obligations.StepKeepsMemoryCanonical := by
  unfold Obligations.StepKeepsMemoryCanonical
  exact fun s t h => step_keeps (P := fun u => Memory.wf u.mem = true) (fun _ _ c => c.keeps_canonical) s t h

/-! ### One verdict for each slot (R140) -/

theorem State.inPassage_iff (s : State) (slot : Nat) :
    s.inPassage slot = true ↔ ∃ l : Lane, (s.lane l).holdsSlot slot = true := by
  simp [State.inPassage]

theorem State.not_inPassage_iff (s : State) (slot : Nat) :
    s.inPassage slot = false ↔ ∀ l : Lane, ¬ (s.lane l).holdsSlot slot = true := by
  simp [State.inPassage]

/-- Lanes that hold no more slots, and a decision that has not newly passed the in-passage stage, keep the law. -/
theorem State.OneVerdictPerSlot.mono {s t : State} (h : s.OneVerdictPerSlot)
    (holds : ∀ l slot, (t.lane l).holdsSlot slot = true → (s.lane l).holdsSlot slot = true)
    (passed : ∀ d, t.engine = .deciding d → d.passedInPassage = true → s.engine = .deciding d) :
    t.OneVerdictPerSlot := by
  obtain ⟨one, free⟩ := h
  refine ⟨fun l m slot hl hm => one l m slot (holds l slot hl) (holds m slot hm), fun d hd hp => ?_⟩
  have none := (s.not_inPassage_iff _).1 (free d (passed d hd hp) hp)
  exact (t.not_inPassage_iff _).2 fun l hl => none l (holds l _ hl)

/-- Lanes that hold no slot, beside any engine, meet the law. -/
theorem State.oneVerdictPerSlot_of_none {t : State} (h : ∀ l slot, (t.lane l).holdsSlot slot = false) :
    t.OneVerdictPerSlot :=
  ⟨fun l m slot hl => by simp [h] at hl, fun d _ _ => (t.not_inPassage_iff _).2 fun l => by simp [h]⟩

/-- With the same lanes and engine the law is the same. -/
theorem State.OneVerdictPerSlot.congr {s t : State} (h : s.OneVerdictPerSlot) (lanes : t.lanes = s.lanes)
    (engine : t.engine = s.engine) : t.OneVerdictPerSlot :=
  h.mono (fun l slot hl => by rwa [State.lane, lanes] at hl) (fun d hd _ => engine ▸ hd)

/-- A decision moved on that has passed the in-passage stage at a slot in no passage (R140). -/
theorem State.OneVerdictPerSlot.decides {s : State} {d d' : Decision} (h : s.OneVerdictPerSlot)
    (he : s.engine = .deciding d) (advances : d.Advances d' s) :
    State.OneVerdictPerSlot { s with engine := .deciding d' } := by
  obtain ⟨one, free⟩ := h
  refine ⟨one, fun x hx hp => ?_⟩
  obtain rfl : d' = x := by injection hx
  rcases advances hp with ⟨passed, slot⟩ | none
  · exact slot ▸ free d he passed
  · exact none

/-- A verdict opened on the slot of a decision that has passed the in-passage stage: no other lane holds it. -/
theorem State.OneVerdictPerSlot.opens {s : State} {d : Decision} {l : Lane} {p : LanePort} (h : s.OneVerdictPerSlot)
    (he : s.engine = .deciding d) (passed : d.passedInPassage = true)
    (hp : ∀ slot, p.holdsSlot slot = true → slot = d.slot) :
    State.OneVerdictPerSlot { s.setLane l p with engine := .idle } := by
  obtain ⟨one, free⟩ := h
  have none := (s.not_inPassage_iff _).1 (free d he passed)
  have read : ∀ k, State.lane { s.setLane l p with engine := .idle } k = if k = l then p else s.lane k :=
    fun k => s.setLane_lane l k p
  refine ⟨fun k m slot hk hm => ?_, fun x hx _ => Engine.noConfusion hx⟩
  rw [read] at hk hm
  split at hk <;> split at hm
  · next hkl hml => exact hkl.trans hml.symm
  · exact absurd (hp slot hk ▸ hm) (none m)
  · exact absurd (hp slot hm ▸ hk) (none k)
  · exact one k m slot hk hm

theorem State.Change.keeps_oneVerdictPerSlot {s t : State} (c : State.Change s t) (h : s.OneVerdictPerSlot) :
    t.OneVerdictPerSlot := by
  cases c with
  | quiet q => exact h.mono q.holds q.passed
  | clock e _ => exact h.congr (by rw [e]) (by rw [e])
  | fares e _ => exact h.congr (by rw [e]) (by rw [e])
  | watch e _ => exact h.congr (by rw [e]) (by rw [e])
  | cursors e _ _ => exact h.congr (by rw [e]) (by rw [e])
  | memory e _ => exact h.congr (by rw [e]) (by rw [e])
  | keep _ => exact h.congr rfl rfl
  | started _ =>
    exact State.oneVerdictPerSlot_of_none fun l slot => LanePort.holdsSlot_of_none (by
      simp [State.lane, State.started, LanePort.atStart]) slot
  | warmReset =>
    refine State.oneVerdictPerSlot_of_none fun l slot => LanePort.holdsSlot_of_none ?_ slot
    unfold State.warmReset
    split <;> simp [State.lane, State.warmCommon, LanePort.reset]
  | coldReset =>
    exact State.oneVerdictPerSlot_of_none fun l slot => LanePort.holdsSlot_of_none (by
      simp [State.lane, State.reset, LanePort.reset]) slot
  | decides he advances => exact h.decides he advances
  | opens l he passed hp => exact h.opens he passed hp

/-- Settles O56: a lane comes to hold a slot at an OPEN decision end alone, and the decision passed the in-passage
stage at a slot that no lane held; no change in between makes another lane hold it. -/
theorem stepKeepsOneVerdictPerSlot : Obligations.StepKeepsOneVerdictPerSlot := by
  unfold Obligations.StepKeepsOneVerdictPerSlot
  exact fun s t _ h => step_keeps (fun _ _ c => c.keeps_oneVerdictPerSlot) s t h

/-! ### Settings within their ranges (R6, R19, R49, R71, R146, R183) -/

theorem Geometry.slots_pos (g : Geometry) : 0 < g.slots := by simp [Geometry.slots]

theorem Geometry.reset_legal : Geometry.reset.Legal := by simp [Geometry.Legal, Geometry.reset]

theorem FareTables.reset_legal : FareTables.reset.Legal := by
  unfold FareTables.Legal
  decide

theorem watchLegal_replicate_none : WatchLegal (Vector.replicate 4 none) := fun i e h => by simp at h

/-- Settings that stay, beside a keep flag and a service state that stay legal. -/
theorem State.Quiet.keeps_settings {s t : State} (q : s.Quiet t) (h : s.SettingsLegal) : t.SettingsLegal := by
  obtain ⟨geometry, kept, table, sweep, keep, clock, fares, watch⟩ := h
  refine ⟨q.geometry ▸ geometry, q.kept ▸ kept, ?_, ?_, fun hv => ?_, q.clock ▸ clock, q.fares ▸ fares,
    q.watch ▸ watch⟩
  · rw [q.tableCursor, q.geometry]; exact table
  · rw [q.sweepCursor, q.geometry]; exact sweep
  · obtain ⟨same, unstarted, clearing⟩ := keep (q.keepValid hv)
    refine ⟨by rw [q.kept, q.geometry]; exact same, ?_⟩
    rcases q.service with e | legal
    · rw [e]; exact ⟨unstarted, clearing⟩
    · exact legal

/-- A warm reset takes the geometry from the keep, or the reset value, and both cursors to 0 (R187). -/
theorem State.warmReset_settings (s : State) (h : s.SettingsLegal) : s.warmReset.SettingsLegal := by
  obtain ⟨_, kept, _, _, keep, clock, fares, _⟩ := h
  unfold State.warmReset
  split
  · exact ⟨kept, kept, Geometry.slots_pos _, Geometry.slots_pos _, fun _ => ⟨rfl, by simp, by simp⟩, clock, fares,
      watchLegal_replicate_none⟩
  · next hv =>
    exact ⟨Geometry.reset_legal, kept, Geometry.slots_pos _, Geometry.slots_pos _, fun h => absurd h hv, clock,
      FareTables.reset_legal, watchLegal_replicate_none⟩

theorem State.Change.keeps_settings {s t : State} (c : State.Change s t) (h : s.SettingsLegal) :
    t.SettingsLegal := by
  obtain ⟨geometry, kept, table, sweep, keep, clock, fares, watch⟩ := h
  have h : s.SettingsLegal := ⟨geometry, kept, table, sweep, keep, clock, fares, watch⟩
  cases c with
  | quiet q => exact q.keeps_settings h
  | clock e legal => rw [e]; exact ⟨geometry, kept, table, sweep, keep, legal clock, fares, watch⟩
  | fares e legal => rw [e]; exact ⟨geometry, kept, table, sweep, keep, clock, legal fares, watch⟩
  | watch e legal => rw [e]; exact ⟨geometry, kept, table, sweep, keep, clock, fares, legal watch⟩
  | cursors e ht hs =>
    rw [e]
    exact ⟨geometry, kept, ht.elim (· ▸ table) id, hs.elim (· ▸ sweep) id, keep, clock, fares, watch⟩
  | memory e _ => rw [e]; exact ⟨geometry, kept, table, sweep, keep, clock, fares, watch⟩
  | keep hv =>
    refine ⟨geometry, geometry, table, sweep, fun _ => ⟨rfl, ?_⟩, clock, fares, watch⟩
    rcases hv with e | e <;> simp [e]
  | started legal =>
    exact ⟨legal, kept, Geometry.slots_pos _, Geometry.slots_pos _, fun hv => Bool.noConfusion hv, clock, fares,
      watchLegal_replicate_none⟩
  | warmReset => exact s.warmReset_settings h
  | coldReset =>
    exact ⟨Geometry.reset_legal, Geometry.reset_legal, Geometry.slots_pos _, Geometry.slots_pos _,
      fun hv => Bool.noConfusion hv, by simp [Clock.Legal, State.reset], FareTables.reset_legal,
      watchLegal_replicate_none⟩
  | decides _ _ => exact ⟨geometry, kept, table, sweep, keep, clock, fares, watch⟩
  | opens _ _ _ _ => exact ⟨geometry, kept, table, sweep, keep, clock, fares, watch⟩

/-- Settles O52: every elementary change of a step writes the settings within their ranges. -/
theorem stepKeepsSettingsLegal : Obligations.StepKeepsSettingsLegal := by
  unfold Obligations.StepKeepsSettingsLegal
  exact fun s t h => step_keeps (fun _ _ c => c.keeps_settings) s t h

end Sys2Proof.Machine
end

section
namespace Sys2Proof.Machine

/-! ### A decision with its provisional write already marked (R137, R144)

`Decision.Grounded` asks nothing of the slot of a decision whose provisional write is marked as done (`wrote`), and
no other premise says that such a decision has left the write stage. No run marks it there; but from a state that
does, the stage writes the record again, into whatever slot the decision names. -/

/-- A record of card 5, whose window is bucket 5 where P = 1: slots 20 to 23. -/
def strayRecord : CardRecord where
  card := 5
  product := .purse
  fareClass := 0
  provisional := true
  deny := false
  latch := false
  changed := true
  balance := 0
  passFirst := 0
  passLast := 0
  capDay := 0
  daySpend := 0
  journey := none
  boardings := 0

/-- A decision at its write stage, its write marked as done, at slot 0, which is not in the window of card 5. -/
def strayDecision : Decision where
  lane := 0
  card := 5
  day := 0
  minute := 0
  stage := .write
  lookup := none
  slot := 0
  record := some strayRecord
  built := true
  hold := some ⟨0, 0, 0, 1⟩
  fare := FareFields.zero
  transfer := false
  wrote := true
  refusal := none

/-- SERVING with every slot FREE, the decision in service for lane 0 and its next stage about to be run. -/
def strayState : State :=
  { State.reset with
    service := .serving
    lanes := State.reset.lanes.set 0 { LanePort.reset with state := .deciding, tapped := some 5 }
    engine := .deciding strayDecision
    pending := [.tapDecision (.stages 1)] }

/-- The state after that stage: the record stands in slot 0. -/
def strayWritten : State :=
  { strayState with
    mem := Memory.writeSlot [] 0 (encodeRecord strayRecord)
    engine := .deciding { strayDecision with stage := .decisionEnd }
    pending := [] }

theorem strayState_steps : step strayState = .next strayWritten := rfl

theorem strayState_settingsLegal : strayState.SettingsLegal :=
  ⟨Geometry.reset_legal, Geometry.reset_legal, Geometry.slots_pos _, Geometry.slots_pos _,
    fun h => Bool.noConfusion h, by simp [Clock.Legal, strayState, State.reset], FareTables.reset_legal,
    watchLegal_replicate_none⟩

theorem strayState_coherent : strayState.Coherent := by
  refine ⟨?_, by decide, by decide, by decide, by decide, ?_, by decide, ?_, by decide, by decide, by decide,
    by decide, by decide, by decide, by decide, by decide⟩
  · unfold LanePort.Coherent
    decide
  · intro d h
    obtain rfl : strayDecision = d := by injection h
    simp [Decision.Coherent, strayDecision]
  · intro x h
    exact Engine.noConfusion h

/-- Every slot is FREE, so that no slot holds a card, and the decision's marks leave nothing to be said of it. -/
theorem strayState_tableSound : strayState.TableSound := by
  have free : ∀ slot, Memory.verdict strayState.mem slot = .free := fun slot =>
    Memory.verdict_unlisted [] slot fun _ _ _ => rfl
  refine ⟨fun _ _ slot card _ ⟨r, live, _⟩ => ?_, fun n h => Engine.noConfusion h, fun d h => ?_,
    fun c v r h => Engine.noConfusion h⟩
  · rw [free] at live
    cases live
  · obtain rfl : strayDecision = d := by injection h
    exact ⟨fun h => DecisionStage.noConfusion h, fun _ h => Bool.noConfusion h,
      fun h => h.elim DecisionStage.noConfusion DecisionStage.noConfusion⟩

/-- The slot written reads LIVE with the record of card 5. -/
theorem strayWritten_holdsCard : strayWritten.holdsCard 0 5 := by
  refine ⟨strayRecord, ?_, rfl⟩
  rw [show strayWritten.mem = Memory.writeSlot [] 0 (encodeRecord strayRecord) from rfl,
    Memory.verdict_writeSlot _ _ _ Memory.nil_wf]
  decide

/-- Refutes O57: from `strayState`, which meets every premise, the write stage puts a record of card 5 into slot 0,
outside the card's window. -/
theorem not_stepKeepsTableSound : ¬ Obligations.StepKeepsTableSound := by
  unfold Obligations.StepKeepsTableSound
  intro h
  obtain ⟨placed, _⟩ := h strayState strayWritten strayState_settingsLegal strayState_coherent Memory.nil_wf
    strayState_tableSound (fun slot words e => by cases e) strayState_steps
  obtain ⟨inWindow, _⟩ := placed (by decide) (by decide) 0 5 (Geometry.slots_pos _) strayWritten_holdsCard
  exact absurd inWindow (by decide)

end Sys2Proof.Machine
end

section
namespace Sys2Proof.Machine

/-! ### Slots and their check words (R1, R2, R3) -/

/-- A byte of another slot lies outside the bytes of a slot. -/
theorem outside_of_div_ne {a slot : Nat} (h : a / 32 ≠ slot) : a < 32 * slot ∨ 32 * slot + 32 ≤ a := by omega

/-- A slot put stores its words and leaves every byte outside the slot. -/
theorem Memory.read_putSlot_other (m : List Host.Cell) (slot a : Nat) (v : Vector Word 16) (h : Memory.wf m = true)
    (ha : a / 32 ≠ slot) : Memory.read (Memory.putSlot m slot v) a = Memory.read m a :=
  Memory.read_putSlot_outside m slot a v h (outside_of_div_ne ha)

/-- The port's slot write stores its words with their check word (R1, R3). -/
theorem Memory.writeSlot_stores (m : List Host.Cell) (slot : Nat) (content : Vector Word 15)
    (h : Memory.wf m = true) : StoresSlot m (Memory.writeSlot m slot content) slot content :=
  ⟨Memory.readSlot_writeSlot m slot content h, Memory.writeSlot_wf m slot content h,
    fun a ha => Memory.read_putSlot_other m slot a _ h ha⟩

/-- Slots whose bytes read the same have the same words. -/
theorem Memory.readSlot_congr {m n : List Host.Cell} {slot : Nat}
    (h : ∀ a, 32 * slot ≤ a → a < 32 * slot + 32 → Memory.read m a = Memory.read n a) :
    Memory.readSlot m slot = Memory.readSlot n slot := by
  refine Vector.ext fun i hi => ?_
  rw [Memory.readSlot_getElem _ _ _ hi, Memory.readSlot_getElem _ _ _ hi, Memory.readWord, Memory.readWord,
    h _ (by omega) (by omega), h _ (by omega) (by omega)]

/-- A slot cleared reads as the FREE pattern with its check word (R2, R17). -/
theorem Memory.readSlot_clearSlots (m : List Host.Cell) (lo n slot : Nat) (h : Memory.wf m = true)
    (hlo : lo ≤ slot) (hhi : slot < lo + n) :
    Memory.readSlot (Memory.clearSlots m lo n) slot = withCheck freeContent := by
  rw [← Memory.readSlot_writeSlot m slot freeContent h]
  refine Memory.readSlot_congr fun a h1 h2 => ?_
  rw [Memory.read_clearSlots, if_pos (by omega), Memory.read_free_slot m slot a h ⟨h1, h2⟩]

/-- Settles O47: a decay puts the words given into the bytes of its slot, without a check word of its own. -/
theorem slotDecays : Obligations.SlotDecays := by
  unfold Obligations.SlotDecays
  intro s slot words h
  refine ⟨fun hs => ⟨Memory.putSlot s.mem slot words, if_pos (by omega), Memory.readSlot_putSlot _ _ _ h,
    Memory.putSlot_wf _ _ _ h, fun a ha => Memory.read_putSlot_other _ _ _ _ h ha⟩, fun hs => if_neg (by omega)⟩

/-- The sum of words is the sum of their numbers, modulo 65,536. -/
theorem wordSum_toNat (ws : List Word) : (wordSum ws).toNat = (ws.map BitVec.toNat).sum % 65536 := by
  have sum : ∀ (ws : List Word) (w : Word),
      (ws.foldl (· + ·) w).toNat = (w.toNat + (ws.map BitVec.toNat).sum) % 65536 := by
    intro ws
    induction ws with
    | nil => intro w; simp [Nat.mod_eq_of_lt w.isLt]
    | cons v ws ih =>
      intro w
      simp only [List.foldl_cons, ih, BitVec.toNat_add, List.map_cons, List.sum_cons]
      omega
  rw [wordSum, sum]
  simp

/-- The check word is 65,535 less the sum of the words modulo 65,536 (R3). -/
theorem checkWord_toNat (c : Vector Word 15) :
    (checkWord c).toNat = 65535 - (c.toList.map BitVec.toNat).sum % 65536 := by
  have sum := wordSum_toNat c.toList
  rw [checkWord, BitVec.toNat_sub, sum]
  norm_num
  omega

/-- Settles O48: what a slot write stores is the content with its check word, which fills the sum up to 65,535. -/
theorem checkWordWritten : Obligations.CheckWordWritten := by
  unfold Obligations.CheckWordWritten
  refine ⟨fun m slot content h => ?_, fun m slot h => ?_⟩
  · obtain ⟨stored, _, outside⟩ := Memory.writeSlot_stores m slot content h
    simp only [stored]
    refine ⟨fun i => ?_, ?_, ?_, outside⟩
    · simp [withCheck, i.isLt]
    · simpa [withCheck] using checkWord_toNat content
    · have check := checkWord_toNat content
      simp only [withCheck, Vector.toList_push, List.map_append, List.sum_append, List.map_cons, List.map_nil,
        List.sum_cons, List.sum_nil, check]
      omega
  · rw [Memory.readSlot_writeSlot m slot freeContent h]
    decide

/-! ### Clearing (R17, R190) -/

/-- How far clearing gets: the stages given, or all, and never beyond the table (log 3). -/
theorem clearCount_stages (first n slots : Nat) :
    first + clearCount (slots - first) (.stages n) = max first (min (first + n) slots) := by
  simp only [clearCount]
  omega

theorem clearCount_whole (first slots : Nat) : first + clearCount (slots - first) .whole = max first slots := by
  simp only [clearCount]
  omega

/-- With no request standing the engine stays free. -/
theorem State.settle_quiet_arbiter (s : State) (h : s.arbiter.quiet = true) : s.settle = s := by
  simp only [Arbiter.quiet, Bool.and_eq_true, List.all_eq_true, Bool.not_eq_true'] at h
  obtain ⟨⟨lanes, host⟩, clearing⟩ := h
  have none := s.nextGrant_quiet clearing host (fun l => (lanes l (List.mem_finRange l)).1)
    (fun l => (lanes l (List.mem_finRange l)).2)
  rcases s.settle_cases with ⟨_, e⟩ | ⟨_, _, e⟩ | ⟨g, _, some, _⟩
  · exact e
  · exact e
  · rw [none] at some
    cases some

/-- Settles O36: clearing is `Memory.clearSlots` over the slots that the progress counts; its completion at the end of
the table settles the arbiter with the engine idle. -/
theorem clearingTaken : Obligations.ClearingTaken := by
  unfold Obligations.ClearingTaken
  intro s first he h
  have complete : exec .clearingComplete s =
      if s.geometry.slots ≤ first then .next { s with service := .serving }.engineDone else .next s := by
    simp only [exec, execClearingComplete, he]
  refine ⟨fun p => ?_, fun hs => ?_, fun hs => ?_⟩
  · refine ⟨Memory.clearSlots s.mem first (clearCount (s.geometry.slots - first) p),
      first + clearCount (s.geometry.slots - first) p, ?_, Memory.clearSlots_wf _ _ _ h, ?_, ?_, ?_, ?_⟩
    · simp only [exec, execClearing, he]
    · rintro n rfl
      exact clearCount_stages first n _
    · rintro rfl
      exact clearCount_whole first _
    · exact fun slot lo hi => Memory.readSlot_clearSlots _ _ _ _ h lo hi
    · intro a ha
      rw [Memory.read_clearSlots, if_neg (by omega)]
  · rw [if_pos hs] at complete
    refine ⟨complete, fun quiet => ?_⟩
    rw [complete]
    exact congrArg _ (State.settle_quiet_arbiter { s with service := .serving, engine := .idle } quiet)
  · rw [complete, if_neg (by omega)]

/-! ### Host requests served whole (R153) -/

/-- A host request served whole: what its service leaves, with the answer handed over. -/
theorem State.runHost_whole {s t : State} {c : Cmd} {ws : List Word} {a : Answer}
    {serve : List Word → State → State × Answer} (h : s.hosts c ws) (served : serve ws s = (t, a))
    (link : t.link = s.link) : s.runHost c serve .whole = t.handed a := by
  obtain ⟨engine, phase⟩ := h
  rw [← link] at phase
  simp only [State.runHost, engine, if_true, stageCount, State.hostStages, served, State.handOver, phase]
  rfl

/-! ### TABLE SEEK and TABLE READ (R20, R21) -/

/-- A slot index one on, wrapping past the last slot (R21). -/
theorem Geometry.nextSlot_eq (g : Geometry) {slot : Nat} (h : slot < 4 * 2 ^ g.k) :
    g.nextSlot slot = if slot + 1 = 4 * 2 ^ g.k then 0 else slot + 1 := by
  unfold Geometry.nextSlot Geometry.slots
  split
  · next e => rw [e, Nat.mod_self]
  · exact Nat.mod_eq_of_lt (by omega)

theorem State.advanceTable_eq (s : State) (h : s.tableCursor < 4 * 2 ^ s.geometry.k) :
    s.advanceTable = { s with
      tableCursor := if s.tableCursor + 1 = 4 * 2 ^ s.geometry.k then 0 else s.tableCursor + 1 } := by
  rw [State.advanceTable, s.geometry.nextSlot_eq h]

/-- Settles O44: both requests are served whole, and the read moves the cursor on whatever the slot's verdict is. -/
theorem tableSoughtAndRead : Obligations.TableSoughtAndRead := by
  unfold Obligations.TableSoughtAndRead
  refine ⟨fun s hi lo h => ?_, fun s h inTable => ?_⟩
  · have served : serveTableSeek [hi, lo] s =
        if 65536 * hi.toNat + lo.toNat < 4 * 2 ^ s.geometry.k then
          { s with tableCursor := 65536 * hi.toNat + lo.toNat }.served
        else s.refused .badOperand := by
      rw [Nat.mul_comm 65536]
      rfl
    refine ⟨fun inTable => ?_, fun beyond => ?_⟩
    · exact congrArg _ (State.runHost_whole h (served.trans (if_pos inTable)) rfl)
    · exact congrArg _ (State.runHost_whole h (served.trans (if_neg (by omega))) rfl)
  · rcases s.portRead_cases s.tableCursor with ⟨fault, e⟩ | ⟨sound, e⟩
    · refine ⟨fun sound => absurd fault sound, fun _ => ?_⟩
      have served : serveTableRead [] s =
          (s.raise .memoryFault (wideSubject s.tableCursor)).advanceTable.refused .fault := by
        simp only [serveTableRead, e]
      rw [State.advanceTable_eq (s.raise _ _) inTable] at served
      exact congrArg _ (State.runHost_whole h served rfl)
    · refine ⟨fun _ => ?_, fun fault => absurd fault sound⟩
      have served : serveTableRead [] s =
          (s.advanceTable, .done (Memory.readSlot s.mem s.tableCursor).toList 0) := by
        simp only [serveTableRead, e]
      rw [s.advanceTable_eq inTable] at served
      exact congrArg _ (State.runHost_whole h served rfl)

/-! ### The probe window (R8, R9) -/

/-- The slots of a bucket. -/
def bucketSlots (b : Nat) : List Nat := [4 * b, 4 * b + 1, 4 * b + 2, 4 * b + 3]

theorem windowSlots_eq (g : Geometry) (card : CardNumber) :
    windowSlots g card = (List.range g.p).flatMap fun i => bucketSlots ((homeBucket g card + i) % 2 ^ g.k) := by
  simp [windowSlots, windowBuckets, bucketSlots, List.flatMap_map]

/-- The slots of `p` buckets are four to each. -/
theorem flatMap_bucketSlots_length (f : Nat → Nat) (p : Nat) :
    ((List.range p).flatMap fun i => bucketSlots (f i)).length = 4 * p := by
  simp [List.length_flatMap, bucketSlots, Nat.mul_comm]

/-- Slot `i` of the slots of buckets one after the other, by induction on the buckets. -/
theorem flatMap_bucketSlots_getElem? (f : Nat → Nat) (p i : Nat) (h : i < 4 * p) :
    ((List.range p).flatMap fun i => bucketSlots (f i))[i]? = some (4 * f (i / 4) + i % 4) := by
  induction p with
  | zero => omega
  | succ p ih =>
    have length := flatMap_bucketSlots_length f p
    rw [List.range_succ, List.flatMap_append, List.flatMap_singleton]
    by_cases hi : i < 4 * p
    · rw [List.getElem?_append_left (by omega)]
      exact ih hi
    · rw [List.getElem?_append_right (by omega), length]
      obtain ⟨j, hj, rfl⟩ : ∃ j < 4, i = 4 * p + j := ⟨i - 4 * p, by omega, by omega⟩
      have bucket : (4 * p + j) / 4 = p := by omega
      have place : (4 * p + j) % 4 = j := by omega
      rw [bucket, place, Nat.add_sub_cancel_left]
      interval_cases j <;> rfl

theorem windowSlots_length (g : Geometry) (card : CardNumber) : (windowSlots g card).length = 4 * g.p := by
  rw [windowSlots_eq]
  exact flatMap_bucketSlots_length _ _

/-- Slot `i` of a window: slot `i % 4` of bucket `i / 4` from the home bucket on, wrapping (R9). -/
theorem windowSlots_getElem? (g : Geometry) (card : CardNumber) {i : Nat} (h : i < 4 * g.p) :
    (windowSlots g card)[i]? = some (4 * ((homeBucket g card + i / 4) % 2 ^ g.k) + i % 4) := by
  rw [windowSlots_eq]
  exact flatMap_bucketSlots_getElem? _ _ _ h

/-- A slot of a window is a slot of the table. -/
theorem lt_of_mem_windowSlots {g : Geometry} {card : CardNumber} {slot : Nat} (h : slot ∈ windowSlots g card) :
    slot < 4 * 2 ^ g.k := by
  obtain ⟨i, hi, e⟩ := List.getElem_of_mem h
  rw [windowSlots_length] at hi
  have := windowSlots_getElem? g card hi
  rw [List.getElem?_eq_getElem (by rwa [windowSlots_length]), e] at this
  have bucket : (homeBucket g card + i / 4) % 2 ^ g.k < 2 ^ g.k := Nat.mod_lt _ (by positivity)
  injection this with this
  omega

/-- With at least as many buckets as the window takes, its slots are distinct (R9). -/
theorem windowSlots_nodup (g : Geometry) (card : CardNumber) (h : g.p ≤ 2 ^ g.k) : (windowSlots g card).Nodup := by
  rw [List.nodup_iff_getElem?_ne_getElem?]
  intro i j hij hj same
  rw [windowSlots_length] at hj
  rw [windowSlots_getElem? g card (hij.trans hj), windowSlots_getElem? g card hj] at same
  injection same with same
  have buckets : homeBucket g card + i / 4 ≡ homeBucket g card + j / 4 [MOD 2 ^ g.k] := by
    unfold Nat.ModEq
    omega
  have step := Nat.ModEq.add_left_cancel' _ buckets
  rw [Nat.ModEq, Nat.mod_eq_of_lt (by omega), Nat.mod_eq_of_lt (by omega)] at step
  omega

/-! ### Lookups (R11 to R13) -/

/-- Slot verdict FAULT, as a test. -/
abbrev Memory.faulty (m : List Host.Cell) (slot : Nat) : Bool := Memory.verdict m slot == .fault

/-- Slot verdict FREE, as a test. -/
abbrev Memory.free (m : List Host.Cell) (slot : Nat) : Bool := Memory.verdict m slot == .free

/-- A lookup answers a slot fault exactly where its window has one, the first (R13). -/
theorem lookupSlots_fault_iff (m : List Host.Cell) (card : CardNumber) (window : List Nat)
    (found : Option (Nat × CardRecord)) (insert : Option Nat) (slot : Nat) :
    lookupSlots m card window found insert = .fault slot ↔ window.find? (Memory.faulty m) = some slot := by
  induction window generalizing found insert with
  | nil => cases found <;> simp [lookupSlots]
  | cons a rest ih =>
    cases hv : Memory.verdict m a with
    | fault => simp [lookupSlots, Memory.faulty, hv]
    | free => simp [lookupSlots, hv, ih]
    | live r => simp [lookupSlots, hv, ih]

/-- A lookup that meets no fault and no other holder of the card than one slot, in the window or noted before,
answers that slot, with the first FREE slot as insert slot (R11, R12). -/
theorem lookupSlots_found_of (m : List Host.Cell) (card : CardNumber) (window : List Nat)
    (found : Option (Nat × CardRecord)) (insert : Option Nat) (slot : Nat) (r : CardRecord)
    (sound : ∀ x ∈ window, Memory.verdict m x ≠ .fault) (live : Memory.verdict m slot = .live r)
    (names : r.card = card) (only : ∀ x ∈ window, (∃ q, Memory.verdict m x = .live q ∧ q.card = card) → x = slot)
    (noted : found = some (slot, r) ∨ (found = none ∧ slot ∈ window)) :
    lookupSlots m card window found insert = .found slot r (insert.or (window.find? (Memory.free m))) := by
  induction window generalizing found insert with
  | nil =>
    rcases noted with rfl | ⟨_, h⟩
    · simp [lookupSlots]
    · cases h
  | cons a rest ih =>
    have sound' : ∀ x ∈ rest, Memory.verdict m x ≠ .fault := fun x hx => sound x (List.mem_cons_of_mem a hx)
    have only' := fun x hx => only x (List.mem_cons_of_mem a hx)
    cases hv : Memory.verdict m a with
    | fault => exact absurd hv (sound a List.mem_cons_self)
    | free =>
      have other : slot ≠ a := fun e => by rw [← e, live] at hv; cases hv
      rw [lookupSlots, hv]
      simp only
      rw [ih _ _ sound' only' (noted.imp_right fun ⟨hf, hm⟩ => ⟨hf, (List.mem_cons.1 hm).resolve_left other⟩)]
      cases insert <;> simp [hv]
    | live q =>
      rw [lookupSlots, hv]
      simp only
      rw [ih _ _ sound' only' ?_]
      · simp [hv]
      · split
        · next hq =>
          obtain rfl : a = slot := only a List.mem_cons_self ⟨q, hv, hq⟩
          rw [live] at hv
          cases hv
          exact .inl rfl
        · next hq =>
          refine noted.imp_right fun ⟨hf, hm⟩ => ⟨hf, (List.mem_cons.1 hm).resolve_left fun e => hq ?_⟩
          rw [← e, live] at hv
          cases hv
          exact names

/-- A lookup that meets no fault and no holder of the card answers NOT FOUND, with the first FREE slot as insert
slot (R11, R12). -/
theorem lookupSlots_notFound_of (m : List Host.Cell) (card : CardNumber) (window : List Nat) (insert : Option Nat)
    (sound : ∀ x ∈ window, Memory.verdict m x ≠ .fault)
    (absent : ∀ x ∈ window, ¬∃ q, Memory.verdict m x = .live q ∧ q.card = card) :
    lookupSlots m card window none insert = .notFound (insert.or (window.find? (Memory.free m))) := by
  induction window generalizing insert with
  | nil => simp [lookupSlots]
  | cons a rest ih =>
    have sound' : ∀ x ∈ rest, Memory.verdict m x ≠ .fault := fun x hx => sound x (List.mem_cons_of_mem a hx)
    have absent' := fun x hx => absent x (List.mem_cons_of_mem a hx)
    cases hv : Memory.verdict m a with
    | fault => exact absurd hv (sound a List.mem_cons_self)
    | free =>
      rw [lookupSlots, hv]
      simp only
      rw [ih _ sound' absent']
      cases insert <;> simp [hv]
    | live q =>
      have other : q.card ≠ card := fun e => absent a List.mem_cons_self ⟨q, hv, e⟩
      rw [lookupSlots, hv]
      simp only [other, if_false]
      rw [ih _ sound' absent']
      simp [hv]

/-- Settles O49: the window by its lengths and indices, and each outcome of the lookup by induction on the window. -/
theorem lookupDecides : Obligations.LookupDecides := by
  unfold Obligations.LookupDecides
  refine ⟨fun g card ⟨k, _, _, p⟩ => ?_, fun m card window => ?_⟩
  · have enough : g.p ≤ 2 ^ g.k := p.trans (le_trans (by norm_num) (Nat.pow_le_pow_right (by norm_num) k))
    exact ⟨windowSlots_length g card, windowSlots_nodup g card enough, fun slot => lt_of_mem_windowSlots,
      fun i h => windowSlots_getElem? g card h⟩
  · refine ⟨fun slot => lookupSlots_fault_iff m card window none none slot, fun sound => ⟨?_, fun absent => ?_⟩⟩
    · exact fun slot r mem live names only =>
        lookupSlots_found_of m card window none none slot r sound live names only (.inr ⟨rfl, mem⟩)
    · exact lookupSlots_notFound_of m card window none sound absent

end Sys2Proof.Machine
end

section
namespace Sys2Proof.Machine

/-! ### A record read back into its words (11.5, R25, R26, R197) -/

@[simp] theorem word_toNat_self (w : Word) : word w.toNat = w := by simp [word]

/-- A word is the word of a number that is its own modulo 65,536. -/
theorem word_eq {n : Nat} {w : Word} (h : n % 65536 = w.toNat) : word n = w :=
  BitVec.eq_of_toNat_eq (by rw [word_toNat, h])

/-- The upper word of two. -/
theorem extractLsb'_append_high {n : Nat} (v : BitVec n) (w : Word) (start len : Nat) :
    (v ++ w).extractLsb' (16 + start) len = v.extractLsb' start len := by
  refine BitVec.eq_of_getLsbD_eq fun i hi => ?_
  simp only [BitVec.getLsbD_extractLsb', BitVec.getLsbD_append, hi]
  rw [if_neg (by omega), show 16 + start + i - 16 = start + i by omega]

/-- The lower word of two. -/
theorem extractLsb'_append_low {n : Nat} (v : BitVec n) (w : Word) : (v ++ w).extractLsb' 0 16 = w := by
  refine BitVec.eq_of_getLsbD_eq fun i hi => ?_
  simp only [BitVec.getLsbD_extractLsb', BitVec.getLsbD_append, hi]
  simp [hi]

/-- The three words of a card number made of three words. -/
theorem ofCardWords_words (a b c : Word) :
    (ofCardWords a b c).extractLsb' 32 16 = a ∧ (ofCardWords a b c).extractLsb' 16 16 = b
    ∧ (ofCardWords a b c).extractLsb' 0 16 = c := by
  refine ⟨?_, ?_, extractLsb'_append_low (a ++ b) c⟩
  · have high := extractLsb'_append_high (a ++ b) c 16 16
    rw [extractLsb'_append_high a b 0 16] at high
    exact high.trans (BitVec.extractLsb'_eq_self)
  · have high := extractLsb'_append_high (a ++ b) c 0 16
    rw [extractLsb'_append_low a b] at high
    exact high

/-- The two words of a signed number made of two words. -/
theorem ofTwoWordsSigned_words (hi lo : Word) :
    (BitVec.ofInt 32 (ofTwoWordsSigned hi lo)).extractLsb' 16 16 = hi
    ∧ (BitVec.ofInt 32 (ofTwoWordsSigned hi lo)).extractLsb' 0 16 = lo := by
  rw [ofTwoWordsSigned, BitVec.ofInt_toInt]
  have high := extractLsb'_append_high hi lo 0 16
  exact ⟨by simpa using high, extractLsb'_append_low hi lo⟩

theorem Product.code_of_ofCode {n : Nat} {p : Product} (h : Product.ofCode n = some p) : p.code = n := by
  match n with
  | 0 | 1 | 2 => cases h; rfl
  | n + 3 => cases h

/-- Word 0 of a LIVE slot, bit field by bit field (11.5). -/
theorem word_of_fields {n : Nat} (live : n % 4 = 1) (spare : n < 2048) :
    1 + 4 * (n / 4 % 4) + 16 * (n / 16 % 4) + 64 * (n / 2 ^ 6 % 2) + 128 * (n / 2 ^ 7 % 2) + 256 * (n / 2 ^ 8 % 2)
      + 512 * (n / 2 ^ 9 % 2) + 1024 * (n / 2 ^ 10 % 2) = n := by
  norm_num
  omega

/-- The journey in the words of a LIVE slot, where its present bit is set (11.5). -/
def journeyIn (ws : Vector Word 15) : Option Journey :=
  if (ws[0]).toNat / 2 ^ 10 % 2 = 1 then
    some ⟨(ws[12]).toNat, (ws[13]).toNat % 2048, Fin.ofNat 8 ((ws[13]).toNat / 2048),
      (ws[10]).toNat % 256 * 65536 + (ws[14]).toNat⟩
  else none

/-- The record in the words of a LIVE slot, for the product that its code names (11.5). -/
def recordIn (ws : Vector Word 15) (product : Product) : CardRecord where
  card := ofCardWords ws[2] ws[3] ws[4]
  product := product
  fareClass := Fin.ofNat 4 ((ws[0]).toNat / 16)
  provisional := decide ((ws[0]).toNat / 2 ^ 6 % 2 = 1)
  deny := decide ((ws[0]).toNat / 2 ^ 7 % 2 = 1)
  latch := decide ((ws[0]).toNat / 2 ^ 8 % 2 = 1)
  changed := decide ((ws[0]).toNat / 2 ^ 9 % 2 = 1)
  balance := ofTwoWordsSigned ws[5] ws[6]
  passFirst := (ws[7]).toNat
  passLast := (ws[8]).toNat
  capDay := (ws[9]).toNat
  daySpend := (ws[10]).toNat / 256 * 65536 + (ws[11]).toNat
  journey := journeyIn ws
  boardings := (ws[1]).toNat

/-- The bits of the words that an absent journey leaves are clear (R197). -/
def AbsentClear (ws : Vector Word 15) : Prop :=
  (ws[0]).toNat / 2 ^ 10 % 2 = 1
  ∨ (((ws[12]).toNat = 0 ∧ (ws[14]).toNat = 0) ∧ (ws[13]).toNat = 0) ∧ (ws[10]).toNat % 256 = 0

/-- What reading a record out of content says of the content: the product code, the spare bits and the words of an
absent journey clear. -/
theorem decodeRecord_some {ws : Vector Word 15} {r : CardRecord} (h : decodeRecord ws = some r) :
    ∃ product, Product.ofCode ((ws[0]).toNat / 4 % 4) = some product ∧ recordIn ws product = r
      ∧ (ws[0]).toNat < 2048 ∧ (ws[13]).toNat < 16384 ∧ AbsentClear ws := by
  unfold decodeRecord at h
  simp only at h
  split at h
  · cases h
  · next product code =>
    obtain ⟨ok, same⟩ := Option.ite_none_right_eq_some.1 h
    simp only [Bool.and_eq_true, decide_eq_true_eq, Bool.or_eq_true] at ok
    obtain ⟨⟨⟨spare0, spare13⟩, absent⟩, _⟩ := ok
    exact ⟨product, code, Option.some.inj same, spare0, spare13, absent⟩

/-- The words of the journey in a LIVE slot, present or absent, are those that it is read from. -/
theorem journeyIn_words {ws : Vector Word 15} (spare : (ws[13]).toNat < 16384) (absent : AbsentClear ws) :
    let j := (journeyIn ws).getD ⟨0, 0, 0, 0⟩
    word j.startDay = ws[12] ∧ word (j.startMinute + 2048 * j.route.val) = ws[13] ∧ word j.paid = ws[14]
    ∧ j.paid / 65536 = (ws[10]).toNat % 256 := by
  have low := (ws[14]).isLt
  unfold journeyIn
  split
  · refine ⟨word_toNat_self _, word_eq ?_, word_eq ?_, ?_⟩ <;> simp [Fin.ofNat] <;> omega
  · next out =>
    obtain ⟨⟨⟨h12, h14⟩, h13⟩, h10⟩ := absent.resolve_left out
    exact ⟨word_eq (by simp [h12]), word_eq (by simp [h13]), word_eq (by simp [h14]), by simp [h10]⟩

/-- A bit read as a flag and written as a number. -/
theorem flag_of_bit (n i : Nat) : (if decide (n / 2 ^ i % 2 = 1) then 1 else 0) = n / 2 ^ i % 2 := by
  rcases Nat.mod_two_eq_zero_or_one (n / 2 ^ i) with h | h <;> simp [h]

/-- The present bit of the journey read as a number. -/
theorem flag_of_journeyIn (ws : Vector Word 15) :
    (if (journeyIn ws).isSome then 1 else 0) = (ws[0]).toNat / 2 ^ 10 % 2 := by
  unfold journeyIn
  split <;> simp
  all_goals omega

/-- The number of word 0 of the record read in content is that of the content's own (11.5). -/
theorem recordIn_word0 {ws : Vector Word 15} {product : Product} (live : (ws[0]).toNat % 4 = 1)
    (spare : (ws[0]).toNat < 2048) (code : product.code = (ws[0]).toNat / 4 % 4) :
    (encodeRecord (recordIn ws product))[0] = ws[0] := by
  refine word_eq ?_
  have fare : (recordIn ws product).fareClass.val = (ws[0]).toNat / 16 % 4 := rfl
  have provisional : (if (recordIn ws product).provisional then 1 else 0) = _ := flag_of_bit (ws[0]).toNat 6
  have deny : (if (recordIn ws product).deny then 1 else 0) = _ := flag_of_bit (ws[0]).toNat 7
  have latch : (if (recordIn ws product).latch then 1 else 0) = _ := flag_of_bit (ws[0]).toNat 8
  have changed : (if (recordIn ws product).changed then 1 else 0) = _ := flag_of_bit (ws[0]).toNat 9
  have present : (if (recordIn ws product).journey.isSome then 1 else 0) = _ := flag_of_journeyIn ws
  have product : (recordIn ws product).product.code = _ := code
  simp only [product, fare, provisional, deny, latch, changed, present]
  rw [word_of_fields live spare]
  omega

/-- Content read as LIVE is the words of the record read in it: no bit is dropped (R197). -/
theorem encodeRecord_of_decodeRecord {ws : Vector Word 15} {r : CardRecord} (live : (ws[0]).toNat % 4 = 1)
    (h : decodeRecord ws = some r) : encodeRecord r = ws := by
  obtain ⟨product, code, rfl, spare0, spare13, absent⟩ := decodeRecord_some h
  obtain ⟨card0, card1, card2⟩ := ofCardWords_words ws[2] ws[3] ws[4]
  obtain ⟨balance0, balance1⟩ := ofTwoWordsSigned_words ws[5] ws[6]
  obtain ⟨startDay, startMinute, paid, paidHigh⟩ := journeyIn_words spare13 absent
  have low := (ws[11]).isLt
  refine Vector.ext fun i hi => ?_
  have hi : i < 15 := hi
  interval_cases i
  · exact recordIn_word0 live spare0 (Product.code_of_ofCode code)
  · exact word_toNat_self _
  · exact card0
  · exact card1
  · exact card2
  · exact balance0
  · exact balance1
  · exact word_toNat_self _
  · exact word_toNat_self _
  · exact word_toNat_self _
  · refine word_eq ?_
    simp only [recordIn, paidHigh]
    omega
  · refine word_eq ?_
    simp only [recordIn]
    omega
  · exact startDay
  · exact startMinute
  · exact paid

/-! ### TABLE WRITE (R22, R23) -/

/-- Fifteen operand words are the content that they are collected from. -/
theorem contentArg_toList (ws : Vector Word 15) : contentArg ws.toList = ws := by
  refine Vector.ext fun i hi => ?_
  have hi : i < 15 := hi
  have read : arg ws.toList i = ws[i] := by simp [arg, hi]
  rw [← read]
  interval_cases i <;> rfl

/-- Bit 8 set in word 0 of a LIVE slot is the latch set among its fields (11.5). -/
theorem word0_or_latch (p : Product) : ∀ (f : FareClass) (provisional deny latch changed present : Bool),
    word (1 + 4 * p.code + 16 * f.val + 64 * (if provisional then 1 else 0) + 128 * (if deny then 1 else 0)
        + 256 * (if latch then 1 else 0) + 512 * (if changed then 1 else 0) + 1024 * (if present then 1 else 0))
        ||| 256#16
      = word (1 + 4 * p.code + 16 * f.val + 64 * (if provisional then 1 else 0) + 128 * (if deny then 1 else 0)
        + 256 * (if true then 1 else 0) + 512 * (if changed then 1 else 0) + 1024 * (if present then 1 else 0)) := by
  cases p <;> decide

/-- The latch set in word 0 of a record's words is the latch set in the record (11.5, R23 step 6). -/
theorem latchContent_eq (r : CardRecord) :
    latchContent r (encodeRecord r) = encodeRecord { r with latch := r.latch || decide (r.balance < 0) } := by
  unfold latchContent
  split
  · next below =>
    rw [decide_eq_true below, Bool.or_true]
    refine Vector.ext fun i hi => ?_
    have hi : i < 15 := hi
    rw [Vector.getElem_set]
    split
    · next first =>
      subst first
      exact word0_or_latch r.product r.fareClass r.provisional r.deny r.latch r.changed r.journey.isSome
    · next other =>
      interval_cases i
      · exact absurd rfl other
      all_goals rfl
  · next above => rw [decide_eq_false above, Bool.or_false]

/-- Step 4 of TABLE WRITE fails at the first slot fault (R22). -/
theorem otherHolder_of_fault (m : List Host.Cell) (card : CardNumber) (slots : List Nat) (held : Bool) (slot : Nat)
    (h : slots.find? (Memory.faulty m) = some slot) : otherHolder m card slots held = .fault slot := by
  induction slots generalizing held with
  | nil => cases h
  | cons a rest ih =>
    cases hv : Memory.verdict m a with
    | fault =>
      simp only [List.find?_cons, Memory.faulty, hv, beq_self_eq_true] at h
      cases h
      rw [otherHolder, hv]
    | free =>
      rw [otherHolder, hv]
      exact ih _ (by simpa [hv] using h)
    | live r =>
      rw [otherHolder, hv]
      exact ih _ (by simpa [hv] using h)

/-- A slot reads LIVE with a record of the card, as a test. -/
def Memory.names (m : List Host.Cell) (card : CardNumber) (slot : Nat) : Bool :=
  match Memory.verdict m slot with
  | .live r => r.card == card
  | .free => false
  | .fault => false

theorem Memory.names_iff (m : List Host.Cell) (card : CardNumber) (slot : Nat) :
    Memory.names m card slot = true ↔ ∃ r, Memory.verdict m slot = .live r ∧ r.card = card := by
  unfold Memory.names
  cases Memory.verdict m slot <;> simp

/-- With no slot fault, step 4 of TABLE WRITE tells whether another slot holds the card (R22). -/
theorem otherHolder_of_sound (m : List Host.Cell) (card : CardNumber) (slots : List Nat) (held : Bool)
    (sound : slots.find? (Memory.faulty m) = none) :
    otherHolder m card slots held =
      if held || slots.any (Memory.names m card) then Other.duplicate else Other.none := by
  induction slots generalizing held with
  | nil => simp [otherHolder]
  | cons a rest ih =>
    cases hv : Memory.verdict m a with
    | fault => simp [Memory.faulty, hv] at sound
    | free =>
      have unnamed : Memory.names m card a = false := by simp [Memory.names, hv]
      rw [otherHolder, hv]
      simp only
      rw [ih _ (by simpa [Memory.faulty, hv] using sound), List.any_cons, unnamed, Bool.false_or]
    | live r =>
      have named : Memory.names m card a = (r.card == card) := by simp [Memory.names, hv]
      rw [otherHolder, hv]
      simp only
      rw [ih _ (by simpa [Memory.faulty, hv] using sound), List.any_cons, named, Bool.or_assoc]

theorem otherHolder_of_held {s : State} {card : CardNumber} {slots : List Nat}
    (sound : slots.find? (Memory.faulty s.mem) = none) (held : ∃ slot ∈ slots, s.holdsCard slot card) :
    otherHolder s.mem card slots false = .duplicate := by
  obtain ⟨slot, inside, holds⟩ := held
  have named : slots.any (Memory.names s.mem card) = true :=
    List.any_eq_true.2 ⟨slot, inside, (Memory.names_iff _ _ _).2 holds⟩
  rw [otherHolder_of_sound _ _ _ _ sound, named]
  rfl

theorem otherHolder_of_unheld {s : State} {card : CardNumber} {slots : List Nat}
    (sound : slots.find? (Memory.faulty s.mem) = none) (unheld : ¬∃ slot ∈ slots, s.holdsCard slot card) :
    otherHolder s.mem card slots false = .none := by
  have unnamed : slots.any (Memory.names s.mem card) = false :=
    List.any_eq_false.2 fun slot inside named => unheld ⟨slot, inside, (Memory.names_iff _ _ _).1 named⟩
  rw [otherHolder_of_sound _ _ _ _ sound, unnamed]
  rfl

/-- The write of TABLE WRITE, where the slot at the cursor is in passage and where it is not (R23). -/
theorem State.writeAtCursor_refused {s : State} (content : Vector Word 15)
    (h : ∃ l : Lane, (s.lane l).holdsSlot s.tableCursor = true) :
    s.writeAtCursor content = s.refused .inPassage :=
  if_pos ((s.inPassage_iff _).2 h)

theorem State.writeAtCursor_served {s : State} (content : Vector Word 15)
    (h : ¬∃ l : Lane, (s.lane l).holdsSlot s.tableCursor = true) (inTable : s.tableCursor < 4 * 2 ^ s.geometry.k) :
    s.writeAtCursor content = State.served { s with
      mem := Memory.writeSlot s.mem s.tableCursor content
      tableCursor := if s.tableCursor + 1 = 4 * 2 ^ s.geometry.k then 0 else s.tableCursor + 1 } := by
  rw [State.writeAtCursor, if_neg fun p => h ((s.inPassage_iff _).1 p),
    State.advanceTable_eq (s.portWrite s.tableCursor content) inTable]
  rfl

/-- TABLE WRITE of FREE content goes to the write (R22 step 1). -/
theorem serveTableWrite_free {ws : Vector Word 15} (s : State) (h : (ws[0]).toNat % 4 = 0) :
    serveTableWrite ws.toList s = s.writeAtCursor freeContent := by
  unfold serveTableWrite
  rw [contentArg_toList]
  exact if_pos h

theorem serveTableWrite_unknown {ws : Vector Word 15} (s : State) (h : 2 ≤ (ws[0]).toNat % 4) :
    serveTableWrite ws.toList s = s.refused .badOperand := by
  unfold serveTableWrite
  rw [contentArg_toList]
  exact (if_neg (show ¬ (ws[0]).toNat % 4 = 0 by omega)).trans (if_neg (show ¬ (ws[0]).toNat % 4 = 1 by omega))

theorem serveTableWrite_outOfRange {ws : Vector Word 15} (s : State) (h : (ws[0]).toNat % 4 = 1)
    (none : decodeRecord ws = none) : serveTableWrite ws.toList s = s.refused .badOperand := by
  unfold serveTableWrite
  rw [contentArg_toList]
  refine (if_neg (show ¬ (ws[0]).toNat % 4 = 0 by omega)).trans ((if_pos (show (ws[0]).toNat % 4 = 1 from h)).trans ?_)
  rw [none]

/-- TABLE WRITE of a record outside its card's window (R22 step 3). -/
theorem serveTableWrite_outside {ws : Vector Word 15} {r : CardRecord} (s : State) (h : (ws[0]).toNat % 4 = 1)
    (some : decodeRecord ws = some r) (out : s.tableCursor ∉ windowSlots s.geometry r.card) :
    serveTableWrite ws.toList s = s.refused .badOperand := by
  unfold serveTableWrite
  rw [contentArg_toList]
  refine (if_neg (show ¬ (ws[0]).toNat % 4 = 0 by omega)).trans ((if_pos (show (ws[0]).toNat % 4 = 1 from h)).trans ?_)
  rw [some]
  exact if_neg out

/-- The slots that step 4 of TABLE WRITE reads: those of the window but the one at the cursor (R22). -/
abbrev State.others (s : State) (card : CardNumber) : List Nat :=
  (windowSlots s.geometry card).filter (· ≠ s.tableCursor)

/-- TABLE WRITE of a record in its card's window, by what step 4 finds (R22, R23). -/
theorem serveTableWrite_inside {ws : Vector Word 15} {r : CardRecord} (s : State) (h : (ws[0]).toNat % 4 = 1)
    (some : decodeRecord ws = some r) (inside : s.tableCursor ∈ windowSlots s.geometry r.card) :
    (∀ slot, otherHolder s.mem r.card (s.others r.card) false = .fault slot →
      serveTableWrite ws.toList s = (s.raise .memoryFault (wideSubject slot)).refused .fault)
    ∧ (otherHolder s.mem r.card (s.others r.card) false = .duplicate →
      serveTableWrite ws.toList s = s.refused .duplicate)
    ∧ (otherHolder s.mem r.card (s.others r.card) false = .none →
      serveTableWrite ws.toList s =
        s.writeAtCursor (encodeRecord { r with latch := r.latch || decide (r.balance < 0) })) := by
  have served : serveTableWrite ws.toList s =
      match otherHolder s.mem r.card (s.others r.card) false with
      | .duplicate => s.refused .duplicate
      | .fault slot => (s.raise .memoryFault (wideSubject slot)).refused .fault
      | .none => s.writeAtCursor (latchContent r ws) := by
    unfold serveTableWrite
    rw [contentArg_toList]
    refine (if_neg (show ¬ (ws[0]).toNat % 4 = 0 by omega)).trans
      ((if_pos (show (ws[0]).toNat % 4 = 1 from h)).trans ?_)
    rw [some]
    exact if_pos inside
  have latched : latchContent r ws = _ := encodeRecord_of_decodeRecord h some ▸ latchContent_eq r
  rw [latched] at served
  refine ⟨fun slot e => ?_, fun e => ?_, fun e => ?_⟩ <;> rw [served, e]

/-- Settles O45: each refusal in the order of the steps of R22 and R23; what is stored for a LIVE record is its own words
again, as `encodeRecord_of_decodeRecord` has it. -/
theorem tableWritten : Obligations.TableWritten := by
  unfold Obligations.TableWritten
  intro s ws h inTable wf
  have whole : ∀ {t a}, serveTableWrite ws.toList s = (t, a) → t.link = s.link →
      exec (.tableWrite .whole) s = .next (t.handed a) := fun served link =>
    congrArg _ (State.runHost_whole h served link)
  have written : ∀ content, (¬∃ l : Lane, (s.lane l).holdsSlot s.tableCursor = true) →
      serveTableWrite ws.toList s = s.writeAtCursor content →
      ∃ m, StoresSlot s.mem m s.tableCursor content ∧ exec (.tableWrite .whole) s = .next (State.handed { s with
        mem := m
        tableCursor := if s.tableCursor + 1 = 4 * 2 ^ s.geometry.k then 0 else s.tableCursor + 1 } .ok) :=
    fun content free served =>
      ⟨_, Memory.writeSlot_stores s.mem s.tableCursor content wf,
        whole (served.trans (State.writeAtCursor_served content free inTable)) rfl⟩
  refine ⟨fun free => ?_, fun unknown => whole (serveTableWrite_unknown s unknown) rfl,
    fun live none => whole (serveTableWrite_outOfRange s live none) rfl, fun r live some => ?_⟩
  · have served := serveTableWrite_free s free
    exact ⟨fun unheld => written _ unheld served,
      fun held => whole (served.trans (State.writeAtCursor_refused _ held)) rfl⟩
  · refine ⟨fun out => whole (serveTableWrite_outside s live some out) rfl, fun inside slot faulty => ?_,
      fun inside sound held => ?_, fun inside sound unheld passage => ?_, fun inside sound unheld free => ?_⟩
    all_goals obtain ⟨fault, duplicate, none⟩ := serveTableWrite_inside s live some inside
    · exact whole (fault slot (otherHolder_of_fault _ _ _ _ slot faulty)) rfl
    · exact whole (duplicate (otherHolder_of_held sound held)) rfl
    · exact whole ((none (otherHolder_of_unheld sound unheld)).trans (State.writeAtCursor_refused _ passage)) rfl
    · exact written _ free (none (otherHolder_of_unheld sound unheld))

end Sys2Proof.Machine
end

section
namespace Sys2Proof.Machine

/-! ### ENGINE commands served whole (R153) -/

/-- The row of an ENGINE command moves the engine on with what it serves for the command. -/
theorem exec_engineRow {k : Cmd} {p : Progress} {i : Instr} (row : engineRow k p = some i) (s : State) :
    exec i s = .next (s.runHost k (server k) p) := by
  cases k <;> cases row <;> rfl

/-- An ENGINE command served whole: what its service leaves, with the answer handed over. -/
theorem exec_whole {k : Cmd} {i : Instr} {s t : State} {ws : List Word} {a : Answer}
    (row : engineRow k .whole = some i) (h : s.hosts k ws) (served : server k ws s = (t, a)) (link : t.link = s.link) :
    exec i s = .next (t.handed a) :=
  (exec_engineRow row s).trans (congrArg _ (State.runHost_whole h served link))

/-- An ENGINE command served whole by one slot write: its slot is stored and no other field moves (R1, R3). -/
theorem exec_whole_stores {k : Cmd} {i : Instr} {s : State} {ws : List Word} {a : Answer} {slot : Nat}
    {content : Vector Word 15} (row : engineRow k .whole = some i) (h : s.hosts k ws) (wf : Memory.wf s.mem = true)
    (served : server k ws s = (s.portWrite slot content, a)) :
    ∃ m, StoresSlot s.mem m slot content ∧ exec i s = .next (State.handed { s with mem := m } a) :=
  ⟨_, Memory.writeSlot_stores s.mem slot content wf, exec_whole row h served rfl⟩

/-! ### A lookup and the command on its record (R11, R13, R38) -/

/-- A lookup that meets a slot fault raises MEMORY FAULT for it (R5). -/
theorem State.lookup_fault {s : State} {card : CardNumber} {slot : Nat}
    (h : lookupSlots s.mem card (windowSlots s.geometry card) none none = .fault slot) :
    s.lookup card = (.fault slot, s.raise .memoryFault (wideSubject slot)) := by
  rw [State.lookup, h]

theorem State.lookup_notFound {s : State} {card : CardNumber} {insert : Option Nat}
    (h : lookupSlots s.mem card (windowSlots s.geometry card) none none = .notFound insert) :
    s.lookup card = (.notFound insert, s) := by
  rw [State.lookup, h]

theorem State.lookup_found {s : State} {card : CardNumber} {slot : Nat} {r : CardRecord} {insert : Option Nat}
    (h : lookupSlots s.mem card (windowSlots s.geometry card) none none = .found slot r insert) :
    s.lookup card = (.found slot r insert, s) := by
  rw [State.lookup, h]

section
variable {s : State} {card : CardNumber} {f : Nat → CardRecord → State → State × Answer}

theorem State.onCard_fault {slot : Nat}
    (h : lookupSlots s.mem card (windowSlots s.geometry card) none none = .fault slot) :
    s.onCard card f = (s.raise .memoryFault (wideSubject slot)).refused .fault := by
  rw [State.onCard, State.lookup_fault h]

theorem State.onCard_notFound {insert : Option Nat}
    (h : lookupSlots s.mem card (windowSlots s.geometry card) none none = .notFound insert) :
    s.onCard card f = s.refused .notFound := by
  rw [State.onCard, State.lookup_notFound h]

/-- On a card that the table holds the command's own conditions decide (R38). -/
theorem State.onCard_finds {slot : Nat} {r : CardRecord} (h : s.finds card slot r) :
    s.onCard card f = f slot r s := by
  obtain ⟨insert, h⟩ := h
  rw [State.onCard, State.lookup_found h]

end

/-! ### Product and class words (11.2, R195) -/

/-- The product that a word names, for a word that decodes. -/
def productIn (w : Word) : Product :=
  if w.toNat / 256 = 0 then .purse else if w.toNat / 256 = 1 then .pass else .staff

/-- The fare class that a word names, for a word that decodes. -/
def fareClassIn (w : Word) : FareClass := Fin.ofNat 4 (w.toNat % 256)

theorem productIn_eq_pass_iff (w : Word) : productIn w = .pass ↔ w.toNat / 256 = 1 := by
  unfold productIn
  split
  · next purse => simp [purse]
  · split <;> simp [*]

/-- A product code decodes up to 2 (11.2). -/
theorem Product.ofCode_eq (w : Word) :
    Product.ofCode (w.toNat / 256) = if w.toNat / 256 ≤ 2 then some (productIn w) else none := by
  unfold productIn
  match w.toNat / 256 with
  | 0 | 1 | 2 => rfl
  | n + 3 => rfl

/-- A product and class word decodes exactly with a code up to 2 and a fare class up to 3 (R195). -/
theorem ofProductWord_eq (w : Word) :
    ofProductWord w =
      if w.toNat / 256 ≤ 2 ∧ w.toNat % 256 ≤ 3 then some (productIn w, fareClassIn w) else none := by
  unfold ofProductWord
  rw [Product.ofCode_eq]
  by_cases code : w.toNat / 256 ≤ 2
  · by_cases cls : w.toNat % 256 < 4
    · have named : (⟨w.toNat % 256, cls⟩ : FareClass) = fareClassIn w := Fin.ext (Nat.mod_eq_of_lt cls).symm
      rw [if_pos code, if_pos ⟨code, by omega⟩]
      exact (dif_pos cls).trans (by rw [named])
    · rw [if_pos code, if_neg (by omega)]
      exact dif_neg cls
  · rw [if_neg code, if_neg fun both => code both.1]

theorem productWord_toNat (p : Product) (f : FareClass) : (productWord p f).toNat = 256 * p.code + f.val := by
  have code : p.code ≤ 2 := by cases p <;> decide
  rw [productWord, word_toNat]
  omega

theorem productIn_productWord (p : Product) (f : FareClass) : productIn (productWord p f) = p := by
  have code : (productWord p f).toNat / 256 = p.code := by rw [productWord_toNat]; omega
  rw [productIn, code]
  cases p <;> rfl

theorem fareClassIn_productWord (p : Product) (f : FareClass) : fareClassIn (productWord p f) = f := by
  have cls : (productWord p f).toNat % 256 = f.val := by rw [productWord_toNat]; omega
  rw [fareClassIn, cls]
  exact Fin.ofNat_val_eq_self f

/-! ### The commands that name a card (R38, R40 to R46) -/

/-- The commands that name a card held by the table. -/
def cardCommands : List Cmd := [.cardFind, .addValue, .setBalance, .settle, .setProduct, .deny, .allow, .cardRetire]

/-- What a command that names a card does with the slot and the record that its lookup found. -/
def onFound (k : Cmd) (ws : List Word) (slot : Nat) (r : CardRecord) (s : State) : State × Answer :=
  let amount := ofTwoWordsSigned (arg ws 3) (arg ws 4)
  match k with
  | .cardFind => (s, .counted (recordWords r slot (arg ws 3)))
  | .addValue =>
    if 999999 < r.balance + amount then s.refused .ceiling
    else (s.writeRecord slot { r with balance := r.balance + amount }, .done (twoWordsSigned (r.balance + amount)) 0)
  | .setBalance => (s.writeRecord slot { r with balance := amount, latch := latchAfter amount r.latch }).served
  | .settle =>
    if r.balance < 0 then s.refused .badOperand
    else (s.writeRecord slot { r with latch := false, provisional := false }).served
  | .setProduct =>
    (s.writeRecord slot { r with
      product := productIn (arg ws 3)
      fareClass := fareClassIn (arg ws 3)
      passFirst := if productIn (arg ws 3) = .pass then (arg ws 4).toNat else 0
      passLast := if productIn (arg ws 3) = .pass then (arg ws 5).toNat else 0 }).served
  | .deny => (s.writeRecord slot { r with deny := true }).served
  | .allow => (s.writeRecord slot { r with deny := false }).served
  | .cardRetire => if s.inPassage slot then s.refused .inPassage else (s.portWrite slot freeContent).served
  | _ => s.refused .unknownCommand

/-- SET PRODUCT judges its product and class word and, for a PASS, the order of its days (R44, R195). -/
theorem serveSetProduct_eq (ws : List Word) (s : State) :
    serveSetProduct ws s =
      if operandsInRange .setProduct ws then s.onCard (cardArg ws) (onFound .setProduct ws)
      else s.refused .badOperand := by
  unfold serveSetProduct operandsInRange
  rw [ofProductWord_eq]
  by_cases decodes : (arg ws 3).toNat / 256 ≤ 2 ∧ (arg ws 3).toNat % 256 ≤ 3
  · have days : decide (productIn (arg ws 3) ≠ .pass) = decide ((arg ws 3).toNat / 256 ≠ 1) :=
      decide_eq_decide.2 (not_congr (productIn_eq_pass_iff _))
    rw [if_pos decodes]
    simp only [days, decodes, decide_true, Bool.true_and]
    rfl
  · rw [if_neg decodes, if_neg (by simp; omega)]

/-- A command that names a card judges its operands, then looks the card up and acts on what it found (R38). -/
theorem server_onCard {k : Cmd} (named : k ∈ cardCommands) (ws : List Word) (s : State) :
    server k ws s =
      if operandsInRange k ws then s.onCard (cardArg ws) (onFound k ws) else s.refused .badOperand := by
  simp only [cardCommands, List.mem_cons, List.not_mem_nil, or_false] at named
  rcases named with rfl | rfl | rfl | rfl | rfl | rfl | rfl | rfl
  · simp only [server, serveCardFind, operandsInRange, Nat.lt_succ_iff]
    rfl
  · simp only [server, serveAddValue, operandsInRange, Bool.and_assoc]
    rfl
  · simp only [server, serveSetBalance, operandsInRange, Bool.and_assoc]
    rfl
  case inr.inr.inr.inr.inl => exact serveSetProduct_eq ws s
  all_goals
    simp only [operandsInRange, Bool.and_true]
    rfl

/-- On a card that the table holds, with its operands in range, a command does what it does with the record found. -/
theorem server_finds {k : Cmd} {s : State} {ws : List Word} {slot : Nat} {r : CardRecord}
    (named : k ∈ cardCommands)
    (ok : operandsInRange k ws = true) (found : s.finds (cardArg ws) slot r) :
    server k ws s = onFound k ws slot r s := by
  rw [server_onCard named, if_pos ok, State.onCard_finds found]

theorem cardArg_cardWords_append (card : CardNumber) (rest : List Word) : cardArg (cardWords card ++ rest) = card :=
  ofCardWords_cardWords card rest

theorem cardArg_cardWords (card : CardNumber) : cardArg (cardWords card) = card :=
  cardArg_cardWords_append card []

/-- A signed amount is read back from the operand words after the card number (11.2). -/
theorem amountArg_cardWords (card : CardNumber) {v : Int} (lo : -2147483648 ≤ v) (hi : v ≤ 2147483647) :
    ofTwoWordsSigned (arg (cardWords card ++ twoWordsSigned v) 3) (arg (cardWords card ++ twoWordsSigned v) 4) = v :=
  ofTwoWordsSigned_twoWordsSigned v lo hi

/-! ### CARD FIND (R40) -/

/-- The groups of a table that a mask selects are those of `maskGroups`, in increasing group number. -/
theorem selected_eq (table : List (List Word)) (mask : Word) :
    selected table mask = (maskGroups table.length mask).flatMap fun g => table.getD g [] := by
  have indexed : table.zipIdx = (List.range table.length).map fun g => (table.getD g [], g) := by
    refine List.ext_getElem (by simp) fun g hg _ => ?_
    have inside : g < table.length := by simpa using hg
    simp [inside]
  rw [selected, indexed, maskGroups, List.filter_map, List.flatMap_map]
  rfl

/-- The groups of a record's table are the groups of CARD FIND (11.6). -/
theorem recordTable_getD (r : CardRecord) (slot : Nat) :
    ∀ g, (recordTable r slot).getD g [] = recordGroup r slot g
  | 0 | 1 | 2 | 3 | 4 | 5 | 6 | 8 | 9 => rfl
  | 7 => by
    simp only [recordTable, recordGroup]
    cases r.journey <;> rfl
  | _ + 10 => rfl

theorem selected_recordTable (r : CardRecord) (slot : Nat) (mask : Word) :
    selected (recordTable r slot) mask = recordWords r slot mask := by
  rw [selected_eq, funext (recordTable_getD r slot)]
  rfl

/-- Settles O37: every command that names a card judges its operands before the lookup, and hands over what the lookup
answers where it finds no card. -/
theorem cardCommandsLookUp : Obligations.CardCommandsLookUp := by
  unfold Obligations.CardCommandsLookUp
  refine ⟨fun s card mask slot r h valid inMask found => ?_, fun s k ws i named row h => ⟨fun out => ?_, ?_, ?_⟩⟩
  · have card_eq := cardArg_cardWords_append card [mask]
    have ok : operandsInRange .cardFind (cardWords card ++ [mask]) = true := by
      rw [operandsInRange, card_eq, valid]
      exact decide_eq_true inMask
    rw [selected_recordTable]
    exact exec_whole rfl h (server_finds (by decide) ok (card_eq.symm ▸ found)) rfl
  · exact exec_whole row h ((server_onCard named ws s).trans (if_neg (by simp [out]))) rfl
  · intro slot ok fault
    exact exec_whole row h ((server_onCard named ws s).trans ((if_pos ok).trans (State.onCard_fault fault))) rfl
  · intro insert ok absent
    exact exec_whole row h ((server_onCard named ws s).trans ((if_pos ok).trans (State.onCard_notFound absent))) rfl

/-! ### CARD ADD (R14, R39, log 24) -/

/-- A record within its ranges, range by range (R25, R26). -/
theorem CardRecord.inRange_iff (r : CardRecord) :
    r.inRange = true ↔
      (validCard r.card = true ∧ -5000 ≤ r.balance ∧ r.balance ≤ 999999)
      ∧ (r.passFirst ≤ 65535 ∧ r.passLast ≤ 65535 ∧ (r.product = .pass → r.passFirst ≤ r.passLast)
        ∧ (r.product ≠ .pass → r.passFirst = 0 ∧ r.passLast = 0))
      ∧ (r.capDay ≤ 65535 ∧ r.daySpend ≤ 16777215 ∧ r.boardings ≤ 65535)
      ∧ ∀ j, r.journey = some j → j.startDay ≤ 65535 ∧ j.startMinute ≤ 1919 ∧ j.paid ≤ 16777215 := by
  unfold CardRecord.inRange
  by_cases pass : r.product = .pass <;> cases r.journey <;> simp [pass] <;> tauto

/-- The record of CARD ADD is within its ranges where its card number, its balance, the days of a PASS and the start
minute of a journey that is present are: every other field has the width of its words (R25). -/
theorem cardAddGives_inRange_iff {ws : List Word} (spend : (arg ws 10).toNat ≤ 255)
    (paid : (arg ws 15).toNat ≤ 255) :
    (cardAddGives ws).inRange = true ↔
      (validCard (cardArg ws) = true ∧ -5000 ≤ ofTwoWordsSigned (arg ws 5) (arg ws 6)
        ∧ ofTwoWordsSigned (arg ws 5) (arg ws 6) ≤ 999999)
      ∧ ((arg ws 3).toNat / 256 = 1 → (arg ws 7).toNat ≤ (arg ws 8).toNat)
      ∧ ((arg ws 4).getLsbD 4 = true → (arg ws 13).toNat ≤ 1919) := by
  have top : ∀ i, (arg ws i).toNat ≤ 65535 := fun i => Nat.le_of_lt_succ (arg ws i).isLt
  have product : (cardAddGives ws).product = .pass ↔ (arg ws 3).toNat / 256 = 1 := productIn_eq_pass_iff _
  have fields : (cardAddGives ws).capDay ≤ 65535 ∧ (cardAddGives ws).daySpend ≤ 16777215
      ∧ (cardAddGives ws).boardings ≤ 65535 := by
    have low := top 11
    refine ⟨top 9, ?_, top 17⟩
    simp only [cardAddGives]
    omega
  have days : ((cardAddGives ws).passFirst ≤ 65535 ∧ (cardAddGives ws).passLast ≤ 65535
        ∧ ((cardAddGives ws).product = .pass → (cardAddGives ws).passFirst ≤ (cardAddGives ws).passLast)
        ∧ ((cardAddGives ws).product ≠ .pass → (cardAddGives ws).passFirst = 0 ∧ (cardAddGives ws).passLast = 0))
      ↔ ((arg ws 3).toNat / 256 = 1 → (arg ws 7).toNat ≤ (arg ws 8).toNat) := by
    rw [product, ne_eq, product]
    by_cases pass : (arg ws 3).toNat / 256 = 1 <;> simp [cardAddGives, pass, top]
  have journey : (∀ j, (cardAddGives ws).journey = some j →
        j.startDay ≤ 65535 ∧ j.startMinute ≤ 1919 ∧ j.paid ≤ 16777215)
      ↔ ((arg ws 4).getLsbD 4 = true → (arg ws 13).toNat ≤ 1919) := by
    have width : 65536 * (arg ws 15).toNat + (arg ws 16).toNat ≤ 16777215 := by
      have low := top 16
      omega
    simp only [cardAddGives]
    by_cases present : (arg ws 4).getLsbD 4 = true
    · simp only [present, if_true, Option.some.injEq, forall_eq', top, width, true_and, and_true, forall_const]
    · simp only [present, Bool.false_eq_true, if_false, reduceCtorEq, false_implies, implies_true]
  rw [CardRecord.inRange_iff, days, journey, and_iff_right fields]
  rfl

/-- The words of CARD ADD within their ranges, range by range (R39, R195). -/
theorem cardAddInRange_iff (ws : List Word) :
    cardAddInRange ws = true ↔
      ((arg ws 3).toNat / 256 ≤ 2 ∧ (arg ws 3).toNat % 256 ≤ 3)
      ∧ ((arg ws 4).toNat ≤ 31 ∧ (arg ws 10).toNat ≤ 255 ∧ (arg ws 15).toNat ≤ 255)
      ∧ ((arg ws 4).getLsbD 4 = true → (arg ws 14).toNat ≤ 7)
      ∧ (validCard (cardArg ws) = true ∧ -5000 ≤ ofTwoWordsSigned (arg ws 5) (arg ws 6)
        ∧ ofTwoWordsSigned (arg ws 5) (arg ws 6) ≤ 999999)
      ∧ ((arg ws 3).toNat / 256 = 1 → (arg ws 7).toNat ≤ (arg ws 8).toNat)
      ∧ ((arg ws 4).getLsbD 4 = true → (arg ws 13).toNat ≤ 1919) := by
  simp only [cardAddInRange, Bool.and_eq_true, Bool.or_eq_true, Bool.not_eq_true', decide_eq_true_eq]
  cases (arg ws 4).getLsbD 4 <;> simp <;> tauto

/-- What is read out of the words of CARD ADD where the product and class word decodes (R39). -/
theorem cardAddRecord_of_decodes {ws : List Word} (h : (arg ws 3).toNat / 256 ≤ 2 ∧ (arg ws 3).toNat % 256 ≤ 3) :
    cardAddRecord ws =
      if (decide ((arg ws 4).toNat < 32) && decide ((arg ws 10).toNat < 256) && decide ((arg ws 15).toNat < 256))
        && (!(arg ws 4).getLsbD 4 || decide ((arg ws 14).toNat < 8)) && (cardAddGives ws).inRange
      then some (cardAddGives ws) else none := by
  simp only [cardAddRecord, ofProductWord_eq, if_pos h, cardAddGives, latchAfter, ofTwoWords, productIn_eq_pass_iff,
    decide_eq_true_eq, Bool.or_comm, Nat.mul_comm]
  rfl

/-- The words of CARD ADD give a record exactly where they decode and lie within their ranges (R39, R195). -/
theorem cardAddRecord_eq (ws : List Word) :
    cardAddRecord ws = if cardAddInRange ws then some (cardAddGives ws) else none := by
  by_cases decodes : (arg ws 3).toNat / 256 ≤ 2 ∧ (arg ws 3).toNat % 256 ≤ 3
  · rw [cardAddRecord_of_decodes decodes]
    refine if_congr ?_ rfl rfl
    rw [cardAddInRange_iff, and_iff_right decodes]
    simp only [Bool.and_eq_true, Bool.or_eq_true, Bool.not_eq_true', decide_eq_true_eq, Nat.lt_succ_iff]
    by_cases wide : (arg ws 10).toNat ≤ 255 ∧ (arg ws 15).toNat ≤ 255
    · rw [cardAddGives_inRange_iff wide.1 wide.2]
      cases (arg ws 4).getLsbD 4 <;> simp <;> tauto
    · tauto
  · rw [if_neg fun h => decodes ((cardAddInRange_iff ws).1 h).1]
    simp only [cardAddRecord, ofProductWord_eq, if_neg decodes]

/-- Settles O38: the words that decode within their ranges give the record of R39, and the lookup of its card decides
between the insert of R14 and the refusals. -/
theorem cardAddTaken : Obligations.CardAddTaken := by
  unfold Obligations.CardAddTaken
  intro s ws h wf
  dsimp only
  have record := cardAddRecord_eq ws
  refine ⟨fun inRange => ?_, fun out => ?_⟩
  · rw [if_pos inRange] at record
    refine ⟨fun slot absent => ?_, fun full => ?_, fun slot old insert held => ?_, fun slot fault => ?_⟩
    · exact exec_whole_stores rfl h wf (by simp only [server, serveCardAdd, record, State.lookup_notFound absent]; rfl)
    · exact exec_whole rfl h (by simp only [server, serveCardAdd, record, State.lookup_notFound full]; rfl) rfl
    · exact exec_whole rfl h (by simp only [server, serveCardAdd, record, State.lookup_found held]; rfl) rfl
    · exact exec_whole rfl h (by simp only [server, serveCardAdd, record, State.lookup_fault fault]; rfl) rfl
  · rw [if_neg (by simp [out])] at record
    exact exec_whole rfl h (by simp only [server, serveCardAdd, record]; rfl) rfl

/-! ### ADD VALUE, SET BALANCE and SETTLE (R41 to R43) -/

/-- Settles O39: on the card found each command writes its one slot, or meets the condition of its own under which it is
refused. -/
theorem balancesChanged : Obligations.BalancesChanged := by
  unfold Obligations.BalancesChanged
  intro s card slot r valid found wf
  have named (rest : List Word) : s.finds (cardArg (cardWords card ++ rest)) slot r := by
    rwa [cardArg_cardWords_append]
  refine ⟨fun amount h lo hi => ?_, fun value h lo hi => ?_, fun h => ?_⟩
  · have read := amountArg_cardWords card (v := amount) (by omega) (by omega)
    have ok : operandsInRange .addValue (cardWords card ++ twoWordsSigned amount) = true := by
      simp only [operandsInRange, cardArg_cardWords_append, valid, read, lo, hi, decide_true, Bool.true_and]
    have served := server_finds (by decide) ok (named _)
    simp only [onFound, read] at served
    exact ⟨fun below => exec_whole_stores rfl h wf (served.trans (if_neg (by omega))),
      fun above => exec_whole rfl h (served.trans (if_pos above)) rfl⟩
  · have read := amountArg_cardWords card (v := value) (by omega) (by omega)
    have ok : operandsInRange .setBalance (cardWords card ++ twoWordsSigned value) = true := by
      simp only [operandsInRange, cardArg_cardWords_append, valid, read, lo, hi, decide_true, Bool.true_and]
    have served := server_finds (by decide) ok (named _)
    simp only [onFound, read, latchAfter, Bool.or_comm (decide (value < 0))] at served
    exact exec_whole_stores rfl h wf served
  · have ok : operandsInRange .settle (cardWords card) = true := by
      simp only [operandsInRange, cardArg_cardWords, valid, Bool.and_true]
    have served := server_finds (by decide) ok (named [])
    exact ⟨fun above => exec_whole_stores rfl h wf (served.trans (if_neg (by omega))),
      fun below => exec_whole rfl h (served.trans (if_pos below)) rfl⟩

/-! ### SET PRODUCT, DENY, ALLOW and CARD RETIRE (R16, R44 to R46) -/

/-- SET PRODUCT on a card that the table holds: the days of a PASS are stored, and zero for the others (R26, R44). -/
theorem exec_setProduct_stores {s : State} {card : CardNumber} {slot : Nat} {r : CardRecord}
    (valid : validCard card = true) (found : s.finds card slot r) (wf : Memory.wf s.mem = true)
    {p : Product} {f : FareClass} {first last : Word}
    (h : s.hosts .setProduct (cardWords card ++ [productWord p f, first, last]))
    (days : p = .pass → first.toNat ≤ last.toNat) :
    ∃ m, StoresSlot s.mem m slot (encodeRecord { r with
          product := p
          fareClass := f
          passFirst := if p = .pass then first.toNat else 0
          passLast := if p = .pass then last.toNat else 0 })
      ∧ exec (.setProduct .whole) s = .next (State.handed { s with mem := m } .ok) := by
  have word3 : arg (cardWords card ++ [productWord p f, first, last]) 3 = productWord p f := rfl
  have word4 : arg (cardWords card ++ [productWord p f, first, last]) 4 = first := rfl
  have word5 : arg (cardWords card ++ [productWord p f, first, last]) 5 = last := rfl
  have pass := productIn_eq_pass_iff (productWord p f)
  rw [productIn_productWord] at pass
  have decodes : (productWord p f).toNat / 256 ≤ 2 ∧ (productWord p f).toNat % 256 ≤ 3 := by
    have code : p.code ≤ 2 := by cases p <;> decide
    rw [productWord_toNat]
    omega
  have ok : operandsInRange .setProduct (cardWords card ++ [productWord p f, first, last]) = true := by
    simp only [operandsInRange, cardArg_cardWords_append, word3, word4, word5, valid, decodes, ne_eq, ← pass,
      decide_true, Bool.true_and, Bool.or_eq_true, decide_eq_true_eq]
    exact (em _).symm.imp_right days
  have served := server_finds (slot := slot) (r := r) (by decide) ok (by rwa [cardArg_cardWords_append])
  simp only [onFound, word3, word4, word5, productIn_productWord, fareClassIn_productWord] at served
  exact exec_whole_stores rfl h wf served

/-- Settles O40: on the card found each command writes its one slot; CARD RETIRE asks first whether it is in passage. -/
theorem recordsChanged : Obligations.RecordsChanged := by
  unfold Obligations.RecordsChanged
  intro s card slot r valid found wf
  have ok : (validCard (cardArg (cardWords card)) && true) = true := by rwa [cardArg_cardWords, Bool.and_true]
  have named : s.finds (cardArg (cardWords card)) slot r := by rwa [cardArg_cardWords]
  refine ⟨fun f first last => ⟨fun h days => ?_, fun h => ?_, fun h => ?_⟩, fun h => ?_, fun h => ?_, fun h => ?_⟩
  · exact exec_setProduct_stores (p := .pass) valid found wf h fun _ => days
  · have pair : word f.val = productWord .purse f := by simp [productWord, Product.code]
    exact exec_setProduct_stores (p := .purse) valid found wf (pair ▸ h) nofun
  · exact exec_setProduct_stores (p := .staff) valid found wf h nofun
  · exact exec_whole_stores rfl h wf (server_finds (by decide) ok named)
  · exact exec_whole_stores rfl h wf (server_finds (by decide) ok named)
  · have served := server_finds (k := .cardRetire) (by decide) ok named
    refine ⟨fun free => exec_whole_stores rfl h wf (served.trans (if_neg ?_)),
      fun held => exec_whole rfl h (served.trans (if_pos ((s.inPassage_iff slot).2 held))) rfl⟩
    rw [s.inPassage_iff]
    exact fun ⟨l, holds⟩ => Bool.false_ne_true ((free l).symm.trans holds)

end Sys2Proof.Machine
end

section
namespace Sys2Proof.Machine

/-! ### ENFORCE and the fare-table writes (R31, R52 to R55) -/

/-- An index is read only from a word below `n`. -/
theorem indexBelow_some {n : Nat} {w : Word} {i : Fin n} (h : indexBelow n w = some i) : w.toNat < n := by
  by_contra beyond
  rw [indexBelow_none (Nat.le_of_not_lt beyond)] at h
  cases h

theorem serveFareSetBase_refused {r f b : Word} (s : State)
    (out : 8 ≤ r.toNat ∨ 4 ≤ f.toNat ∨ 60000 < b.toNat) :
    serveFareSetBase [r, f, b] s = s.refused .badOperand := by
  simp only [serveFareSetBase, arg, List.getD_cons_zero, List.getD_cons_succ]
  split
  · next route cls hr hf =>
    have route := indexBelow_some hr
    have cls := indexBelow_some hf
    exact if_neg (by omega)
  · rfl

/-- The start that a write may give a band (R53 check 2). -/
theorem bandStartOk_iff (b : BandIx) (start : Word) :
    bandStartOk b start.toNat = true ↔
      if b = 0 then start = 0 else (1 ≤ start.toNat ∧ start.toNat ≤ 1919) ∨ start = 65535#16 := by
  unfold bandStartOk
  split
  · simp [← BitVec.toNat_inj]
  · simp [← BitVec.toNat_inj]

/-- The used bands have rising starts exactly when they rise from each to every later one (R53 check 3). -/
theorem bandsIncreasing_iff (bands : Vector Band 6) :
    bandsIncreasing bands = true ↔
      ∀ x y : BandIx, x < y → bandUsed x bands[x] = true → bandUsed y bands[y] = true →
        (bands[x]).start < (bands[y]).start := by
  refine ⟨fun h x y before hx hy => start_lt_of_bandsIncreasing h before hx hy, fun rising => ?_⟩
  rw [bandsIncreasing, usedStarts, decide_eq_true_eq, List.pairwise_filterMap]
  refine (List.pairwise_lt_finRange 6).imp fun {x y} before m hm n hn => ?_
  simp only [Option.ite_none_right_eq_some, Option.some.injEq] at hm hn
  obtain ⟨hx, rfl⟩ := hm
  obtain ⟨hy, rfl⟩ := hn
  exact rising x y before hx hy

/-- FARE SET BAND of a band of the table stores it under the checks of R53. -/
theorem serveFareSetBand_band (b : BandIx) (start k0 k1 k2 k3 : Word) (s : State) :
    serveFareSetBand [word b.val, start, k0, k1, k2, k3] s =
      if bandStartOk b start.toNat && bandsIncreasing
          (s.fares.bands.set b.val ⟨start.toNat, #v[k0.toNat, k1.toNat, k2.toNat, k3.toNat]⟩)
      then State.served { s with fares := { s.fares with
        bands := s.fares.bands.set b.val ⟨start.toNat, #v[k0.toNat, k1.toNat, k2.toNat, k3.toNat]⟩ } }
      else s.refused .badOperand := by
  simp only [serveFareSetBand, arg, List.getD_cons_zero, List.getD_cons_succ, indexBelow_word (show 6 ≤ 65536 by decide)]

theorem UnknownPolicy.ofWord_none {w : Word} (h : 2 ≤ w.toNat) : UnknownPolicy.ofWord w = none := by
  have zero : w ≠ 0 := by rintro rfl; simp at h
  have one : w ≠ 1 := by rintro rfl; simp at h
  rw [UnknownPolicy.ofWord, if_neg zero, if_neg one]

theorem UnknownPolicy.ofWord_code (q : UnknownPolicy) : UnknownPolicy.ofWord (word q.code) = some q := by
  cases q <;> decide

theorem serveFareSetPolicy_refused {window low policy f : Word} (s : State)
    (out : 240 < window.toNat ∨ 65000 < low.toNat ∨ 2 ≤ policy.toNat ∨ 4 ≤ f.toNat) :
    serveFareSetPolicy [window, low, policy, f] s = s.refused .badOperand := by
  simp only [serveFareSetPolicy, arg, List.getD_cons_zero, List.getD_cons_succ]
  split
  · next q cls hq hf =>
    have cls := indexBelow_some hf
    have known : policy.toNat < 2 := by
      by_contra beyond
      rw [UnknownPolicy.ofWord_none (Nat.le_of_not_lt beyond)] at hq
      cases hq
    exact if_neg (by omega)
  · rfl

theorem serveFareSetClass_refused {f cap allowance : Word} (s : State)
    (out : 4 ≤ f.toNat ∨ 65000 < cap.toNat ∨ 5000 < allowance.toNat) :
    serveFareSetClass [f, cap, allowance] s = s.refused .badOperand := by
  simp only [serveFareSetClass, arg, List.getD_cons_zero, List.getD_cons_succ]
  split
  · rfl
  · next cls hf =>
    have cls := indexBelow_some hf
    exact if_neg (by omega)

/-- Settles O41: each write is served whole; an operand that is read back from its word and lies within its range writes its
entry, and any other leaves the tables as they are. -/
theorem fareTablesWritten : Obligations.FareTablesWritten := by
  unfold Obligations.FareTablesWritten
  intro s
  dsimp only
  refine ⟨fun w h => ⟨?_, ?_, fun out => ?_⟩, fun r f b h => ⟨?_, fun out => ?_⟩,
    fun n start k0 k1 k2 k3 h => ⟨?_, fun out => ?_⟩, fun f cap allowance h => ⟨?_, fun out => ?_⟩,
    fun window low policy f h => ⟨?_, fun out => ?_⟩⟩
  · rintro rfl
    exact exec_whole rfl h rfl rfl
  · rintro rfl
    exact exec_whole rfl h rfl rfl
  · have on : w ≠ 1 := by rintro rfl; simp at out
    have off : w ≠ 0 := by rintro rfl; simp at out
    exact exec_whole rfl h ((if_neg on).trans (if_neg off)) rfl
  · rintro route fc rfl rfl inRange
    refine exec_whole rfl h ?_ rfl
    simp only [server, serveFareSetBase, arg, List.getD_cons_zero, List.getD_cons_succ,
      indexBelow_word (show 8 ≤ 65536 by decide), indexBelow_word (show 4 ≤ 65536 by decide)]
    exact if_pos inRange
  · exact exec_whole rfl h (serveFareSetBase_refused s out) rfl
  · rintro b rfl
    have served := serveFareSetBand_band b start k0 k1 k2 k3 s
    simp only [Bool.and_eq_true, bandStartOk_iff, bandsIncreasing_iff] at served
    exact ⟨fun startOk rising => exec_whole rfl h (served.trans (if_pos ⟨startOk, rising⟩)) rfl,
      fun bad => exec_whole rfl h (served.trans (if_neg bad)) rfl⟩
  · refine exec_whole rfl h ?_ rfl
    simp only [server, serveFareSetBand, arg, List.getD_cons_zero, indexBelow_none out]
    rfl
  · rintro fc rfl capOk allowanceOk
    refine exec_whole rfl h ?_ rfl
    simp only [server, serveFareSetClass, arg, List.getD_cons_zero, List.getD_cons_succ,
      indexBelow_word (show 4 ≤ 65536 by decide)]
    exact if_pos ⟨capOk, allowanceOk⟩
  · exact exec_whole rfl h (serveFareSetClass_refused s out) rfl
  · rintro q fc rfl rfl windowOk lowOk
    refine exec_whole rfl h ?_ rfl
    simp only [server, serveFareSetPolicy, arg, List.getD_cons_zero, List.getD_cons_succ, UnknownPolicy.ofWord_code,
      indexBelow_word (show 4 ≤ 65536 by decide)]
    exact if_pos ⟨windowOk, lowOk⟩
  · exact exec_whole rfl h (serveFareSetPolicy_refused s out) rfl

end Sys2Proof.Machine
end

section
namespace Sys2Proof.Machine

/-! ### Fare stage 1: the band in force (R58) -/

/-- The band that the choice holds after it has looked at band `b` (R58). -/
def laterBand (bands : Vector Band 6) (minute : Nat) (best : Band) (b : BandIx) : Band :=
  if bandUsed b bands[b] && decide ((bands[b]).start ≤ minute) && decide (best.start < (bands[b]).start) then bands[b]
  else best

theorem bandInForce_eq_foldl (bands : Vector Band 6) (minute : Nat) :
    bandInForce bands minute = (List.finRange 6).foldl (laterBand bands minute) bands[(0 : BandIx)] := rfl

/-- Band `b` is one that the choice may take at the minute: it is used and has started (R58). -/
def BandRuns (bands : Vector Band 6) (minute : Nat) (b : BandIx) : Prop :=
  bandUsed b bands[b] = true ∧ (bands[b]).start ≤ minute

/-- Looking at one more band takes it exactly where it runs and starts later than the band held. -/
theorem laterBand_eq (bands : Vector Band 6) (minute : Nat) (best b : BandIx) :
    laterBand bands minute bands[best] b = bands[b] ∧ BandRuns bands minute b ∧ (bands[best]).start < (bands[b]).start
    ∨ laterBand bands minute bands[best] b = bands[best]
      ∧ (BandRuns bands minute b → (bands[b]).start ≤ (bands[best]).start) := by
  simp only [laterBand, BandRuns, Bool.and_eq_true, decide_eq_true_eq]
  split
  · next later => exact .inl ⟨rfl, later⟩
  · next notLater => exact .inr ⟨rfl, fun runs => Nat.not_lt.1 fun later => notLater ⟨runs, later⟩⟩

/-- Looking through bands from one that runs ends at one that runs and starts no earlier than it, nor than any band
looked at that runs. -/
theorem foldl_laterBand (bands : Vector Band 6) (minute : Nat) (seen : List BandIx) (best : BandIx)
    (runs : BandRuns bands minute best) :
    ∃ b : BandIx, seen.foldl (laterBand bands minute) bands[best] = bands[b] ∧ BandRuns bands minute b
      ∧ (bands[best]).start ≤ (bands[b]).start
      ∧ ∀ e ∈ seen, BandRuns bands minute e → (bands[e]).start ≤ (bands[b]).start := by
  induction seen generalizing best with
  | nil => exact ⟨best, rfl, runs, Nat.le_refl _, nofun⟩
  | cons x rest ih =>
    rw [List.foldl_cons]
    obtain ⟨taken, xRuns, later⟩ | ⟨kept, noLater⟩ := laterBand_eq bands minute best x
    · obtain ⟨b, ends, bRuns, fromX, latest⟩ := ih x xRuns
      rw [taken]
      exact ⟨b, ends, bRuns, later.le.trans fromX, List.forall_mem_cons.2 ⟨fun _ => fromX, latest⟩⟩
    · obtain ⟨b, ends, bRuns, fromBest, latest⟩ := ih best runs
      rw [kept]
      exact ⟨b, ends, bRuns, fromBest, List.forall_mem_cons.2 ⟨fun runs => (noLater runs).trans fromBest, latest⟩⟩

/-- Where band 0 starts at minute 0, the band in force is a used band that has started, and none such starts later. -/
theorem bandInForce_latest {bands : Vector Band 6} (zero : (bands[(0 : BandIx)]).start = 0) (minute : Nat) :
    ∃ b : BandIx, bandInForce bands minute = bands[b] ∧ BandRuns bands minute b
      ∧ ∀ e : BandIx, BandRuns bands minute e → (bands[e]).start ≤ (bands[b]).start := by
  have runs : BandRuns bands minute 0 := ⟨by simp [bandUsed], zero ▸ Nat.zero_le _⟩
  obtain ⟨b, ends, bRuns, -, latest⟩ := foldl_laterBand bands minute (List.finRange 6) 0 runs
  exact ⟨b, (bandInForce_eq_foldl bands minute).trans ends, bRuns, fun e => latest e (List.mem_finRange e)⟩

/-! ### Fare stages 2 to 4: the raw fare, transfer credit and the cap (R59 to R62) -/

/-- The raw fare is the quotient of B x K + 16,384 by 32,768 (R59). -/
theorem rawFare_bounds (b k : Nat) :
    32768 * rawFare b k ≤ b * k + 16384 ∧ b * k + 16384 < 32768 * (rawFare b k + 1) := by
  unfold rawFare
  omega

/-- With a base fare and a rate in range the raw fare is at most that of the greatest of both (R59). -/
theorem rawFare_le {b k : Nat} (base : b ≤ 60000) (rate : k ≤ 65535) : rawFare b k ≤ 119998 :=
  (Nat.div_le_div_right (Nat.add_le_add_right (Nat.mul_le_mul base rate) 16384)).trans (by decide)

/-- The journey earns transfer credit: it is live (R34) and was last on another route class (R60). -/
def Journey.Credited (j : Journey) (window : Nat) (route : RouteClass) (day minute : Nat) : Prop :=
  0 < window ∧ j.startDay = day ∧ j.startMinute ≤ minute ∧ minute ≤ j.startMinute + window ∧ j.route ≠ route

theorem Journey.credited_iff (j : Journey) (window : Nat) (route : RouteClass) (day minute : Nat) :
    (journeyLive window j day minute && j.route != route) = true ↔ j.Credited window route day minute := by
  simp only [Journey.Credited, journeyLive, Bool.and_eq_true, decide_eq_true_eq, bne_iff_ne, and_assoc,
    Nat.sub_le_iff_le_add']

/-- A journey that earns credit lowers the raw fare by what was paid, and marks the transfer (R60). -/
theorem transferCredit_credited {j : Journey} {window : Nat} {route : RouteClass} {day minute : Nat}
    (credited : j.Credited window route day minute) (raw : Nat) :
    transferCredit window raw (some j) route day minute = (raw - j.paid, true) :=
  if_pos ((j.credited_iff ..).2 credited)

/-- Without a journey that earns credit the raw fare stands (R60). -/
theorem transferCredit_uncredited {journey : Option Journey} {window : Nat} {route : RouteClass} {day minute : Nat}
    (uncredited : ∀ j, journey = some j → ¬j.Credited window route day minute) (raw : Nat) :
    transferCredit window raw journey route day minute = (raw, false) := by
  cases journey with
  | none => rfl
  | some j => exact if_neg fun credited => uncredited j rfl ((j.credited_iff ..).1 credited)

/-- Transfer credit only lowers a figure (R62). -/
theorem transferCredit_le (window raw : Nat) (journey : Option Journey) (route : RouteClass) (day minute : Nat) :
    (transferCredit window raw journey route day minute).1 ≤ raw := by
  unfold transferCredit
  split
  · exact Nat.le_refl _
  · split
    · exact Nat.sub_le _ _
    · exact Nat.le_refl _

/-- The daily cap only lowers a figure (R62). -/
theorem capCharge_le (cap spend figure : Nat) : capCharge cap spend figure ≤ figure := by
  unfold capCharge
  split
  · exact Nat.le_refl _
  · exact Nat.min_le_left _ _

/-- The raw fare of a fare class on a route class at a minute (R57 to R59). -/
def FareTables.rawFareAt (t : FareTables) (route : RouteClass) (f : FareClass) (minute : Nat) : Nat :=
  rawFare (t.baseFare route f) (bandInForce t.bands minute).rates[f]

/-- The charge of a PURSE record is what transfer credit leaves of the raw fare, limited by the cap (R59 to R61). -/
theorem fareCharge_purse {t : FareTables} {r : CardRecord} {route : RouteClass} {day minute figure : Nat} {mark : Bool}
    (purse : r.product = .purse)
    (credit : transferCredit t.transferWindow (t.rawFareAt route r.fareClass minute) r.journey route day minute
      = (figure, mark)) :
    fareCharge t r route day minute = (capCharge t.caps[r.fareClass] (r.effectiveSpend day) figure, mark) := by
  rw [FareTables.rawFareAt] at credit
  simp only [fareCharge, purse, credit]

/-- The charge of a PURSE record is never above its raw fare (R62). -/
theorem fareCharge_le_rawFareAt {r : CardRecord} (purse : r.product = .purse) (t : FareTables) (route : RouteClass)
    (day minute : Nat) : (fareCharge t r route day minute).1 ≤ t.rawFareAt route r.fareClass minute := by
  rw [fareCharge_purse purse rfl]
  exact (capCharge_le ..).trans (transferCredit_le ..)

/-- The sufficiency test of a PURSE record (R64). -/
theorem fareSufficient_purse {r : CardRecord} (purse : r.product = .purse) (t : FareTables) (charge : Nat) :
    fareSufficient t r charge = true ↔ -(t.allowances[r.fareClass] : Int) ≤ r.balance - charge := by
  simp only [fareSufficient, purse, decide_eq_true_eq]

/-- PASS and STAFF ride at charge 0, untested and with zero fare fields (R63). -/
theorem fareStages_notPurse {r : CardRecord} (other : r.product ≠ .purse) (t : FareTables) (route : RouteClass)
    (day minute : Nat) :
    fareCharge t r route day minute = (0, false)
    ∧ ∀ charge : Nat, fareSufficient t r charge = true ∧ openFareFields t r charge = FareFields.zero := by
  cases product : r.product with
  | purse => exact absurd product other
  | pass => simp only [fareCharge, fareSufficient, openFareFields, product, and_self, implies_true]
  | staff => simp only [fareCharge, fareSufficient, openFareFields, product, and_self, implies_true]

/-- Settles O34: stage 1 by what the choice of the band holds as it looks through the bands, and stages 2 to 6 each by
what its own figure is. -/
theorem fareStages : Obligations.FareStages := by
  unfold Obligations.FareStages
  rintro t day minute ⟨base, bands, zero, -⟩
  obtain ⟨b, inForce, ⟨used, started⟩, latest⟩ := bandInForce_latest zero minute
  refine ⟨⟨b, inForce, used, started, fun e eUsed eStarted => latest e ⟨eUsed, eStarted⟩⟩,
    fun r route => ⟨fun purse => ?_, fun other => fareStages_notPurse other t route day minute⟩⟩
  have rate : (bandInForce t.bands minute).rates[r.fareClass] ≤ 65535 := inForce ▸ (bands b).2 r.fareClass
  obtain ⟨low, high⟩ := rawFare_bounds (t.baseFare route r.fareClass) (bandInForce t.bands minute).rates[r.fareClass]
  refine ⟨low, high, rawFare_le (base ⟨4 * route.val + r.fareClass.val, by omega⟩) rate,
    fun j journey credited => fareCharge_purse purse (journey ▸ transferCredit_credited credited _),
    fun uncredited => fareCharge_purse purse (transferCredit_uncredited uncredited _),
    fareCharge_le_rawFareAt purse t route day minute, fareSufficient_purse purse t⟩

/-! ### FARE READ (R56) -/

/-- A vector's entries in the order of their indices. -/
theorem vector_toList_eq_map_finRange {α : Type} {n : Nat} (v : Vector α n) :
    v.toList = (List.finRange n).map fun i => v[i] := by
  apply List.ext_getElem <;> simp

/-- The words of the base fares, in their order (R56). -/
theorem fareWords_base (t : FareTables) : fareWords t 0 = some ((List.finRange 32).map fun i => word t.base[i]) := by
  simp only [fareWords, vector_toList_eq_map_finRange, List.map_map]
  rfl

/-- The words of the rate bands: each band's start and its four rates (R56). -/
theorem fareWords_bands (t : FareTables) :
    fareWords t 1 = some ((List.finRange 6).flatMap fun b =>
      let band := t.bands[b]
      [word band.start, word band.rates[(0 : Fin 4)], word band.rates[(1 : Fin 4)], word band.rates[(2 : Fin 4)],
        word band.rates[(3 : Fin 4)]]) := by
  simp only [fareWords, vector_toList_eq_map_finRange, List.flatMap_map, List.map_map]
  rfl

/-- A part above 3 has no words (R56). -/
theorem fareWords_none (t : FareTables) {part : Nat} (beyond : 4 ≤ part) : fareWords t part = none := by
  obtain ⟨n, rfl⟩ := Nat.exists_eq_add_of_le' beyond
  rfl

/-- FARE READ of a part that has words answers them with their number and changes nothing else (R56). -/
theorem exec_fareRead_counted {s : State} {part : Word} {data : List Word} (h : s.hosts .fareRead [part])
    (words : fareWords s.fares part.toNat = some data) :
    exec (.fareRead .whole) s = .next (s.handed (.counted data)) :=
  exec_whole rfl h (by simp only [server, serveFareRead, arg, List.getD_cons_zero, words]) rfl

/-- Settles O42: parts 0 to 3 each have their words and any other part has none. -/
theorem faresRead : Obligations.FaresRead := by
  unfold Obligations.FaresRead
  intro s part h
  refine ⟨?_, ?_, ?_, ?_, fun beyond => ?_⟩
  · rintro rfl
    exact exec_fareRead_counted h (fareWords_base s.fares)
  · rintro rfl
    exact exec_fareRead_counted h (fareWords_bands s.fares)
  · rintro rfl
    exact exec_fareRead_counted h rfl
  · rintro rfl
    exact exec_fareRead_counted h rfl
  · refine exec_whole rfl h ?_ rfl
    simp only [server, serveFareRead, arg, List.getD_cons_zero, fareWords_none s.fares beyond]
    rfl

end Sys2Proof.Machine
end

section
namespace Sys2Proof.Machine

/-! ### DIRECT commands where the host's COMMAND word begins one (R162, R165, R167) -/

/-- A DIRECT command that the service state does not refuse: its owner's outcome stands on the link, and nothing else
differs from what the owner leaves. -/
theorem State.hostDirect_answering {s t : State} {c : Cmd} {own : State → Taken} {a : Answer}
    (takes : s.takesCommand = true) (judged : judgeGroup c.group s.service = none)
    (owned : own { s with link := ⟨s.link.phase, none⟩ } = ({ t with link := ⟨s.link.phase, none⟩ }, some a)) :
    s.hostDirect c own = t.answering a := by
  have taken : State.direct { s with link := ⟨s.link.phase, none⟩ } c own = t.answering a := by
    simp only [State.direct, judged, owned]
    rfl
  rcases s.hostDirect_cases c own with ⟨_, e⟩ | ⟨⟨k, n, ws, phase⟩, _⟩ | ⟨⟨k, ws, late, phase⟩, _⟩
  · exact e.trans taken
  · simp [State.takesCommand, phase] at takes
  · simp [State.takesCommand, phase] at takes

/-- In service no group of commands is refused for the service state (R165). -/
theorem judgeGroup_inService {s : State} (h : s.inService = true) (g : CmdGroup) : judgeGroup g s.service = none := by
  have states : s.service = .serving ∨ s.service = .halting ∨ s.service = .halted := by
    simpa [State.inService, or_assoc] using h
  rcases states with e | e | e <;> cases g <;> simp [judgeGroup, e]

/-! ### Occurrences one after the other (R173) -/

@[simp] theorem Attention.occurs_zero (a : Attention) (c : Cause) (x : Subject) : a.occurs c x 0 = a := rfl

@[simp] theorem Attention.occurs_one (a : Attention) (c : Cause) (x : Subject) : a.occurs c x 1 = a.occur c x := rfl

theorem Attention.occurs_add (a : Attention) (c : Cause) (x : Subject) (m n : Nat) :
    a.occurs c x (m + n) = (a.occurs c x m).occurs c x n := by
  rw [Nat.add_comm]
  exact Function.iterate_add_apply _ n m a

/-! ### The clock (R72 to R74) -/

/-- A minute event below 1,918 moves the minute on (R73). -/
theorem State.minuteEvent_below {s : State} (h : s.clock.minute ≤ 1917) :
    s.minuteEvent = { s with clock := { s.clock with minute := s.clock.minute + 1 } } :=
  if_pos (by omega)

/-- A minute event at 1,918 brings the minute to 1,919, with CLOCK HELD for the day (R73). -/
theorem State.minuteEvent_last {s : State} (h : s.clock.minute = 1918) :
    s.minuteEvent = { s with
      clock := { s.clock with minute := 1919 }
      attention := s.attention.occur .clockHeld (numberSubject s.clock.day) } :=
  (if_neg (by omega)).trans (if_pos h)

/-- A minute event leaves a clock held at 1,919 alone (R73). -/
theorem State.minuteEvent_held {s : State} (h : 1919 ≤ s.clock.minute) : s.minuteEvent = s :=
  (if_neg (by omega)).trans (if_neg (by omega))

/-- A minute event moves a minute below 1,919 on by one, with CLOCK HELD where it reaches 1,919 (R73). -/
theorem State.minuteEvent_eq (s : State) :
    s.minuteEvent = { s with
      clock := { s.clock with minute := if s.clock.minute < 1919 then s.clock.minute + 1 else s.clock.minute }
      attention := s.attention.occurs .clockHeld (numberSubject s.clock.day)
        (if s.clock.minute = 1918 then 1 else 0) } := by
  rcases lt_trichotomy s.clock.minute 1918 with below | last | held
  · rw [State.minuteEvent_below (by omega), if_pos (by omega), if_neg (by omega), Attention.occurs_zero]
  · simp [State.minuteEvent_last, last]
  · simp [State.minuteEvent_held held, show ¬s.clock.minute < 1919 by omega, held.ne']

/-- A second counted moves the clock on, with CLOCK HELD where that brings the minute to 1,919 (R72, R73). -/
theorem State.countSecond_eq (s : State) :
    s.countSecond = { s with
      clock := s.clock.afterSecond
      attention := s.attention.occurs .clockHeld (numberSubject s.clock.day)
        (if s.clock.reachesHold then 1 else 0) } := by
  unfold State.countSecond Clock.afterSecond Clock.reachesHold
  split
  · next within => simp [show ¬60 ≤ s.clock.second + 1 by omega]
  · next full => simp [State.minuteEvent_eq, show 60 ≤ s.clock.second + 1 by omega]

/-- A setting of the clock writes it whole, with CLOCK HELD where the minute rises to 1,919 (R74). -/
theorem State.setClock_eq (s : State) (day minute : Nat) :
    s.setClock day minute = { s with
      clock := ⟨day, minute, 0⟩
      attention := if s.clock.minute < 1919 ∧ minute = 1919 then s.attention.occur .clockHeld (numberSubject day)
        else s.attention } := by
  simp only [State.setClock]
  split <;> rfl

/-- A setting of the clock as its command leaves it, where the owner makes one. -/
theorem State.hostDirect_setClock {s : State} {c : Cmd} {own : State → Taken} {day minute : Nat}
    (takes : s.takesCommand = true) (always : c.group = .always)
    (owned : ∀ k : Link, own { s with link := k } = (State.setClock { s with link := k } day minute).ok) :
    s.hostDirect c own = (s.setClock day minute).answering .ok :=
  State.hostDirect_answering takes (by rw [always]; rfl) (by
    rw [owned, State.setClock_eq, State.setClock_eq]
    rfl)

/-- A command that no service state refuses, refused by its owner: nothing but the link changes (R168). -/
theorem State.hostDirect_refused {s : State} {c : Cmd} {own : State → Taken} {code : RejectCode}
    (takes : s.takesCommand = true) (always : c.group = .always)
    (owned : ∀ k : Link, own { s with link := k } = State.refuse { s with link := k } code) :
    s.hostDirect c own = s.answering (.reject code) :=
  State.hostDirect_answering takes (by rw [always]; rfl) (owned _)

/-- Settles O5: the minute event and the settings of the clock, by the boundary at minute 1,919. -/
theorem clockMoves : Obligations.ClockMoves := by
  unfold Obligations.ClockMoves
  refine ⟨fun s below => ?_, fun s last => ?_, fun s held => ?_, fun s day m takes => ?_⟩
  · exact congrArg _ (State.minuteEvent_below below)
  · exact congrArg _ (State.minuteEvent_last last)
  · exact congrArg _ (State.minuteEvent_held held.ge)
  · intro set
    have is_set : ∀ d, set d = s.setClock d m.toNat := fun d => (s.setClock_eq d m.toNat).symm
    simp only [is_set]
    refine ⟨fun legal => ?_, fun legal more => ?_, fun legal => ?_, fun above => ⟨?_, ?_, ?_⟩, fun full => ?_⟩
    · exact congrArg _ (State.hostDirect_setClock takes rfl fun k => if_pos legal)
    · exact congrArg _ (State.hostDirect_setClock takes rfl fun k => if_pos ⟨legal, more⟩)
    · exact congrArg _ (State.hostDirect_setClock takes rfl fun k => if_pos legal)
    · exact congrArg _ (State.hostDirect_refused takes rfl fun k => if_neg (by omega))
    · exact congrArg _ (State.hostDirect_refused takes rfl fun k => if_neg (by omega))
    · exact congrArg _ (State.hostDirect_refused takes rfl fun k => if_neg (by omega))
    · exact congrArg _ (State.hostDirect_refused takes rfl fun k => if_neg fun h => h.2.ne full)

/-- The words of BERTH READ, berth by berth (R102). -/
theorem berthWords_eq (s : State) :
    ((List.finRange 4).map fun b => (s.berth b).elim 65535#16 fun d => word d.val) =
      [indexWord (s.berth 0), indexWord (s.berth 1), indexWord (s.berth 2), indexWord (s.berth 3)] := by
  have read : ∀ d : Option DepIx, (d.elim 65535#16 fun d => word d.val) = indexWord d := fun d => by cases d <;> rfl
  simp only [read]
  rfl

/-- Settles O6: both commands read one moment's values, which the link then holds. -/
theorem clockAndBerthRead : Obligations.ClockAndBerthRead := by
  unfold Obligations.ClockAndBerthRead
  refine ⟨fun s takes => ⟨?_, fun t u _ minute => ?_⟩, fun s takes service => ?_⟩
  · exact congrArg _ (State.hostDirect_answering takes rfl rfl)
  · obtain rfl : t.minuteEvent = u := by injection minute
    rw [t.minuteEvent_eq]
  · exact congrArg _ (State.hostDirect_answering takes (judgeGroup_inService service _) (by
      rw [berthWords_eq]
      rfl))

end Sys2Proof.Machine
end

section
namespace Sys2Proof.Machine

/-! ### Writes that follow one another -/

@[simp] theorem State.setLane_self (s : State) (l : Lane) : s.setLane l (s.lane l) = s := by
  simp [State.setLane, State.lane]

@[simp] theorem State.setLane_setLane (s : State) (l : Lane) (p q : LanePort) :
    (s.setLane l p).setLane l q = s.setLane l q := by
  simp [State.setLane]

@[simp] theorem State.setDep_self (s : State) (d : DepIx) : s.setDep d (s.dep d) = s := by
  simp [State.setDep, State.dep]

/-! ### Occurrences of LANE FAULT (R127, R173) -/

@[simp] theorem State.raiseLaneFaults_zero (s : State) (l : Lane) : s.raiseLaneFaults l 0 = s := rfl

theorem State.raiseLaneFaults_add (s : State) (l : Lane) (m n : Nat) :
    (s.raiseLaneFaults l m).raiseLaneFaults l n = s.raiseLaneFaults l (m + n) := by
  simp only [State.raiseLaneFaults_eq, Nat.add_comm m n, Function.iterate_add_apply]

theorem State.raiseLaneFaults_setLane (s : State) (l k : Lane) (n : Nat) (p : LanePort) :
    (s.raiseLaneFaults l n).setLane k p = (s.setLane k p).raiseLaneFaults l n := by
  simp only [State.raiseLaneFaults_eq]
  rfl

@[simp] theorem State.raiseLaneFaults_lane (s : State) (l k : Lane) (n : Nat) :
    (s.raiseLaneFaults l n).lane k = s.lane k := by
  rw [s.raiseLaneFaults_eq]
  rfl

@[simp] theorem State.raiseLaneFaults_dep (s : State) (l : Lane) (n : Nat) (d : DepIx) :
    (s.raiseLaneFaults l n).dep d = s.dep d := by
  rw [s.raiseLaneFaults_eq]
  rfl

@[simp] theorem State.raiseLaneFaults_service (s : State) (l : Lane) (n : Nat) :
    (s.raiseLaneFaults l n).service = s.service := by
  rw [s.raiseLaneFaults_eq]

@[simp] theorem State.raiseLaneFaults_attention (s : State) (l : Lane) (n : Nat) :
    (s.raiseLaneFaults l n).attention = s.attention.occurs .laneFault (numberSubject l.val) n := by
  rw [s.raiseLaneFaults_eq]
  rfl

/-! ### Messages offered to a transmit queue (R127) -/

@[simp] theorem offered_nil (q : List Message) : offered q [] = q := by simp [offered]

@[simp] theorem dropped_zero (q : List Message) : dropped q 0 = 0 := by simp [dropped]

theorem offered_length (q ms : List Message) :
    (offered q ms).length = min (max 4 q.length) (q.length + ms.length) := by
  simp [offered]

/-- Messages offered after others find the queue that those left. -/
theorem offered_append (q ms ns : List Message) : offered q (ms ++ ns) = offered (offered q ms) ns := by
  unfold offered
  by_cases room : q.length + ms.length ≤ max 4 q.length
  · rw [List.take_of_length_le (l := q ++ ms) (by simpa using room), List.append_assoc, List.length_append,
      show max 4 (q.length + ms.length) = max 4 q.length by omega]
  · have full : ((q ++ ms).take (max 4 q.length)).length = max 4 q.length := by
      simp only [List.length_take, List.length_append]
      omega
    rw [full, show max 4 (max 4 q.length) = max 4 q.length by omega, List.take_append_of_le_length full.ge,
      List.take_take, min_self, ← List.append_assoc, List.take_append_of_le_length (by simp; omega)]

/-- What is discarded of messages offered one after the other. -/
theorem dropped_add (q ms : List Message) (n : Nat) :
    dropped q (ms.length + n) = dropped q ms.length + dropped (offered q ms) n := by
  simp only [dropped, offered_length]
  omega

/-- One message is queued where fewer than four wait. -/
theorem offered_singleton (q : List Message) (m : Message) :
    offered q [m] = if q.length < 4 then q ++ [m] else q := by
  unfold offered
  split
  · next room => exact List.take_of_length_le (by simp; omega)
  · next full => rw [max_eq_right (by omega), List.take_left']; rfl

/-- A message sent is offered to the queue of its lane, and LANE FAULT counts it where it is discarded (R127). -/
theorem State.send_eq (s : State) (l : Lane) (m : Message) :
    s.send l m = (s.setLane l { s.lane l with queue := offered (s.lane l).queue [m] }).raiseLaneFaults l
      (dropped (s.lane l).queue 1) := by
  rcases s.send_cases l m with ⟨room, e⟩ | ⟨full, e⟩ <;> rw [e, offered_singleton]
  · rw [if_pos room, show dropped (s.lane l).queue 1 = 0 by unfold dropped; omega]
    rfl
  · rw [if_neg (by omega), show dropped (s.lane l).queue 1 = 1 by unfold dropped; omega]
    exact congrArg (fun t : State => t.raise .laneFault (numberSubject l.val)) (s.setLane_self l).symm

/-! ### A release raises no event (R88, R91, R92) -/

/-- Remaining does not fall where held does, so that neither NEAR FULL nor DEPARTURE FULL is raised. -/
theorem Departure.remaining_le_of_released (r : Departure) :
    r.remaining ≤ Departure.remaining { r with held := r.held - 1 } := by
  simp only [Departure.remaining]
  omega

theorem nearFullRaised_of_released (r : Departure) : nearFullRaised r { r with held := r.held - 1 } = false := by
  have rises := r.remaining_le_of_released
  simp [nearFullRaised]
  omega

theorem departureFullRaised_of_released (r : Departure) :
    departureFullRaised r { r with held := r.held - 1 } = false := by
  have rises := r.remaining_le_of_released
  simp [departureFullRaised]
  omega

theorem armedAfter_of_released (r : Departure) :
    armedAfter r { r with held := r.held - 1 }
      = (r.armed || decide (r.margin < r.capacity - r.boarded - (r.held - 1))) := by
  simp only [armedAfter, nearFullRaised_of_released, Departure.remaining]
  by_cases above : r.margin < r.capacity - r.boarded - (r.held - 1) <;> simp [above]

/-- A release changes its departure alone (R88). -/
theorem State.release_eq (s : State) (d : DepIx) : s.release d = s.setDep d (s.dep d).released := by
  unfold State.release Departure.released
  split
  · simp
  · simp only [State.changeDep, nearFullRaised_of_released, departureFullRaised_of_released, armedAfter_of_released,
      Bool.false_eq_true, if_false]

/-! ### An open verdict ended without a passage (R110, R113) -/

/-- R184's check changes the service state alone. -/
theorem State.checkHalted_eq (s : State) :
    s.checkHalted = { s with service := if s.service = .halting ∧ s.lanesInHand = 0 then .halted else s.service } := by
  rcases s.checkHalted_cases with ⟨halting, empty, e⟩ | ⟨h, e⟩ <;> rw [e]
  · simp [halting, empty]
  · rw [if_neg h]

@[simp] theorem State.checkHalted_lanesInHand (s : State) : s.checkHalted.lanesInHand = s.lanesInHand := by
  simp only [State.lanesInHand, State.checkHalted_lane]

/-- A lane at rest, the LANE STATE CLOSED of one that was to close offered to its queue (R110, R113, R118). -/
def LanePort.rested (p : LanePort) : LanePort :=
  { p with
    state := if p.closeRequested then .down else .idle
    closeRequested := false
    queue := offered p.queue p.closing }

theorem State.laneRest_eq (s : State) (l : Lane) :
    s.laneRest l = ((s.setLane l (s.lane l).rested).raiseLaneFaults l
      (dropped (s.lane l).queue (s.lane l).closing.length)).checkHalted := by
  simp only [State.laneRest, LanePort.rested, LanePort.closing]
  cases h : (s.lane l).closeRequested <;> simp [State.send_eq]

/-- The state with the departure that the open verdict of a lane names released (R110, R113). -/
def State.releaseVerdict (s : State) (l : Lane) : State :=
  (s.lane l).openVerdict.elim s fun v => s.release v.departure

theorem State.releaseVerdict_eq (s : State) (l : Lane) :
    s.releaseVerdict l = { s with departures := (s.releaseVerdict l).departures } := by
  unfold State.releaseVerdict
  cases (s.lane l).openVerdict with
  | none => rfl
  | some v => simp only [Option.elim_some, s.release_eq]; rfl

@[simp] theorem State.releaseVerdict_lane (s : State) (l k : Lane) : (s.releaseVerdict l).lane k = s.lane k := by
  rw [s.releaseVerdict_eq]
  rfl

theorem State.releaseVerdict_dep (s : State) (l : Lane) (d : DepIx) :
    (s.releaseVerdict l).dep d = if (s.lane l).names d then (s.dep d).released else s.dep d := by
  unfold State.releaseVerdict LanePort.names
  cases (s.lane l).openVerdict with
  | none => rfl
  | some v =>
    by_cases h : d = v.departure
    · subst h; simp [s.release_eq]
    · simp [s.release_eq, h, Ne.symm h]

/-- A lane ended is one at rest whose answer has been offered to its queue (R110, R113). -/
theorem LanePort.ended_eq_rested (p : LanePort) (answer : Answered) (expired : Bool) :
    p.ended answer expired = LanePort.rested { p with
      secondsLeft := 0, openVerdict := none, expiredLast := p.expiredLast || expired
      queue := offered p.queue [.passageAnswer answer] } := by
  have queued : offered p.queue (.passageAnswer answer :: p.closing)
      = offered (offered p.queue [.passageAnswer answer]) p.closing := offered_append p.queue [_] p.closing
  rw [LanePort.ended, queued]
  rfl

/-- An open verdict ended without a passage, in one: its departure released, the lane ended, what found no room
counted, and R184's check. -/
theorem State.endUnpassed_eq (s : State) (l : Lane) (answer : Answered) (expired : Bool) :
    s.endUnpassed l answer expired =
      (((s.releaseVerdict l).setLane l ((s.lane l).ended answer expired)).raiseLaneFaults l
        (dropped (s.lane l).queue (1 + (s.lane l).closing.length))).checkHalted := by
  have ended : s.endUnpassed l answer expired =
      State.laneRest (State.send ((s.releaseVerdict l).setLane l { s.lane l with
        secondsLeft := 0, openVerdict := none, expiredLast := (s.lane l).expiredLast || expired })
        l (.passageAnswer answer)) l := by
    simp only [State.endUnpassed, State.releaseVerdict]
    cases (s.lane l).openVerdict <;> simp only [Option.elim_none, Option.elim_some]
  rw [ended, State.laneRest_eq, State.send_eq, LanePort.ended_eq_rested,
    show dropped (s.lane l).queue (1 + (s.lane l).closing.length) = _ from
      dropped_add (s.lane l).queue [.passageAnswer answer] (s.lane l).closing.length]
  simp only [State.raiseLaneFaults_setLane, State.raiseLaneFaults_add, State.raiseLaneFaults_lane, State.setLane_lane,
    State.setLane_setLane, if_true]
  rfl

/-- R110 and R113, whatever state the lane is in. -/
theorem State.endUnpassed_ended (s : State) (l : Lane) (answer : Answered) (expired : Bool) :
    s.EndedUnpassed (s.endUnpassed l answer expired) l answer expired := by
  have service : (s.releaseVerdict l).service = s.service := by rw [s.releaseVerdict_eq]
  have attention : (s.releaseVerdict l).attention = s.attention := by rw [s.releaseVerdict_eq]
  rw [s.endUnpassed_eq]
  refine ⟨by simp, fun k other => by simp [other], fun d => by simp [s.releaseVerdict_dep], by simp [attention],
    ?_, ?_⟩
  · rw [State.checkHalted_lanesInHand, State.checkHalted_eq]
    simp [service]
  · rw [State.checkHalted_eq, State.raiseLaneFaults_eq, s.releaseVerdict_eq]
    rfl

/-! ### A second event at one lane (R112, R113, R126) -/

/-- A lane port after a second event, but for the frame in reception (R112, R113). -/
def LanePort.timed (p : LanePort) : LanePort :=
  if p.expires then p.ended .expired true
  else if p.state = .awaiting then { p with secondsLeft := p.secondsLeft - 1 }
  else p

theorem LanePort.ticked_eq (p : LanePort) : p.ticked = { p.timed with reception := receptionTicked p.reception } := rfl

@[simp] theorem LanePort.timed_reception (p : LanePort) : p.timed.reception = p.reception := by
  unfold LanePort.timed
  split
  · rfl
  · split <;> rfl

theorem LanePort.expires_iff (p : LanePort) : p.expires = true ↔ p.state = .awaiting ∧ p.secondsLeft ≤ 1 := by
  simp [LanePort.expires]

/-- A timer that does not expire changes its own lane alone (R112). -/
theorem State.tickTimer_runs (s : State) (l : Lane) (runs : ¬(s.lane l).expires = true) :
    s.tickTimer l = s.setLane l (s.lane l).timed := by
  rw [LanePort.timed, if_neg runs]
  rw [LanePort.expires_iff] at runs
  rcases s.tickTimer_cases l with ⟨still, e⟩ | ⟨awaiting, last, _⟩ | ⟨awaiting, _, e⟩
  · rw [e, if_neg still, s.setLane_self]
  · exact absurd ⟨awaiting, last⟩ runs
  · rw [e, if_pos awaiting]

/-- A timer that expires ends the open verdict of its lane without a passage (R113). -/
theorem State.tickTimer_expires (s : State) (l : Lane) (expires : (s.lane l).expires = true) :
    s.EndedUnpassed (s.tickTimer l) l .expired true := by
  rw [LanePort.expires_iff] at expires
  rcases s.tickTimer_cases l with ⟨still, _⟩ | ⟨_, _, e⟩ | ⟨_, more, _⟩
  · exact absurd expires.1 still
  · rw [e]
    obtain ⟨lane, others, dep, attention, service, rest⟩ := State.endUnpassed_ended
      (s.setLane l { s.lane l with secondsLeft := (s.lane l).secondsLeft - 1 }) l .expired true
    simp only [State.setLane_lane, if_true] at lane dep attention
    refine ⟨lane, fun k other => ?_, dep, attention, service, rest⟩
    rw [State.expire, others k other, State.setLane_lane, if_neg other]
  · omega

/-- The second second event since its start byte discards a frame, and every other counts for it (R126). -/
theorem LanePort.receptionTicked_eq (p : LanePort) :
    receptionTicked p.reception =
      if p.timesOut then none else p.reception.map fun r => ⟨r.bytes, r.seconds + 1⟩ := by
  unfold LanePort.timesOut
  cases p.reception with
  | none => rfl
  | some r =>
    cases h : r.seconds <;> simp [receptionTicked, h]

theorem LanePort.discards_iff (p : LanePort) :
    (p.reception.isSome = true ∧ receptionTicked p.reception = none) ↔ p.timesOut = true := by
  rw [p.receptionTicked_eq]
  cases h : p.reception <;> simp [LanePort.timesOut, h, Nat.one_le_iff_ne_zero]

/-- LANE FAULT at a second event: for what an expiry finds no room for, and for a frame discarded (R113, R126). -/
theorem LanePort.tickFaults_eq (p : LanePort) :
    p.tickFaults = (if p.expires then dropped p.queue (1 + p.closing.length) else 0) + if p.timesOut then 1 else 0 := by
  simp only [LanePort.tickFaults, p.discards_iff]

/-- A second event at a lane counts for the frame in reception, or discards it with LANE FAULT (R126). -/
theorem State.tickFrame_eq (s : State) (l : Lane) :
    s.tickFrame l = (s.setLane l { s.lane l with reception := receptionTicked (s.lane l).reception }).raiseLaneFaults l
      (if (s.lane l).timesOut then 1 else 0) := by
  rw [LanePort.receptionTicked_eq]
  rcases s.tickFrame_cases l with ⟨out, e⟩ | ⟨within, e⟩ <;> rw [e]
  · rw [if_pos out, if_pos out]
    rfl
  · rw [within]
    rfl

/-! ### A second event at the twelve lanes (R72) -/

/-- `t` is `s` after the lane ports `ls` have taken a second event, in that order: the lanes, the departures that they
released, LANE FAULT, HALTED when R184 gives it, and nothing else. -/
structure State.Ticked (s : State) (ls : List Lane) (t : State) : Prop where
  lane : ∀ l, t.lane l = if l ∈ ls then (s.lane l).ticked else s.lane l
  dep : ∀ d, t.dep d =
    Departure.released^[ls.countP fun l => (s.lane l).expires && (s.lane l).names d] (s.dep d)
  attention : t.attention =
    ls.foldl (fun a l => a.occurs .laneFault (numberSubject l.val) (s.lane l).tickFaults) s.attention
  service : t.service =
    if s.service = .halting ∧ (∃ l ∈ ls, (s.lane l).expires = true) ∧ t.lanesInHand = 0 then .halted else s.service
  rest : t = { s with
    lanes := t.lanes, departures := t.departures, service := t.service, attention := t.attention }

/-- An expiring lane leaves the states in hand, and no other lane enters or leaves them. -/
theorem LanePort.ticked_inHand (p : LanePort) : p.ticked.inHand = (p.inHand && !p.expires) := by
  have timed : p.ticked.inHand = p.timed.inHand := rfl
  rw [timed, LanePort.timed]
  split
  · next expires =>
    cases h : p.closeRequested <;> simp [LanePort.inHand, LanePort.ended, expires, h]
  · next runs =>
    have same : ({ p with secondsLeft := p.secondsLeft - 1 } : LanePort).inHand = p.inHand := rfl
    split <;> simp [same, runs]

theorem State.lanesInHand_eq_zero_iff (s : State) : s.lanesInHand = 0 ↔ ∀ l, (s.lane l).inHand = false := by
  simp [State.lanesInHand, List.countP_eq_zero]

theorem State.lanesInHand_congr {s t : State} (h : ∀ l, (s.lane l).inHand = (t.lane l).inHand) :
    s.lanesInHand = t.lanesInHand := by
  simp only [State.lanesInHand, h]

/-- A second event at the timer of a lane, whether it expires or not (R112, R113). -/
theorem State.tickTimer_spec (s : State) (l : Lane) :
    (∀ k, (s.tickTimer l).lane k = if k = l then (s.lane l).timed else s.lane k)
    ∧ (∀ d, (s.tickTimer l).dep d =
        if (s.lane l).expires && (s.lane l).names d then (s.dep d).released else s.dep d)
    ∧ (s.tickTimer l).attention = s.attention.occurs .laneFault (numberSubject l.val)
        (if (s.lane l).expires then dropped (s.lane l).queue (1 + (s.lane l).closing.length) else 0)
    ∧ (s.tickTimer l).service =
        (if s.service = .halting ∧ (s.lane l).expires = true ∧ (s.tickTimer l).lanesInHand = 0 then .halted
          else s.service)
    ∧ s.tickTimer l = { s with
        lanes := (s.tickTimer l).lanes, departures := (s.tickTimer l).departures
        service := (s.tickTimer l).service, attention := (s.tickTimer l).attention } := by
  by_cases expires : (s.lane l).expires = true
  · obtain ⟨lane, others, dep, attention, service, rest⟩ := s.tickTimer_expires l expires
    refine ⟨fun k => ?_, fun d => ?_, ?_, ?_, rest⟩
    · split
      · next h => rw [h, lane, LanePort.timed, if_pos expires]
      · next h => exact others k h
    · simp only [dep, expires, Bool.true_and]
    · simp only [attention, expires, if_true]
    · simpa only [expires, true_and] using service
  · rw [s.tickTimer_runs l expires]
    exact ⟨fun k => by simp, fun d => by simp [expires], by simp [expires], by simp [expires], rfl⟩

/-- One lane port takes a second event. -/
theorem State.tickLane_ticked (s : State) (l : Lane) : s.Ticked [l] (s.tickLane l) := by
  obtain ⟨lane, dep, attention, service, rest⟩ := s.tickTimer_spec l
  have own : (s.tickTimer l).lane l = (s.lane l).timed := by simp [lane]
  have ticked : s.tickLane l = ((s.tickTimer l).setLane l (s.lane l).ticked).raiseLaneFaults l
      (if (s.lane l).timesOut then 1 else 0) := by
    rw [State.tickLane, State.tickFrame_eq, own, LanePort.timesOut, LanePort.timed_reception]
    rfl
  have inHand : (s.tickLane l).lanesInHand = (s.tickTimer l).lanesInHand := State.lanesInHand_congr fun k => by
    rw [ticked, State.raiseLaneFaults_lane, State.setLane_lane]
    split
    · next h => rw [h, own]; rfl
    · rfl
  refine ⟨fun k => ?_, fun d => ?_, ?_, ?_, ?_⟩
  · by_cases h : k = l <;> simp [ticked, lane, h]
  · rw [ticked, State.raiseLaneFaults_dep, State.setLane_dep, dep]
    cases h : (s.lane l).expires && (s.lane l).names d <;> simp [h]
  · simp only [ticked, State.raiseLaneFaults_attention, State.setLane_attention, attention, List.foldl_cons,
      List.foldl_nil, LanePort.tickFaults_eq, Attention.occurs_add]
  · rw [inHand, ticked, State.raiseLaneFaults_service, State.setLane_service, service]
    simp
  · rw [ticked, State.raiseLaneFaults_eq, rest]
    rfl

theorem State.Ticked.inHand {s t : State} {ls : List Lane} (h : s.Ticked ls t) (k : Lane) :
    (t.lane k).inHand = ((s.lane k).inHand && !(decide (k ∈ ls) && (s.lane k).expires)) := by
  by_cases hk : k ∈ ls <;> simp [h.lane, hk, LanePort.ticked_inHand]

/-- A second event brings no lane in hand. -/
theorem State.Ticked.empties {s t : State} {ls : List Lane} (h : s.Ticked ls t) (empty : s.lanesInHand = 0) :
    t.lanesInHand = 0 :=
  t.lanesInHand_eq_zero_iff.2 fun k => by rw [h.inHand, s.lanesInHand_eq_zero_iff.1 empty k, Bool.false_and]

/-- Where a second event leaves no lane in hand, none was or one expired. -/
theorem State.Ticked.expiry {s t : State} {ls : List Lane} (h : s.Ticked ls t) (empty : t.lanesInHand = 0) :
    s.lanesInHand = 0 ∨ ∃ k ∈ ls, (s.lane k).expires = true := by
  by_contra! busy
  refine busy.1 (s.lanesInHand_eq_zero_iff.2 fun k => ?_)
  have left := t.lanesInHand_eq_zero_iff.1 empty k
  rw [h.inHand] at left
  by_cases hk : k ∈ ls
  · simpa [hk, busy.2 k hk] using left
  · simpa [hk] using left

/-- A port that takes the event leaves the others as they were. -/
theorem State.Ticked.lane_other {s t : State} {l k : Lane} (h : s.Ticked [l] t) (other : k ≠ l) :
    t.lane k = s.lane k := by
  rw [h.lane, if_neg (by simpa using other)]

/-- R184's check, made at each expiry, is made for all of them at the last: no lane comes in hand after it, and a lane
still in hand before it is one that expires later. -/
theorem State.Ticked.cons_service {s t u : State} {l : Lane} {ls : List Lane} (first : s.Ticked [l] t)
    (more : t.Ticked ls u) (same : ∀ k ∈ ls, t.lane k = s.lane k) :
    u.service = if s.service = .halting ∧ (∃ k ∈ l :: ls, (s.lane k).expires = true) ∧ u.lanesInHand = 0 then .halted
      else s.service := by
  have expiring : (∃ k ∈ ls, (t.lane k).expires = true) ↔ ∃ k ∈ ls, (s.lane k).expires = true :=
    exists_congr fun k => and_congr_right fun hk => by rw [same k hk]
  have left : u.lanesInHand = 0 → ¬t.lanesInHand = 0 → ∃ k ∈ ls, (s.lane k).expires = true := fun empty busy =>
    expiring.1 ((more.expiry empty).resolve_left busy)
  simp only [more.service, first.service, expiring, List.mem_singleton, exists_eq_left, List.exists_mem_cons_iff]
  by_cases halting : s.service = .halting
  · by_cases last : (s.lane l).expires = true ∧ t.lanesInHand = 0
    · simp [halting, last, more.empties last.2]
    · have later : ((s.lane l).expires = true ∨ ∃ k ∈ ls, (s.lane k).expires = true) ∧ u.lanesInHand = 0
          ↔ (∃ k ∈ ls, (s.lane k).expires = true) ∧ u.lanesInHand = 0 :=
        ⟨fun ⟨one, empty⟩ => ⟨one.elim (fun e => left empty fun z => last ⟨e, z⟩) id, empty⟩,
          fun ⟨one, empty⟩ => ⟨.inr one, empty⟩⟩
      simp only [halting, true_and, if_neg last, later]
  · simp [halting]

/-- Lane ports one after the other. -/
theorem State.Ticked.cons {s t u : State} {l : Lane} {ls : List Lane} (first : s.Ticked [l] t) (more : t.Ticked ls u)
    (fresh : l ∉ ls) : s.Ticked (l :: ls) u := by
  have same : ∀ k ∈ ls, t.lane k = s.lane k := fun k hk => first.lane_other fun e => fresh (e ▸ hk)
  refine ⟨fun k => ?_, fun d => ?_, ?_, first.cons_service more same, more.rest.trans (by rw [first.rest])⟩
  · by_cases h : k ∈ ls
    · simp [more.lane, h, same k h]
    · simp [more.lane, h, first.lane]
  · have counted : (ls.countP fun k => (t.lane k).expires && (t.lane k).names d)
        = ls.countP fun k => (s.lane k).expires && (s.lane k).names d :=
      List.countP_congr fun k hk => by rw [same k hk]
    rw [more.dep, first.dep, counted, ← Function.iterate_add_apply, ← List.countP_append]
    exact congrArg (fun n => Departure.released^[n] (s.dep d)) ((List.perm_append_singleton l ls).countP_eq _)
  · rw [more.attention, first.attention]
    exact List.foldl_ext _ _ _ fun a k hk => by rw [same k hk]

/-- Lane ports that take a second event, each once. -/
theorem State.foldl_tickLane_ticked (ls : List Lane) (nodup : ls.Nodup) (s : State) :
    s.Ticked ls (ls.foldl State.tickLane s) := by
  induction ls generalizing s with
  | nil => exact ⟨fun _ => by simp, fun _ => rfl, rfl, by simp, rfl⟩
  | cons l ls ih =>
    obtain ⟨fresh, nodup⟩ := List.nodup_cons.1 nodup
    exact (s.tickLane_ticked l).cons (ih nodup _) fresh

/-- The order of the ports is one of all twelve, and its choice changes the count of free choices alone (log 8). -/
theorem State.portOrder_perm (s : State) (n : Nat) : (s.portOrder n).1.Perm (List.finRange 12) := by
  unfold State.portOrder
  split
  · exact .refl _
  · exact Equiv.Perm.map_finRange_perm (Equiv.addLeft (Fin.ofNat 12 (Config.freeChoice s.freeCount)))

theorem State.portOrder_eq (s : State) (n : Nat) :
    (s.portOrder n).2 = { s with freeCount := (s.portOrder n).2.freeCount } := by
  unfold State.portOrder
  split <;> rfl

/-- A second event is taken by the twelve ports in some order, a choice of which may be counted, and then by the clock
(R72, log 8). -/
theorem State.secondEvent_ticked (s : State) : ∃ (order : List Lane) (n : Nat) (t : State),
    order.Perm (List.finRange 12) ∧ State.Ticked { s with freeCount := n } order t ∧ s.secondEvent = t.countSecond := by
  let raising := (List.finRange 12).countP fun l => (s.lane l).faultsAtTick
  have perm := s.portOrder_perm raising
  refine ⟨_, (s.portOrder raising).2.freeCount, _, perm, ?_, rfl⟩
  rw [← s.portOrder_eq raising]
  exact State.foldl_tickLane_ticked _ (perm.nodup_iff.2 (List.nodup_finRange 12)) _

/-- Settles O4: the twelve ports take the event each once, in an order that the free choice may turn, and the clock
moves on after them. -/
theorem secondEventTaken : Obligations.SecondEventTaken := by
  unfold Obligations.SecondEventTaken
  intro s
  obtain ⟨order, n, t, perm, ⟨lane, dep, attention, service, rest⟩, event⟩ := s.secondEvent_ticked
  have all : ∀ l, l ∈ order := fun l => perm.mem_iff.2 (List.mem_finRange l)
  have clock : t.clock = s.clock := by rw [rest]
  refine ⟨_, order, congrArg Host.Outcome.next (event.trans t.countSecond_eq),
    fun l => (lane l).trans (if_pos (all l)), fun d => ?_, congrArg Clock.afterSecond clock, ?_, perm, ?_, ?_⟩
  · rw [State.expiring, ← perm.countP_eq]
    exact dep d
  · simp only [all, true_and] at service
    exact service
  · rw [clock, attention]
    rfl
  · rw [rest]

end Sys2Proof.Machine
end

section
namespace Sys2Proof.Machine

/-! ### One departure changed, with its events (R91, R92) -/

/-- NEAR FULL is raised where remaining falls from above the old margin to the new one or below, while armed (R91). -/
theorem nearFullRaised_iff (before after : Departure) :
    nearFullRaised before after = true ↔
      before.margin < before.remaining ∧ after.remaining ≤ after.margin ∧ 0 < after.margin
        ∧ before.armed = true := by
  simp [nearFullRaised, and_assoc]

theorem departureFullRaised_iff (before after : Departure) :
    departureFullRaised before after = true ↔ 0 < before.remaining ∧ after.remaining = 0 := by
  simp [departureFullRaised]

/-- Near-full is spent by its report, and otherwise armed where remaining lies above the margin (R91). -/
theorem armedAfter_eq (before after : Departure) :
    armedAfter before after =
      if nearFullRaised before after = true then false
      else before.armed || decide (after.margin < after.remaining) := by
  by_cases above : after.margin < after.remaining <;> simp [armedAfter, above]

/-- Near-full is armed where remaining lies above the margin, whatever the change was (R91). -/
theorem armedAfter_of_above (before : Departure) {after : Departure} (h : after.margin < after.remaining) :
    armedAfter before after = true := by
  have unreported : nearFullRaised before after = false := by simp [nearFullRaised, Nat.not_le.2 h]
  simp [armedAfter, unreported, h]

/-- A change of one departure: its record, and the events it raises (R91, R92). -/
theorem State.changeDep_eq (s : State) (d : DepIx) (after : Departure) :
    s.changeDep d after = { s with
      departures := s.departures.set d.val { after with armed := armedAfter (s.dep d) after }
      attention :=
        (s.attention.occurs .nearFull (numberSubject d.val)
          (if nearFullRaised (s.dep d) after = true then 1 else 0)).occurs .departureFull (numberSubject d.val)
          (if departureFullRaised (s.dep d) after = true then 1 else 0) } := by
  simp only [State.changeDep]
  split <;> split <;> rfl

/-! ### Where a hold lands (R85, R86) -/

/-- A hold at a berth lands on a departure, or is answered NO BOARDING or FULL. -/
theorem State.holdTarget_cases (s : State) (b : Berth) :
    s.holdTarget b = .error .noBoarding ∨ s.holdTarget b = .error .full ∨ ∃ x, s.holdTarget b = .ok x := by
  unfold State.holdTarget
  repeat' split
  all_goals simp

/-- A hold lands on a BOARDING departure with a place left, or on a SCHEDULED one that starts by itself. -/
theorem State.holdTarget_ok {s : State} {b : Berth} {x : DepIx} (h : s.holdTarget b = .ok x) :
    (s.dep x).state = .boarding ∧ 0 < (s.dep x).remaining
    ∨ (s.dep x).state = .scheduled ∧ (s.dep x).autoStart = true := by
  simp only [State.holdTarget] at h
  repeat' split at h
  all_goals simp_all

/-- A departure that a hold lands on, made BOARDING. -/
def Departure.started (r : Departure) : Departure := { r with state := .boarding }

theorem Departure.started_of_boarding {r : Departure} (h : r.state = .boarding) : r.started = r := by
  cases r
  simp_all [Departure.started]

/-- The record of a departure on which a hold has landed, by the judgement of R91. -/
theorem Departure.withHold_eq (r : Departure) :
    r.withHold = { r.started with
      held := r.held + 1, armed := armedAfter r.started { r.started with held := r.held + 1 } } := by
  have armed := armedAfter_eq r.started { r.started with held := r.held + 1 }
  rw [if_congr (nearFullRaised_iff _ _) rfl rfl] at armed
  rw [armed]
  rfl

/-- A hold on a departure that it makes BOARDING, with the particulars it returns and the events it raises but for
FOLLOW-ON STARTED (R85, R91, R92). -/
theorem State.holdOn_eq {s u : State} {x : DepIx} (started : u.dep x = (s.dep x).started) :
    u.holdOn x =
      (.held ⟨x, (s.dep x).tag, (s.dep x).route, (s.dep x).capacity - (s.dep x).boarded - ((s.dep x).held + 1)⟩,
        { u with
          departures := u.departures.set x.val (s.dep x).withHold
          attention :=
            (u.attention.occurs .nearFull (0, word x.val)
              (if nearFullRaised (s.dep x).started { (s.dep x).started with held := (s.dep x).held + 1 } = true then 1
                else 0)).occurs .departureFull (0, word x.val)
              (if departureFullRaised (s.dep x).started { (s.dep x).started with held := (s.dep x).held + 1 } = true
                then 1 else 0) }) := by
  have taken : u.takeHold x = u.changeDep x { (s.dep x).started with held := (s.dep x).held + 1 } := by
    rw [State.takeHold, started]
    rfl
  rw [State.holdOn, taken, State.changeDep_eq, started, Departure.withHold_eq]
  simp [State.dep, Departure.remaining, Departure.started, numberSubject]

/-- The events of a hold that lands, by the judgements of R91 and R92. -/
theorem State.holdEvents_eq (s : State) (x : DepIx) (a : Attention) :
    s.holdEvents x a =
      ((a.occurs .followOnStarted (0, word x.val) (if (s.dep x).state = .scheduled then 1 else 0)).occurs
        .nearFull (0, word x.val)
          (if nearFullRaised (s.dep x).started { (s.dep x).started with held := (s.dep x).held + 1 } = true then 1
            else 0)).occurs .departureFull (0, word x.val)
        (if departureFullRaised (s.dep x).started { (s.dep x).started with held := (s.dep x).held + 1 } = true
          then 1 else 0) := by
  rw [if_congr (nearFullRaised_iff _ _) rfl rfl, if_congr (departureFullRaised_iff _ _) rfl rfl]
  rfl

/-- The particulars that a hold on a departure returns (R85). -/
def State.particulars (s : State) (x : DepIx) : Hold :=
  ⟨x, (s.dep x).tag, (s.dep x).route, (s.dep x).capacity - (s.dep x).boarded - ((s.dep x).held + 1)⟩

/-- The state after a hold has landed on a departure (R85, R86, R91, R92). -/
def State.landed (s : State) (x : DepIx) : State :=
  { s with departures := s.departures.set x.val (s.dep x).withHold, attention := s.holdEvents x s.attention }

/-- A hold on a BOARDING departure. -/
theorem State.holdOn_boarding {s : State} {x : DepIx} (h : (s.dep x).state = .boarding) :
    s.holdOn x = (.held (s.particulars x), s.landed x) := by
  rw [State.holdOn_eq (Departure.started_of_boarding h).symm, State.landed, s.holdEvents_eq, h]
  rfl

/-- A hold on a SCHEDULED departure that starts by itself, with FOLLOW-ON STARTED (R86). -/
theorem State.holdOn_scheduled {s : State} {x : DepIx} (h : (s.dep x).state = .scheduled) :
    (s.autoStart x).holdOn x = (.held (s.particulars x), s.landed x) := by
  have started : (s.autoStart x).dep x = (s.dep x).started := by simp [State.autoStart_dep, Departure.started]
  rw [State.holdOn_eq started, State.landed, s.holdEvents_eq, h]
  simp [State.particulars, State.autoStart, State.setDep, State.raise, numberSubject]

/-- The follow-on step of a hold request, by the two cases of R86. -/
theorem State.followOnStep_some (s : State) (f : DepIx) :
    s.followOnStep (some f) =
      if (s.dep f).state = .boarding ∧ 0 < (s.dep f).remaining
        ∨ (s.dep f).state = .scheduled ∧ (s.dep f).autoStart = true then (.held (s.particulars f), s.landed f)
      else (.full, s) := by
  cases h : (s.dep f).state with
  | empty => simp [State.followOnStep, h]
  | closed => simp [State.followOnStep, h]
  | boarding => simp [State.followOnStep, h, State.holdOn_boarding]
  | scheduled => simp [State.followOnStep, h, State.holdOn_scheduled]

/-- A hold request at a berth, where its current departure is BOARDING, and where it is not. -/
theorem State.holdRequest_boarding {s : State} {b : Berth} {d : DepIx} (current : s.berth b = some d)
    (h : (s.dep d).state = .boarding) :
    s.holdRequest b = if 0 < (s.dep d).remaining then (.held (s.particulars d), s.landed d)
      else s.followOnStep (s.dep d).followOn := by
  simp only [State.holdRequest, current, h, State.holdOn_boarding]

theorem State.holdRequest_other {s : State} {b : Berth} {d : DepIx} (current : s.berth b = some d)
    (h : (s.dep d).state ≠ .boarding) : s.holdRequest b = (.noBoarding, s) := by
  cases e : (s.dep d).state <;> simp_all [State.holdRequest]

/-- A hold request does what its target says. -/
theorem State.holdRequest_eq (s : State) (b : Berth) :
    s.holdRequest b = match s.holdTarget b with
      | .ok x => (.held (s.particulars x), s.landed x)
      | .error .full => (.full, s)
      | .error _ => (.noBoarding, s) := by
  unfold State.holdTarget
  cases current : s.berth b with
  | none => simp [State.holdRequest, current]
  | some d =>
    by_cases boarding : (s.dep d).state = .boarding
    · rw [State.holdRequest_boarding current boarding]
      by_cases left : 0 < (s.dep d).remaining
      · simp [boarding, left]
      · cases followOn : (s.dep d).followOn with
        | none => simp [boarding, left, followOn, State.followOnStep]
        | some f =>
          rw [State.followOnStep_some]
          by_cases boards : (s.dep f).state = .boarding ∧ 0 < (s.dep f).remaining
          · simp [boarding, left, followOn, boards]
          · by_cases starts : (s.dep f).state = .scheduled ∧ (s.dep f).autoStart = true
            · simp [boarding, left, followOn, starts]
            · simp [boarding, left, followOn, boards, starts]
    · simp [State.holdRequest_other current boarding, boarding]

/-- Settles O18: a hold request does what `State.holdTarget` says. -/
theorem holdsLand : Obligations.HoldsLand := by
  unfold Obligations.HoldsLand
  intro s b
  rw [s.holdRequest_eq b]
  exact ⟨fun none => by rw [none], fun full => by rw [full], fun x lands => by rw [lands]; rfl, s.holdTarget_cases b⟩

end Sys2Proof.Machine
end

section
namespace Sys2Proof.Machine

/-! ### The host's departure commands where they are taken (R93, R165) -/

/-- A DIRECT command that its owner takes in service, ending DONE. -/
theorem State.hostDirect_ok {s t : State} {c : Cmd} {own : State → Taken} (takes : s.takesCommand = true)
    (service : s.inService = true)
    (owned : own { s with link := ⟨s.link.phase, none⟩ } = State.ok { t with link := ⟨s.link.phase, none⟩ }) :
    s.hostDirect c own = t.answering .ok :=
  State.hostDirect_answering takes (judgeGroup_inService service _) owned

/-- A DIRECT command that its owner refuses in service: nothing but the link changes (R168). -/
theorem State.hostDirect_refuses {s : State} {c : Cmd} {own : State → Taken} {code : RejectCode}
    (takes : s.takesCommand = true) (service : s.inService = true)
    (owned : ∀ k : Link, own { s with link := k } = State.refuse { s with link := k } code) :
    s.hostDirect c own = s.answering (.reject code) :=
  State.hostDirect_answering takes (judgeGroup_inService service _) (owned _)

theorem Departure.isOpen_iff (r : Departure) : r.isOpen = true ↔ r.state = .scheduled ∨ r.state = .boarding := by
  simp [Departure.isOpen]

/-- A follow-on that may be named is SCHEDULED or BOARDING at the same berth, or absent (R94, R98). -/
theorem State.followOnOk_iff (s : State) (b : Berth) (f : Option DepIx) :
    s.followOnOk b f = true ↔
      ∀ g, f = some g → ((s.dep g).state = .scheduled ∨ (s.dep g).state = .boarding) ∧ (s.dep g).berth = b := by
  cases f <;> simp [State.followOnOk, Departure.isOpen_iff]

/-- A departure index is read back from its word. -/
theorem indexBelow_depIx (d : DepIx) : indexBelow 16 (word d.val) = some d := indexBelow_word (by decide) d

/-- A berth index is read back from its word. -/
theorem indexBelow_berth (b : Berth) : indexBelow 4 (word b.val) = some b := indexBelow_word (by decide) b

/-- A word that reads as an optional departure is below 16 or 65,535 (5.8). -/
theorem optionalDeparture_some {w : Word} {f : Option DepIx} (h : optionalDeparture w = some f) :
    ¬(16 ≤ w.toNat ∧ w ≠ 65535#16) := fun out => by
  rw [optionalDeparture_none out.1 out.2] at h
  cases h

/-! ### DEPARTURE DEFINE, OPEN and CLOSE (R94 to R96) -/

/-- A departure just defined (R94). -/
def Departure.fresh (b : Berth) (r : RouteClass) (tag cap margin : Word) (f : Option DepIx) (auto : Bool) :
    Departure where
  state := .scheduled
  berth := b
  route := r
  tag := tag
  capacity := cap.toNat
  boarded := 0
  held := 0
  margin := margin.toNat
  armed := true
  followOn := f
  autoStart := auto
  takings := 0

/-! Each owner's checks, with any link beside them. -/

/-- DEFINE with every operand in range looks at the departure's state, then at the follow-on (R94). -/
theorem ownDepartureDefine_eq (s : State) (k : Link) (d : DepIx) (b : Berth) (r : RouteClass)
    (tag cap margin : Word) (f : Option DepIx) (auto : Bool)
    (ranges : 1 ≤ cap.toNat ∧ cap.toNat ≤ 400 ∧ margin.toNat ≤ cap.toNat) :
    ownDepartureDefine (word d.val) (word b.val) (word r.val) tag cap margin (indexWord f) (flagWord auto)
        { s with link := k } =
      if (s.dep d).state ≠ .empty then State.refuse { s with link := k } .wrongState
      else if s.followOnOk b f = true then
        (State.setDep { s with link := k } d (.fresh b r tag cap margin f auto)).ok
      else State.refuse { s with link := k } .badOperand := by
  have route : indexBelow 8 (word r.val) = some r := indexBelow_word (by decide) r
  have flag : (flagWord auto).toNat ≤ 1 ∧ (flagWord auto == 1) = auto := by cases auto <;> decide
  simp only [ownDepartureDefine, indexBelow_depIx, indexBelow_berth, route, optionalDeparture_indexWord]
  rw [if_pos ⟨ranges.1, ranges.2.1, ranges.2.2, flag.1⟩, flag.2]
  rfl

/-- DEFINE with an operand out of range is refused (R93, R94). -/
theorem ownDepartureDefine_out (s : State) (d b r tag cap margin f auto : Word)
    (out : 16 ≤ d.toNat ∨ 4 ≤ b.toNat ∨ 8 ≤ r.toNat ∨ cap.toNat = 0 ∨ 400 < cap.toNat ∨ cap.toNat < margin.toNat
      ∨ (16 ≤ f.toNat ∧ f ≠ 65535#16) ∨ 2 ≤ auto.toNat) :
    ownDepartureDefine d b r tag cap margin f auto s = s.refuse .badOperand := by
  unfold ownDepartureDefine
  split
  · next hd hb hr hf =>
    have index := indexBelow_some hd
    have berth := indexBelow_some hb
    have route := indexBelow_some hr
    simp only [optionalDeparture_some hf, false_or] at out
    exact if_neg (by omega)
  · rfl

/-- OPEN asks for a SCHEDULED departure (R95). -/
theorem ownDepartureOpen_eq (s : State) (k : Link) (d : DepIx) :
    ownDepartureOpen (word d.val) { s with link := k } =
      if (s.dep d).state = .scheduled then
        (State.setDep { s with link := k } d { s.dep d with state := .boarding }).ok
      else State.refuse { s with link := k } .wrongState := by
  simp only [ownDepartureOpen, indexBelow_depIx]
  rfl

/-- Where the current of a berth moves when its current departure closes (R96). -/
theorem State.nextCurrent_closed (s : State) (d : DepIx) (f : Option DepIx) :
    State.nextCurrent (s.setDep d { s.dep d with state := .closed }) f =
      f.filter fun f => f != d && (s.dep f).isOpen := by
  cases f with
  | none => rfl
  | some f =>
    by_cases same : f = d
    · subst same
      simp [State.nextCurrent, Departure.isOpen, Option.filter]
    · simp [State.nextCurrent, same, Option.filter]

/-- A departure closed, and the current of its berth moved where it was that (R96). -/
def State.closeDep (s : State) (d : DepIx) : State :=
  { s with
    departures := s.departures.set d.val { s.dep d with state := .closed }
    berths :=
      if s.berth (s.dep d).berth = some d then
        s.berths.set (s.dep d).berth.val ((s.dep d).followOn.filter fun f => f != d && (s.dep f).isOpen)
      else s.berths }

/-- CLOSE asks for a SCHEDULED or BOARDING departure (R96). -/
theorem ownDepartureClose_eq (s : State) (k : Link) (d : DepIx) :
    ownDepartureClose (word d.val) { s with link := k } =
      if (s.dep d).isOpen = true then (State.closeDep { s with link := k } d).ok
      else State.refuse { s with link := k } .wrongState := by
  simp only [ownDepartureClose, indexBelow_depIx, State.nextCurrent_closed, State.closeDep]
  refine if_congr .rfl ?_ rfl
  split <;> rfl

/-- Settles O16: each command by its owner's checks, in their order. -/
theorem departureDefinedOpenedClosed : Obligations.DepartureDefinedOpenedClosed := by
  unfold Obligations.DepartureDefinedOpenedClosed
  refine ⟨fun s d b r tag cap margin f auto takes service least most within => ?_,
    fun s d b r tag cap margin f auto takes service out => ?_,
    fun s takes service => ⟨fun d => ?_, fun w out => ⟨?_, ?_⟩⟩⟩
  · have defined := fun k => ownDepartureDefine_eq s k d b r tag cap margin f auto ⟨least, most, within⟩
    have fits := s.followOnOk_iff b f
    refine ⟨fun empty fit => ?_, fun empty unfit => ?_, fun taken => ?_⟩
    · exact congrArg _ (State.hostDirect_ok takes service
        ((defined _).trans ((if_neg (not_not.2 empty)).trans (if_pos (fits.2 fit)))))
    · exact congrArg _ (State.hostDirect_refuses takes service fun k =>
        (defined k).trans ((if_neg (not_not.2 empty)).trans (if_neg (mt fits.1 unfit))))
    · exact congrArg _ (State.hostDirect_refuses takes service fun k => (defined k).trans (if_pos taken))
  · exact congrArg _ (State.hostDirect_refuses takes service fun k =>
      ownDepartureDefine_out _ d b r tag cap margin f auto out)
  · have isOpen := (s.dep d).isOpen_iff
    refine ⟨fun scheduled => ?_, fun other => ?_, fun openNow => ?_, fun other => ?_⟩
    · exact congrArg _ (State.hostDirect_ok takes service ((ownDepartureOpen_eq s _ d).trans (if_pos scheduled)))
    · exact congrArg _ (State.hostDirect_refuses takes service fun k =>
        (ownDepartureOpen_eq s k d).trans (if_neg other))
    · exact congrArg _ (State.hostDirect_ok (t := s.closeDep d) takes service
        ((ownDepartureClose_eq s _ d).trans (if_pos (isOpen.2 openNow))))
    · exact congrArg _ (State.hostDirect_refuses takes service fun k =>
        (ownDepartureClose_eq s k d).trans (if_neg (mt isOpen.1 other)))
  · exact congrArg _ (State.hostDirect_refuses takes service fun k => by
      simp only [ownDepartureOpen, indexBelow_none out])
  · exact congrArg _ (State.hostDirect_refuses takes service fun k => by
      simp only [ownDepartureClose, indexBelow_none out])

end Sys2Proof.Machine
end

section
namespace Sys2Proof.Machine

/-! ### SET CAPACITY, LINK, RETIRE and BERTH SET CURRENT (R97, R98, R100, R101) -/

/-- SET CAPACITY looks at the ranges, at the departure's state, and then at what has boarded and is held
(R97, log 13). -/
theorem ownDepartureSetCapacity_eq (s : State) (k : Link) (d : DepIx) (cap margin : Word) :
    ownDepartureSetCapacity (word d.val) cap margin { s with link := k } =
      if 1 ≤ cap.toNat ∧ cap.toNat ≤ 400 ∧ margin.toNat ≤ cap.toNat then
        if (s.dep d).isOpen = true then
          if (s.dep d).boarded + (s.dep d).held ≤ cap.toNat then
            (State.changeDep { s with link := k } d
              { s.dep d with capacity := cap.toNat, margin := margin.toNat }).ok
          else State.refuse { s with link := k } .badOperand
        else State.refuse { s with link := k } .wrongState
      else State.refuse { s with link := k } .badOperand := by
  simp only [ownDepartureSetCapacity, indexBelow_depIx]
  rfl

/-- LINK looks at the departure's state, and then at the follow-on (R98, log 13). -/
theorem ownDepartureLink_eq (s : State) (k : Link) (d : DepIx) (f : Option DepIx) :
    ownDepartureLink (word d.val) (indexWord f) { s with link := k } =
      if (s.dep d).isOpen = true then
        if f ≠ some d ∧ s.followOnOk (s.dep d).berth f = true then
          (State.setDep { s with link := k } d { s.dep d with followOn := f }).ok
        else State.refuse { s with link := k } .badOperand
      else State.refuse { s with link := k } .wrongState := by
  simp only [ownDepartureLink, indexBelow_depIx, optionalDeparture_indexWord]
  rfl

/-- A departure retired, and removed as the follow-on of every other (R100). -/
def State.retireDep (s : State) (d : DepIx) : State :=
  State.setDep { s with departures := s.departures.map (Departure.unlink d) } d Departure.reset

theorem State.retireDep_dep (s : State) (d e : DepIx) :
    (s.retireDep d).dep e = if e = d then Departure.reset else Departure.unlink d (s.dep e) := by
  rw [State.retireDep, State.setDep_dep]
  simp [State.dep]

/-- RETIRE asks for a CLOSED departure with held 0 (R100). -/
theorem ownDepartureRetire_eq (s : State) (k : Link) (d : DepIx) :
    ownDepartureRetire (word d.val) { s with link := k } =
      if (s.dep d).state = .closed ∧ (s.dep d).held = 0 then (State.retireDep { s with link := k } d).ok
      else State.refuse { s with link := k } .wrongState := by
  simp only [ownDepartureRetire, indexBelow_depIx]
  rfl

/-- A departure word of BERTH SET CURRENT is read back (5.8). -/
theorem optionalDeparture_word (d : DepIx) : optionalDeparture (word d.val) = some (some d) :=
  optionalDeparture_indexWord (some d)

/-- BERTH SET CURRENT looks at the departure's berth, and then at its state (R101). -/
theorem ownBerthSetCurrent_eq (s : State) (k : Link) (b : Berth) (d : DepIx) :
    ownBerthSetCurrent (word b.val) (word d.val) { s with link := k } =
      if (s.dep d).berth ≠ b then State.refuse { s with link := k } .badOperand
      else if (s.dep d).isOpen = true then (State.setBerth { s with link := k } b (some d)).ok
      else State.refuse { s with link := k } .wrongState := by
  simp only [ownBerthSetCurrent, indexBelow_berth, optionalDeparture_word]
  rfl

/-- A follow-on word that reads as none of those of 5.8 is refused, whatever the departure word is (R93). -/
theorem ownDepartureLink_out (s : State) (d : Word) {f : Word} (unread : optionalDeparture f = none) :
    ownDepartureLink d f s = s.refuse .badOperand := by
  cases h : indexBelow 16 d <;> simp only [ownDepartureLink, unread, h]

/-- So is such a departure word, whatever the berth word is (R93). -/
theorem ownBerthSetCurrent_out (s : State) (b : Word) {d : Word} (unread : optionalDeparture d = none) :
    ownBerthSetCurrent b d s = s.refuse .badOperand := by
  cases h : indexBelow 4 b <;> simp only [ownBerthSetCurrent, unread, h]

/-- Settles O17: each command by its owner's checks, in their order. -/
theorem departureChanged : Obligations.DepartureChanged := by
  unfold Obligations.DepartureChanged
  refine fun s takes service => ⟨fun d cap margin => ?_, fun d f => ?_, fun d => ?_, fun b => ?_, fun w x y out => ?_⟩
  · have resized := fun k => ownDepartureSetCapacity_eq s k d cap margin
    have isOpen := (s.dep d).isOpen_iff
    refine ⟨fun fits openNow within => ?_, fun fits openNow above => ?_, fun fits other => ?_, fun unfit => ?_⟩
    · refine congrArg _ (State.hostDirect_ok takes service (((resized _).trans ((if_pos fits).trans
        ((if_pos (isOpen.2 openNow)).trans (if_pos within)))).trans ?_))
      rw [State.changeDep_eq, armedAfter_eq, if_congr (nearFullRaised_iff _ _) rfl rfl,
        if_congr (nearFullRaised_iff _ _) rfl rfl, if_congr (departureFullRaised_iff _ _) rfl rfl]
      rfl
    · exact congrArg _ (State.hostDirect_refuses takes service fun k => (resized k).trans ((if_pos fits).trans
        ((if_pos (isOpen.2 openNow)).trans (if_neg (Nat.not_le.2 above)))))
    · exact congrArg _ (State.hostDirect_refuses takes service fun k => (resized k).trans ((if_pos fits).trans
        (if_neg (mt isOpen.1 other))))
    · exact congrArg _ (State.hostDirect_refuses takes service fun k => (resized k).trans (if_neg unfit))
  · have linked := fun k => ownDepartureLink_eq s k d f
    have isOpen := (s.dep d).isOpen_iff
    intro r openNow fits i
    have named : (f ≠ some d ∧ s.followOnOk r.berth f = true) ↔ fits := by
      rw [s.followOnOk_iff]
      cases f <;> simp [fits]
    refine ⟨fun openNow fit => ?_, fun openNow unfit => ?_, fun other => ?_⟩
    · exact congrArg _ (State.hostDirect_ok takes service ((linked _).trans ((if_pos (isOpen.2 openNow)).trans
        (if_pos (named.2 fit)))))
    · exact congrArg _ (State.hostDirect_refuses takes service fun k => (linked k).trans
        ((if_pos (isOpen.2 openNow)).trans (if_neg (mt named.1 unfit))))
    · exact congrArg _ (State.hostDirect_refuses takes service fun k => (linked k).trans
        (if_neg (mt isOpen.1 other)))
  · refine ⟨fun closed empty => ⟨s.retireDep d, ?_, ?_, fun e other => ?_, rfl⟩, fun other => ?_⟩
    · exact congrArg _ (State.hostDirect_ok takes service ((ownDepartureRetire_eq s _ d).trans
        (if_pos ⟨closed, empty⟩)))
    · rw [State.retireDep_dep, if_pos rfl]
      exact ⟨rfl, rfl, rfl, rfl, rfl, rfl, rfl, rfl, rfl, rfl, rfl, rfl⟩
    · rw [State.retireDep_dep, if_neg other]
      rfl
    · exact congrArg _ (State.hostDirect_refuses takes service fun k => (ownDepartureRetire_eq s k d).trans
        (if_neg fun both => other.elim (· both.1) (· both.2)))
  · have current := fun k => ownBerthSetCurrent_eq s k b
    refine ⟨?_, fun d => ⟨fun here openNow => ?_, fun here other => ?_, fun elsewhere => ?_⟩⟩
    · exact congrArg _ (State.hostDirect_ok takes service (by
        simp only [ownBerthSetCurrent, indexBelow_berth]
        rfl))
    · exact congrArg _ (State.hostDirect_ok takes service ((current _ d).trans ((if_neg (not_not.2 here)).trans
        (if_pos ((s.dep d).isOpen_iff.2 openNow)))))
    · exact congrArg _ (State.hostDirect_refuses takes service fun k => (current k d).trans
        ((if_neg (not_not.2 here)).trans (if_neg (mt (s.dep d).isOpen_iff.1 other))))
    · exact congrArg _ (State.hostDirect_refuses takes service fun k => (current k d).trans (if_pos elsewhere))
  · have unread := indexBelow_none out
    refine ⟨?_, ?_, ?_, fun some => ⟨?_, ?_⟩, fun berth => ?_⟩
    · exact congrArg _ (State.hostDirect_refuses takes service fun k => by
        simp only [ownDepartureSetCapacity, unread])
    · exact congrArg _ (State.hostDirect_refuses takes service fun k => by
        simp only [ownDepartureLink, unread])
    · exact congrArg _ (State.hostDirect_refuses takes service fun k => by
        simp only [ownDepartureRetire, unread])
    · exact congrArg _ (State.hostDirect_refuses takes service fun k =>
        ownDepartureLink_out _ x (optionalDeparture_none out some))
    · exact congrArg _ (State.hostDirect_refuses takes service fun k =>
        ownBerthSetCurrent_out _ x (optionalDeparture_none out some))
    · exact congrArg _ (State.hostDirect_refuses takes service fun k => by
        simp only [ownBerthSetCurrent, indexBelow_none berth])

end Sys2Proof.Machine
end

section
namespace Sys2Proof.Machine

/-! ### What the holds outstanding are counted from (R89) -/

/-- The departure on which a decision owns a hold (R142). -/
def Decision.owned (x : Decision) : Option DepIx := if x.refusal.isNone then x.hold.map (·.departure) else none

theorem Decision.ownsHold_iff (x : Decision) (d : DepIx) : x.ownsHold d = true ↔ x.owned = some d := by
  cases hr : x.refusal <;> cases hh : x.hold <;> simp [Decision.ownsHold, Decision.owned, hr, hh]

/-- The departure on which the decision in service owns a hold. -/
def Engine.owned (e : Engine) : Option DepIx := e.decision.bind Decision.owned

/-- The lane whose passenger the commit in service has counted (R150). -/
def Engine.counts (e : Engine) : Option Lane := (e.commit.filter fun c => c.stage != .count).map (·.lane)

theorem State.counted_iff (s : State) (l : Lane) : s.counted l = true ↔ s.engine.counts = some l := by
  unfold State.counted Engine.counts
  cases s.engine.commit with
  | none => simp
  | some c => by_cases h : c.stage = .count <;> simp [h, Option.filter]

/-- An open verdict that names the departure stands for a hold until its passenger is counted. -/
theorem State.laneHolds_eq (s : State) (d : DepIx) (l : Lane) :
    s.laneHolds d l = ((s.lane l).names d && !decide (s.engine.counts = some l)) := by
  have counted : s.counted l = decide (s.engine.counts = some l) := by
    rw [Bool.eq_iff_iff, s.counted_iff, decide_eq_true_iff]
  rw [State.laneHolds, counted]
  rfl

theorem State.outstanding_eq (s : State) (d : DepIx) :
    s.outstanding d = ((List.finRange 12).countP fun l => s.laneHolds d l)
      + if s.engine.owned = some d then 1 else 0 := by
  unfold State.outstanding Engine.owned
  cases s.engine.decision with
  | none => rfl
  | some x => simp only [Option.elim_some, Option.bind_some, x.ownsHold_iff]

/-! ### What moves no departure and no hold -/

/-- The departures, the berths and the holds outstanding stay: the open verdicts, the hold of a decision in service,
and the passenger that a commit in service has counted. -/
structure State.Unmoved (s t : State) : Prop where
  departures : t.departures = s.departures
  berths : t.berths = s.berths
  verdict : ∀ l, (t.lane l).openVerdict = (s.lane l).openVerdict
  owned : t.engine.owned = s.engine.owned
  counts : t.engine.counts = s.engine.counts

namespace State.Unmoved

@[refl] theorem refl (s : State) : s.Unmoved s := ⟨rfl, rfl, fun _ => rfl, rfl, rfl⟩

@[trans] theorem trans {s t u : State} (a : s.Unmoved t) (b : t.Unmoved u) : s.Unmoved u :=
  ⟨b.departures.trans a.departures, b.berths.trans a.berths, fun l => (b.verdict l).trans (a.verdict l),
    b.owned.trans a.owned, b.counts.trans a.counts⟩

theorem dep {s t : State} (h : s.Unmoved t) (d : DepIx) : t.dep d = s.dep d := by
  rw [State.dep, h.departures]
  rfl

theorem berth {s t : State} (h : s.Unmoved t) (b : Berth) : t.berth b = s.berth b := by
  rw [State.berth, h.berths]
  rfl

theorem outstanding {s t : State} (h : s.Unmoved t) (d : DepIx) : t.outstanding d = s.outstanding d := by
  simp only [State.outstanding_eq, State.laneHolds_eq, LanePort.names, h.verdict, h.owned, h.counts]

/-- A change of what is neither departure, berth, lane nor engine. -/
theorem of_rest {s t : State} (departures : t.departures = s.departures) (berths : t.berths = s.berths)
    (lanes : t.lanes = s.lanes) (engine : t.engine = s.engine) : s.Unmoved t :=
  ⟨departures, berths, fun l => by rw [State.lane, lanes]; rfl, by rw [engine], by rw [engine]⟩

/-- With an engine in both that owns the same hold and has counted the same passenger. -/
theorem withEngine {s t : State} (h : s.Unmoved t) {e f : Engine} (owned : f.owned = e.owned)
    (counts : f.counts = e.counts) : State.Unmoved { s with engine := e } { t with engine := f } :=
  ⟨h.departures, h.berths, h.verdict, owned, counts⟩

/-- An engine that owns no hold and has counted no passenger, before and after. -/
theorem setEngine (s : State) {e : Engine} (owned : e.owned = s.engine.owned) (counts : e.counts = s.engine.counts) :
    s.Unmoved { s with engine := e } := ⟨rfl, rfl, fun _ => rfl, owned, counts⟩

/-- A lane written with its open verdict as it was. -/
theorem setLane (s : State) (l : Lane) (p : LanePort) (h : p.openVerdict = (s.lane l).openVerdict := by rfl) :
    s.Unmoved (s.setLane l p) := by
  refine ⟨rfl, rfl, fun k => ?_, rfl, rfl⟩
  rw [State.setLane_lane]
  split
  · next hk => rw [hk, h]
  · rfl

/-- A fold of steps that move nothing. -/
theorem foldl {α : Type} (f : State → α → State) (hf : ∀ (s : State) a, s.Unmoved (f s a)) (as : List α) (s : State) :
    s.Unmoved (as.foldl f s) := by
  induction as generalizing s with
  | nil => exact .refl s
  | cons a as ih => exact (hf s a).trans (ih _)

end State.Unmoved

/-! ### The shared operations that move nothing -/

namespace State

theorem raise_unmoved (s : State) (c : Cause) (x : Subject) : s.Unmoved (s.raise c x) := .of_rest rfl rfl rfl rfl
theorem answerLink_unmoved (s : State) (a : Answer) : s.Unmoved (s.answerLink a) := .of_rest rfl rfl rfl rfl
theorem setPhase_unmoved (s : State) (p : Phase) : s.Unmoved (s.setPhase p) := .of_rest rfl rfl rfl rfl
theorem setTapPending_unmoved (s : State) (l : Lane) (b : Bool) : s.Unmoved (s.setTapPending l b) :=
  .of_rest rfl rfl rfl rfl
theorem setCommitPending_unmoved (s : State) (l : Lane) (b : Bool) : s.Unmoved (s.setCommitPending l b) :=
  .of_rest rfl rfl rfl rfl
theorem setHostRequest_unmoved (s : State) (b : Bool) : s.Unmoved (s.setHostRequest b) :=
  .of_rest rfl rfl rfl rfl
theorem portWrite_unmoved (s : State) (n : Nat) (v : Vector Word 15) : s.Unmoved (s.portWrite n v) :=
  .of_rest rfl rfl rfl rfl
theorem writeRecord_unmoved (s : State) (n : Nat) (r : CardRecord) : s.Unmoved (s.writeRecord n r) :=
  s.portWrite_unmoved n _
theorem advanceTable_unmoved (s : State) : s.Unmoved s.advanceTable := .of_rest rfl rfl rfl rfl

theorem endFrame_unmoved (s : State) (l : Lane) : s.Unmoved (s.endFrame l) := .setLane s l _

theorem send_unmoved (s : State) (l : Lane) (m : Message) : s.Unmoved (s.send l m) := by
  rcases s.send_cases l m with ⟨_, e⟩ | ⟨_, e⟩ <;> rw [e]
  · exact .setLane s l _
  · exact s.raise_unmoved _ _

theorem checkHalted_unmoved (s : State) : s.Unmoved s.checkHalted := by
  rw [s.checkHalted_eq]
  exact .of_rest rfl rfl rfl rfl

theorem raiseLaneFaults_unmoved (s : State) (l : Lane) (n : Nat) : s.Unmoved (s.raiseLaneFaults l n) := by
  rw [s.raiseLaneFaults_eq]
  exact .of_rest rfl rfl rfl rfl

theorem laneRest_unmoved (s : State) (l : Lane) : s.Unmoved (s.laneRest l) := by
  rw [s.laneRest_eq]
  exact (Unmoved.setLane s l _).trans ((raiseLaneFaults_unmoved _ l _).trans (checkHalted_unmoved _))

theorem endRefused_unmoved (s : State) (l : Lane) (r : Reason) (f : FareFields) : s.Unmoved (s.endRefused l r f) :=
  (s.send_unmoved l _).trans (laneRest_unmoved _ l)

theorem withdrawTap_unmoved (s : State) (l : Lane) (r : Reason) (next : LaneState) :
    s.Unmoved (s.withdrawTap l r next) :=
  ((s.setTapPending_unmoved l false).trans (.setLane _ l _)).trans (send_unmoved _ l _)

theorem portOrder_unmoved (s : State) (n : Nat) : s.Unmoved (s.portOrder n).2 := by
  rw [s.portOrder_eq]
  exact .of_rest rfl rfl rfl rfl

theorem portRead_unmoved (s : State) (slot : Nat) : s.Unmoved (s.portRead slot).2 := by
  rcases s.portRead_cases slot with ⟨_, e⟩ | ⟨_, e⟩ <;> rw [e]
  exact s.raise_unmoved _ _

theorem lookup_unmoved (s : State) (card : CardNumber) : s.Unmoved (s.lookup card).2 := by
  rcases s.lookup_cases card with ⟨_, _, e⟩ | ⟨_, e⟩ <;> rw [e]
  exact s.raise_unmoved _ _

theorem unmoved_of_portRead {s t : State} {slot : Nat} {v : SlotVerdict} (h : s.portRead slot = (v, t)) :
    s.Unmoved t := by
  simpa [h] using s.portRead_unmoved slot

theorem unmoved_of_lookup {s t : State} {card : CardNumber} {result : LookupResult}
    (h : s.lookup card = (result, t)) : s.Unmoved t := by
  simpa [h] using s.lookup_unmoved card

/-- A grant to an idle engine gives it no hold and no passenger counted (R132, R137, R150). -/
theorem applyGrant_unmoved (s : State) (idle : s.engine = .idle) (g : Grant) : s.Unmoved (s.applyGrant g) := by
  cases g with
  | clearing => exact ⟨rfl, rfl, fun _ => rfl, by rw [idle]; rfl, by rw [idle]; rfl⟩
  | commit l => exact ⟨rfl, rfl, fun _ => rfl, by rw [idle]; rfl, by rw [idle]; rfl⟩
  | host =>
    simp only [State.applyGrant]
    split
    · exact ⟨rfl, rfl, fun _ => rfl, by rw [idle]; rfl, by rw [idle]; rfl⟩
    · exact s.setHostRequest_unmoved false
  | tap l =>
    have lane : s.Unmoved ((s.setTapPending l false).setLane l { s.lane l with state := .deciding }) :=
      (s.setTapPending_unmoved l false).trans (.setLane _ l _)
    exact ⟨lane.departures, lane.berths, lane.verdict, by rw [idle]; rfl, by rw [idle]; rfl⟩

theorem settle_unmoved (s : State) : s.Unmoved s.settle := by
  rcases s.settle_cases with ⟨_, e⟩ | ⟨_, _, e⟩ | ⟨g, idle, _, e⟩ <;> rw [e]
  exact s.applyGrant_unmoved idle g

/-- The engine comes to rest from an operation that owned no hold and had counted no passenger. -/
theorem engineDone_unmoved (s : State) (owned : s.engine.owned = none) (counts : s.engine.counts = none) :
    s.Unmoved s.engineDone :=
  (Unmoved.setEngine s (e := .idle) owned.symm counts.symm).trans (settle_unmoved _)

theorem handOver_unmoved (s : State) (a : Answer) (owned : s.engine.owned = none) (counts : s.engine.counts = none) :
    s.Unmoved (s.handOver a) := by
  simp only [State.handOver]
  split
  · exact (s.answerLink_unmoved _).trans (engineDone_unmoved _ owned counts)
  · exact s.engineDone_unmoved owned counts

end State
end Sys2Proof.Machine
end

section
namespace Sys2Proof.Machine

/-! ### The engine's commands move nothing (R153) -/

/-- A command on the record of a card moves what its own part moves. -/
theorem State.onCard_unmoved (s : State) (card : CardNumber) {f : Nat → CardRecord → State → State × Answer}
    (h : ∀ slot r (t : State), t.Unmoved (f slot r t).1) : s.Unmoved (s.onCard card f).1 := by
  unfold State.onCard
  split
  · next e => exact State.unmoved_of_lookup e
  · next e => exact State.unmoved_of_lookup e
  · next e => exact (State.unmoved_of_lookup e).trans (h _ _ _)

theorem serveCardAdd_unmoved (ws : List Word) (s : State) : s.Unmoved (serveCardAdd ws s).1 := by
  unfold serveCardAdd
  split
  · exact .refl s
  · next r _ =>
    split
    · next e => exact State.unmoved_of_lookup e
    · next e => exact State.unmoved_of_lookup e
    · next e => exact (State.unmoved_of_lookup e).trans (State.raise_unmoved _ _ _)
    · next e => exact (State.unmoved_of_lookup e).trans (State.writeRecord_unmoved _ _ r)

theorem serveCardFind_unmoved (ws : List Word) (s : State) : s.Unmoved (serveCardFind ws s).1 := by
  unfold serveCardFind
  split
  · exact s.onCard_unmoved _ fun _ _ t => .refl t
  · exact .refl s

theorem serveAddValue_unmoved (ws : List Word) (s : State) : s.Unmoved (serveAddValue ws s).1 := by
  simp only [serveAddValue]
  split
  · refine s.onCard_unmoved _ fun slot r t => ?_
    split
    · exact .refl t
    · exact t.writeRecord_unmoved slot _
  · exact .refl s

theorem serveSetBalance_unmoved (ws : List Word) (s : State) : s.Unmoved (serveSetBalance ws s).1 := by
  simp only [serveSetBalance]
  split
  · exact s.onCard_unmoved _ fun slot _ t => t.writeRecord_unmoved slot _
  · exact .refl s

theorem serveSettle_unmoved (ws : List Word) (s : State) : s.Unmoved (serveSettle ws s).1 := by
  unfold serveSettle
  split
  · refine s.onCard_unmoved _ fun slot r t => ?_
    split
    · exact .refl t
    · exact t.writeRecord_unmoved slot _
  · exact .refl s

theorem serveSetProduct_unmoved (ws : List Word) (s : State) : s.Unmoved (serveSetProduct ws s).1 := by
  simp only [serveSetProduct]
  split
  · exact .refl s
  · split
    · exact s.onCard_unmoved _ fun slot _ t => t.writeRecord_unmoved slot _
    · exact .refl s

theorem serveDenyFlag_unmoved (flag : Bool) (ws : List Word) (s : State) :
    s.Unmoved (serveDenyFlag flag ws s).1 := by
  unfold serveDenyFlag
  split
  · exact s.onCard_unmoved _ fun slot _ t => t.writeRecord_unmoved slot _
  · exact .refl s

theorem serveCardRetire_unmoved (ws : List Word) (s : State) : s.Unmoved (serveCardRetire ws s).1 := by
  unfold serveCardRetire
  split
  · refine s.onCard_unmoved _ fun slot r t => ?_
    split
    · exact .refl t
    · exact t.portWrite_unmoved slot _
  · exact .refl s

theorem serveTableRead_unmoved (ws : List Word) (s : State) : s.Unmoved (serveTableRead ws s).1 := by
  unfold serveTableRead
  split
  · next e => exact (State.unmoved_of_portRead e).trans (State.advanceTable_unmoved _)
  · next e => exact (State.unmoved_of_portRead e).trans (State.advanceTable_unmoved _)

theorem State.writeAtCursor_unmoved (s : State) (content : Vector Word 15) :
    s.Unmoved (s.writeAtCursor content).1 := by
  unfold State.writeAtCursor
  split
  · exact .refl s
  · exact (s.portWrite_unmoved _ _).trans (State.advanceTable_unmoved _)

theorem serveTableWrite_unmoved (ws : List Word) (s : State) : s.Unmoved (serveTableWrite ws s).1 := by
  simp only [serveTableWrite]
  split
  · exact s.writeAtCursor_unmoved _
  · split
    · split
      · exact .refl s
      · split
        · split
          · exact .refl s
          · exact s.raise_unmoved _ _
          · exact s.writeAtCursor_unmoved _
        · exact .refl s
    · exact .refl s

theorem State.setSweepCursor_unmoved (s : State) (n : Nat) : s.Unmoved { s with sweepCursor := n } :=
  .of_rest rfl rfl rfl rfl

theorem serveSweepNext_unmoved (ws : List Word) (s : State) : s.Unmoved (serveSweepNext ws s).1 := by
  unfold serveSweepNext
  split
  · next slot r _ => exact (s.writeRecord_unmoved slot _).trans (State.setSweepCursor_unmoved _ _)
  · next slot _ => exact (s.raise_unmoved _ _).trans (State.setSweepCursor_unmoved _ _)
  · exact s.setSweepCursor_unmoved _

/-- The engine serves no command that moves a departure or a hold: those that write no record write the settings. -/
theorem server_unmoved (c : Cmd) (ws : List Word) (s : State) : s.Unmoved (server c ws s).1 := by
  cases c with
  | cardAdd => exact serveCardAdd_unmoved ws s
  | cardFind => exact serveCardFind_unmoved ws s
  | addValue => exact serveAddValue_unmoved ws s
  | setBalance => exact serveSetBalance_unmoved ws s
  | settle => exact serveSettle_unmoved ws s
  | setProduct => exact serveSetProduct_unmoved ws s
  | deny => exact serveDenyFlag_unmoved true ws s
  | allow => exact serveDenyFlag_unmoved false ws s
  | cardRetire => exact serveCardRetire_unmoved ws s
  | tableRead => exact serveTableRead_unmoved ws s
  | tableWrite => exact serveTableWrite_unmoved ws s
  | sweepNext => exact serveSweepNext_unmoved ws s
  | enforce =>
    simp only [server, serveEnforce]
    repeat' split
    all_goals exact .of_rest rfl rfl rfl rfl
  | tableSeek =>
    simp only [server, serveTableSeek]
    split <;> exact .of_rest rfl rfl rfl rfl
  | fareSetBase =>
    simp only [server, serveFareSetBase]
    repeat' split
    all_goals exact .of_rest rfl rfl rfl rfl
  | fareSetBand =>
    simp only [server, serveFareSetBand]
    repeat' split
    all_goals exact .of_rest rfl rfl rfl rfl
  | fareSetClass =>
    simp only [server, serveFareSetClass]
    repeat' split
    all_goals exact .of_rest rfl rfl rfl rfl
  | fareSetPolicy =>
    simp only [server, serveFareSetPolicy]
    repeat' split
    all_goals exact .of_rest rfl rfl rfl rfl
  | fareRead =>
    simp only [server, serveFareRead]
    split <;> exact .refl s
  | watchSet =>
    simp only [server, serveWatchSet]
    repeat' split
    all_goals exact .of_rest rfl rfl rfl rfl
  | watchClear =>
    simp only [server, serveWatchClear]
    split <;> exact .of_rest rfl rfl rfl rfl
  | _ => exact .refl s

/-- The row of an ENGINE command. -/
theorem State.runHost_unmoved (s : State) (c : Cmd) (p : Progress) : s.Unmoved (s.runHost c (server c) p) := by
  unfold State.runHost
  split
  · next h host =>
    split
    · have served := server_unmoved c h.words s
      have owned : s.engine.owned = none := by rw [host]; rfl
      have counts : s.engine.counts = none := by rw [host]; rfl
      rcases s.hostStages_cases h (server c) (stageCount 2 p) with
        ⟨_, e⟩ | ⟨a, _, _, e⟩ | ⟨_, _, e⟩ | ⟨_, _, e⟩ <;> rw [e]
      · exact s.handOver_unmoved a owned counts
      · exact served.trans (.setEngine _ (served.owned.trans owned).symm (served.counts.trans counts).symm)
      · exact served.trans (State.handOver_unmoved _ _ (served.owned.trans owned) (served.counts.trans counts))
    · exact .refl s
  · exact .refl s

end Sys2Proof.Machine
end

section
namespace Sys2Proof.Machine

/-! ### Gate events, the clock and the link (R72, R73, R108 to R113, R159 to R167) -/

namespace State

theorem minuteEvent_unmoved (s : State) : s.Unmoved s.minuteEvent := by
  rw [s.minuteEvent_eq]
  exact .of_rest rfl rfl rfl rfl

theorem countSecond_unmoved (s : State) : s.Unmoved s.countSecond := by
  rw [s.countSecond_eq]
  exact .of_rest rfl rfl rfl rfl

theorem setClock_unmoved (s : State) (day minute : Nat) : s.Unmoved (s.setClock day minute) := by
  rw [s.setClock_eq]
  exact .of_rest rfl rfl rfl rfl

theorem takeTap_unmoved (s : State) (l : Lane) (card : CardNumber) : s.Unmoved (s.takeTap l card) := by
  simp only [State.takeTap]
  split
  · exact s.send_unmoved l _
  · refine Unmoved.trans (t := s.setLane l { s.lane l with expiredLast := false }) (.setLane s l _) ?_
    split
    · exact send_unmoved _ l _
    · split
      · exact (Unmoved.setLane _ l _).trans ((setTapPending_unmoved _ l true).trans (settle_unmoved _))
      · exact send_unmoved _ l _
  · split <;> exact s.send_unmoved l _

theorem takePassed_unmoved (s : State) (l : Lane) : s.Unmoved (s.takePassed l) := by
  have late : s.Unmoved (if (s.lane l).expiredLast then
      ((s.setLane l { s.lane l with expiredLast := false }).send l (.passageAnswer .late)).raise .latePassage
        (numberSubject l.val) else s.send l (.passageAnswer .notExpected)) := by
    split
    · exact (Unmoved.setLane s l _).trans ((send_unmoved _ l _).trans (raise_unmoved _ _ _))
    · exact s.send_unmoved l _
  simp only [State.takePassed]
  split
  · exact (Unmoved.setLane s l _).trans ((setCommitPending_unmoved _ l true).trans (settle_unmoved _))
  · exact late
  · exact late
  · exact s.send_unmoved l _

/-- WALKAWAY and CANCEL end the open verdict of an AWAITING lane, and move nothing at any other (R110, R111). -/
theorem takeWalkaway_cases (s : State) (l : Lane) :
    s.Unmoved (s.takeWalkaway l)
    ∨ (s.lane l).state = .awaiting ∧ s.takeWalkaway l = s.endUnpassed l .taken false := by
  unfold State.takeWalkaway
  split
  · next h => exact .inr ⟨h, rfl⟩
  · exact .inl (s.send_unmoved l _)

theorem takeCancel_cases (s : State) (l : Lane) :
    s.Unmoved (s.takeCancel l)
    ∨ (s.lane l).state = .awaiting ∧ s.takeCancel l = s.endUnpassed l .taken false := by
  simp only [State.takeCancel]
  split
  · exact .inl (s.withdrawTap_unmoved l _ _)
  · exact .inl (.setLane s l _)
  · next h => exact .inr ⟨h, rfl⟩
  · exact .inl (.refl s)

theorem takeFrame_unmoved (s : State) (l : Lane) (m : GateMessage) (take : State → State)
    (h : ∀ t : State, t.Unmoved (take t)) : s.Unmoved (s.takeFrame l m take) := by
  rcases s.takeFrame_cases l m take with ⟨_, e⟩ | ⟨_, e⟩ <;> rw [e]
  exact (s.endFrame_unmoved l).trans (h _)

theorem haltNotice_unmoved (s : State) : s.Unmoved s.haltNotice := by
  refine (s.portOrder_unmoved _).trans (.foldl State.haltLane (fun t l => ?_) _ _)
  unfold State.haltLane
  split
  · exact t.withdrawTap_unmoved l _ _
  · exact .refl t

theorem raiseStartFaults_unmoved (s before : State) : s.Unmoved (s.raiseStartFaults before) := by
  unfold State.raiseStartFaults
  split
  · refine Unmoved.trans (t := { s with freeCount := s.freeCount + 1 }) (.of_rest rfl rfl rfl rfl) ?_
    exact .foldl _ (fun t l => t.raise_unmoved _ _) _ _
  · exact .refl s

end State

/-! ### What the owners of DIRECT commands do to the departures (5.8, R187, R189) -/

/-- What the owner of a DIRECT command does to the departures and the berths: nothing, one of the changes of R94 to
R101, START, or a warm reset. -/
inductive State.Commanded (s : State) : State → Prop
  | unmoved {t : State} (h : s.Unmoved t) : State.Commanded s t
  | defined (d : DepIx) (b : Berth) (r : RouteClass) (tag cap margin : Word) (f : Option DepIx) (auto : Bool)
    (ranges : 1 ≤ cap.toNat ∧ cap.toNat ≤ 400 ∧ margin.toNat ≤ cap.toNat) (empty : (s.dep d).state = .empty)
    (fits : s.followOnOk b f = true) : State.Commanded s (s.setDep d (.fresh b r tag cap margin f auto))
  | opened (d : DepIx) (scheduled : (s.dep d).state = .scheduled) :
    State.Commanded s (s.setDep d { s.dep d with state := .boarding })
  | closed (d : DepIx) (openNow : (s.dep d).isOpen = true) : State.Commanded s (s.closeDep d)
  | resized (d : DepIx) (cap margin : Nat) (ranges : 1 ≤ cap ∧ cap ≤ 400 ∧ margin ≤ cap)
    (openNow : (s.dep d).isOpen = true) (within : (s.dep d).boarded + (s.dep d).held ≤ cap) :
    State.Commanded s (s.changeDep d { s.dep d with capacity := cap, margin := margin })
  | linked (d : DepIx) (f : Option DepIx) (openNow : (s.dep d).isOpen = true) (other : f ≠ some d)
    (fits : s.followOnOk (s.dep d).berth f = true) : State.Commanded s (s.setDep d { s.dep d with followOn := f })
  | retired (d : DepIx) (closed : (s.dep d).state = .closed) (empty : (s.dep d).held = 0) :
    State.Commanded s (s.retireDep d)
  | current (b : Berth) (x : Option DepIx) (fits : ∀ d, x = some d → (s.dep d).berth = b ∧ (s.dep d).isOpen = true) :
    State.Commanded s (s.setBerth b x)
  | started (g : Geometry) {t : State}
    (service : s.service = .unstarted ∨ s.service = .resumable ∨ s.service = .halted)
    (h : (s.started g).Unmoved t) : State.Commanded s t
  | warmReset : State.Commanded s s.warmReset

theorem State.Commanded.refl (s : State) : s.Commanded s := .unmoved (.refl s)

theorem ownDepartureDefine_commanded (d b r t c m f a : Word) (s : State) :
    s.Commanded (ownDepartureDefine d b r t c m f a s).1 := by
  unfold ownDepartureDefine
  split
  · next d b r f _ _ _ _ =>
    split
    · next ranges =>
      split
      · exact .refl s
      · next empty =>
        split
        · next fits =>
          exact .defined d b r t c m f (a == 1) ⟨ranges.1, ranges.2.1, ranges.2.2.1⟩ (not_not.1 empty) fits
        · exact .refl s
    · exact .refl s
  · exact .refl s

theorem ownDepartureOpen_commanded (d : Word) (s : State) : s.Commanded (ownDepartureOpen d s).1 := by
  unfold ownDepartureOpen
  split
  · exact .refl s
  · next d _ =>
    split
    · next scheduled => exact .opened d scheduled
    · exact .refl s

/-- CLOSE on the departure that its word reads as. -/
theorem ownDepartureClose_commanded (w : Word) (s : State) : s.Commanded (ownDepartureClose w s).1 := by
  cases h : indexBelow 16 w with
  | none =>
    simp only [ownDepartureClose, h]
    exact .refl s
  | some d =>
    have read : ownDepartureClose w s = ownDepartureClose (word d.val) s := by
      simp only [ownDepartureClose, h, indexBelow_depIx]
    rw [read, show ownDepartureClose (word d.val) s = _ from ownDepartureClose_eq s s.link d]
    split
    · next openNow => exact .closed d openNow
    · exact .refl s

theorem ownDepartureSetCapacity_commanded (d c m : Word) (s : State) :
    s.Commanded (ownDepartureSetCapacity d c m s).1 := by
  simp only [ownDepartureSetCapacity]
  split
  · exact .refl s
  · next d _ =>
    split
    · next ranges =>
      split
      · next openNow =>
        split
        · next within => exact .resized d c.toNat m.toNat ranges openNow within
        · exact .refl s
      · exact .refl s
    · exact .refl s

theorem ownDepartureLink_commanded (d f : Word) (s : State) : s.Commanded (ownDepartureLink d f s).1 := by
  simp only [ownDepartureLink]
  split
  · next d f _ _ =>
    split
    · next openNow =>
      split
      · next h => exact .linked d f openNow h.1 h.2
      · exact .refl s
    · exact .refl s
  · exact .refl s

theorem ownDepartureRetire_commanded (d : Word) (s : State) : s.Commanded (ownDepartureRetire d s).1 := by
  unfold ownDepartureRetire
  split
  · exact .refl s
  · next d _ =>
    split
    · next h => exact .retired d h.1 h.2
    · exact .refl s

theorem ownBerthSetCurrent_commanded (b d : Word) (s : State) : s.Commanded (ownBerthSetCurrent b d s).1 := by
  unfold ownBerthSetCurrent
  split
  · next b _ _ => exact .current b none fun _ h => nomatch h
  · next b d _ _ =>
    split
    · exact .refl s
    · next here =>
      split
      · next openNow =>
        refine .current b (some d) fun e h => ?_
        obtain rfl : d = e := by simpa using h
        exact ⟨not_not.1 here, openNow⟩
      · exact .refl s
  · exact .refl s

theorem ownStart_commanded (k p : Word) (s : State) : s.Commanded (ownStart k p s).1 := by
  have taken (service : s.service = .unstarted ∨ s.service = .resumable ∨ s.service = .halted) :
      s.Commanded (if 10 ≤ k.toNat ∧ k.toNat ≤ 18 ∧ 1 ≤ p.toNat ∧ p.toNat ≤ 8 then
        ((s.started ⟨k.toNat, p.toNat⟩).raiseStartFaults s).settle.ok else s.refuse .badOperand).1 := by
    split
    · exact .started _ service ((State.raiseStartFaults_unmoved _ s).trans (State.settle_unmoved _))
    · exact .refl s
  cases h : s.service with
  | clearing => simpa only [ownStart, h] using .refl s
  | serving => simpa only [ownStart, h] using .refl s
  | halting => simpa only [ownStart, h] using .refl s
  | unstarted => simpa only [ownStart, h] using taken (.inl h)
  | resumable => simpa only [ownStart, h] using taken (.inr (.inl h))
  | halted => simpa only [ownStart, h] using taken (.inr (.inr h))

/-! The other owners move nothing. -/

theorem ownHalt_unmoved (s : State) : s.Unmoved (ownHalt s).1 := by
  unfold ownHalt
  split
  · exact .refl s
  · exact .refl s
  · exact .refl s
  · exact .refl s
  · exact .refl s
  · exact s.haltNotice_unmoved.trans (.of_rest rfl rfl rfl rfl)

theorem ownLaneOpen_unmoved (lane : Word) (s : State) : s.Unmoved (ownLaneOpen lane s).1 := by
  unfold ownLaneOpen
  split
  · exact .refl s
  · next l _ =>
    simp only
    split
    · exact .refl s
    · exact (State.Unmoved.setLane s l _).trans (State.send_unmoved _ l _)

theorem ownLaneClose_unmoved (lane : Word) (s : State) : s.Unmoved (ownLaneClose lane s).1 := by
  unfold ownLaneClose
  split
  · exact .refl s
  · next l _ =>
    simp only
    split
    · exact .refl s
    · exact (State.Unmoved.setLane s l _).trans (State.send_unmoved _ l _)
    · exact (s.withdrawTap_unmoved l _ _).trans (State.send_unmoved _ l _)
    · exact .setLane s l _

theorem ownLaneSet_unmoved (lane b k c t : Word) (s : State) : s.Unmoved (ownLaneSet lane b k c t s).1 := by
  unfold ownLaneSet
  split
  · next l _ _ _ _ _ _ _ =>
    split
    · simp only
      split
      · exact .setLane s l _
      · exact .refl s
    · exact .refl s
  · exact .refl s

/-- What the owner of a DIRECT command does. -/
theorem owner_commanded (c : Cmd) (ws : List Word) (s : State) : s.Commanded (owner c ws s).1 := by
  cases c with
  | start => exact ownStart_commanded _ _ s
  | restart => exact .warmReset
  | departureDefine => exact ownDepartureDefine_commanded _ _ _ _ _ _ _ _ s
  | departureOpen => exact ownDepartureOpen_commanded _ s
  | departureClose => exact ownDepartureClose_commanded _ s
  | departureSetCapacity => exact ownDepartureSetCapacity_commanded _ _ _ s
  | departureLink => exact ownDepartureLink_commanded _ _ s
  | departureRetire => exact ownDepartureRetire_commanded _ s
  | berthSetCurrent => exact ownBerthSetCurrent_commanded _ _ s
  | halt => exact .unmoved (ownHalt_unmoved s)
  | laneOpen => exact .unmoved (ownLaneOpen_unmoved _ s)
  | laneClose => exact .unmoved (ownLaneClose_unmoved _ s)
  | laneSet => exact .unmoved (ownLaneSet_unmoved _ _ _ _ _ s)
  | resume =>
    simp only [owner, ownResume]
    split <;> exact .unmoved (.of_rest rfl rfl rfl rfl)
  | continueService =>
    simp only [owner, ownContinue]
    split <;> exact .unmoved (.of_rest rfl rfl rfl rfl)
  | keep =>
    simp only [owner, ownKeep]
    split <;> exact .unmoved (.of_rest rfl rfl rfl rfl)
  | setTime =>
    simp only [owner, ownSetTime]
    split
    · exact .unmoved (s.setClock_unmoved _ _)
    · exact .refl s
  | newDay =>
    simp only [owner, ownNewDay]
    split
    · exact .unmoved (s.setClock_unmoved _ _)
    · exact .refl s
  | setDay =>
    simp only [owner, ownSetDay]
    split
    · exact .unmoved (s.setClock_unmoved _ _)
    · exact .refl s
  | departureRead =>
    simp only [owner, ownDepartureRead]
    repeat' split
    all_goals exact .refl s
  | laneRead =>
    simp only [owner, ownLaneRead]
    split <;> exact .refl s
  | arbiterMode =>
    simp only [owner, ownArbiterMode]
    split <;> exact .unmoved (.of_rest rfl rfl rfl rfl)
  | setBottom =>
    simp only [owner, ownSetBottom]
    split <;> exact .unmoved (.of_rest rfl rfl rfl rfl)
  | attentionAck =>
    simp only [owner, ownAttentionAck]
    split <;> exact .unmoved (.of_rest rfl rfl rfl rfl)
  | attentionMask =>
    simp only [owner, ownAttentionMask]
    split <;> exact .unmoved (.of_rest rfl rfl rfl rfl)
  | _ => exact .refl s

end Sys2Proof.Machine
end

section
namespace Sys2Proof.Machine

/-! ### Commands over the link (R159 to R167) -/

/-- What a command of the host leaves of the departures: what its owner does to them, whatever the link holds. -/
def State.Ordered (s t : State) : Prop := ∃ (k : Link) (u : State), State.Commanded { s with link := k } u ∧ u.Unmoved t

namespace State

theorem Unmoved.ordered {s t : State} (h : s.Unmoved t) : s.Ordered t := ⟨s.link, s, .refl s, h⟩

/-- The link stands beside the departures. -/
theorem Ordered.of_link {s t : State} (k : Link) (h : State.Ordered { s with link := k } t) : s.Ordered t := h

theorem direct_ordered (s : State) (c : Cmd) (ws : List Word) : s.Ordered (s.direct c (owner c ws)) := by
  have commanded := owner_commanded c ws s
  rcases s.direct_cases c (owner c ws) with ⟨code, _, e⟩ | ⟨_, ⟨t, a, ho, e⟩ | ⟨t, ho, e⟩⟩ <;> rw [e]
  · exact (s.answerLink_unmoved _).ordered
  · rw [ho] at commanded
    exact ⟨s.link, t, commanded, t.answerLink_unmoved a⟩
  · rw [ho] at commanded
    exact ⟨s.link, t, commanded, .refl t⟩

/-- The row of a DIRECT command. -/
theorem hostDirect_ordered (s : State) (c : Cmd) (ws : List Word) : s.Ordered (s.hostDirect c (owner c ws)) := by
  rcases s.hostDirect_cases c (owner c ws) with ⟨_, e⟩ | ⟨_, e⟩ | ⟨_, e⟩ <;> rw [e]
  · exact (direct_ordered _ c ws).of_link
  · exact Unmoved.ordered (.of_rest rfl rfl rfl rfl)
  · exact Unmoved.ordered (.of_rest rfl rfl rfl rfl)

theorem request_unmoved (s : State) (c : Cmd) (ws : List Word) : s.Unmoved (s.request c ws) := by
  unfold State.request
  split
  · exact s.answerLink_unmoved _
  · exact (s.setPhase_unmoved (.executing c ws false)).trans
      ((setHostRequest_unmoved _ true).trans (settle_unmoved _))

theorem dispatch_ordered (s : State) (c : Cmd) (ws : List Word) : s.Ordered (s.dispatch c ws) := by
  unfold State.dispatch
  split
  · exact (s.request_unmoved c ws).ordered
  · exact s.direct_ordered c ws

theorem beginCommand_ordered (s : State) (w : Word) : s.Ordered (s.beginCommand w) := by
  unfold State.beginCommand
  split
  · exact (s.setPhase_unmoved _).ordered
  · split
    · exact s.dispatch_ordered _ _
    · exact (s.setPhase_unmoved _).ordered

theorem wordReady_ordered (s : State) (k : Kind) (w : Word) : s.Ordered (s.wordReady k w) := by
  unfold State.wordReady
  split
  · exact s.beginCommand_ordered w
  · exact (s.setPhase_unmoved _).ordered
  · exact (s.setPhase_unmoved _).ordered

theorem wordCollecting_ordered (s : State) (c : Cmd) (n : Nat) (ws : List Word) (k : Kind) (w : Word) :
    s.Ordered (s.wordCollecting c n ws k w) := by
  cases k with
  | operand =>
    simp only [State.wordCollecting]
    split
    · exact s.dispatch_ordered _ _
    · exact (s.setPhase_unmoved _).ordered
  | idle => exact (Unmoved.refl s).ordered
  | command => exact (s.setPhase_unmoved _).ordered
  | abort => exact (s.setPhase_unmoved _).ordered
  | other => exact (s.setPhase_unmoved _).ordered

theorem wordExecuting_unmoved (s : State) (c : Cmd) (ws : List Word) (late : Bool) (k : Kind) :
    s.Unmoved (s.wordExecuting c ws late k) := by
  unfold State.wordExecuting
  split
  · split <;> exact .of_rest rfl rfl rfl rfl
  · exact .refl s

theorem wordResults_ordered (s : State) (left : List Entry) (k : Kind) (w : Word) :
    s.Ordered (s.wordResults left k w) := by
  unfold State.wordResults
  split
  · exact s.beginCommand_ordered w
  · exact (s.setPhase_unmoved _).ordered
  · split
    · exact (wordReady_ordered _ _ w).of_link
    · exact (Unmoved.refl s).ordered
  · split
    · exact (s.setPhase_unmoved _).ordered
    · exact (Unmoved.refl s).ordered

theorem takeWord_ordered (s : State) (k : Kind) (w : Word) : s.Ordered (s.takeWord k w) := by
  unfold State.takeWord
  split
  · exact s.wordReady_ordered k w
  · exact s.wordCollecting_ordered _ _ _ k w
  · exact (s.wordExecuting_unmoved _ _ _ k).ordered
  · exact s.wordResults_ordered _ k w

end State

/-! ### What a command does to the departures and the holds -/

/-- What a command does to the departures and the holds: what the host orders, a reset, a passage that did not take
place at an AWAITING lane, a second event, the stages of a tap decision or those of a commit. -/
inductive State.PierStep (s : State) : State → Prop
  | ordered {t : State} (h : s.Ordered t) : State.PierStep s t
  | warmReset : State.PierStep s (State.warmReset { s with resetLine := true })
  | coldReset : State.PierStep s
    { State.reset with resetLine := s.resetLine, freeCount := s.freeCount, pending := s.pending }
  | unpassed (l : Lane) (answer : Answered) (expired : Bool) {u : State} (h : s.Unmoved u)
    (awaiting : (s.lane l).state = .awaiting) : State.PierStep s (u.endUnpassed l answer expired)
  | secondEvent : State.PierStep s s.secondEvent
  | decides (n : Nat) {d : Decision} (h : s.engine = .deciding d) : State.PierStep s (runDecision n d s)
  | commits (n : Nat) {c : Commit} (h : s.engine = .committing c) : State.PierStep s (runCommit n c s)

theorem State.Unmoved.pierStep {s t : State} (h : s.Unmoved t) : s.PierStep t := .ordered h.ordered

/-- What a command leaves, where it leaves a state, is a step of the departures and the holds. -/
def PierLeads (s : State) (r : Result) : Prop := ∀ t, r = .next t → s.PierStep t

theorem PierLeads.next {s t : State} (h : s.PierStep t) : PierLeads s (.next t) := fun u e => by
  cases e
  exact h

theorem PierLeads.unmoved {s t : State} (h : s.Unmoved t) : PierLeads s (.next t) := .next h.pierStep

theorem PierLeads.direct (s : State) (c : Cmd) (ws : List Word) : PierLeads s (.next (s.hostDirect c (owner c ws))) :=
  .next (.ordered (s.hostDirect_ordered c ws))

theorem PierLeads.engine (s : State) (c : Cmd) (p : Progress) : PierLeads s (.next (s.runHost c (server c) p)) :=
  .unmoved (s.runHost_unmoved c p)

/-- A gate's message that may end the open verdict of an AWAITING lane, in its frame. -/
theorem takeFrame_pierStep (s : State) (l : Lane) (m : GateMessage) {take : State → State}
    (h : ∀ t : State, t.Unmoved (take t) ∨ (t.lane l).state = .awaiting ∧ take t = t.endUnpassed l .taken false) :
    s.PierStep (s.takeFrame l m take) := by
  rcases s.takeFrame_cases l m take with ⟨_, e⟩ | ⟨_, e⟩ <;> rw [e]
  · rcases h (s.endFrame l) with still | ⟨awaiting, ends⟩
    · exact ((s.endFrame_unmoved l).trans still).pierStep
    · rw [ends]
      exact .unpassed l _ _ (s.endFrame_unmoved l) (by simpa using awaiting)
  · exact (State.Unmoved.refl s).pierStep

theorem execPassageTimerExpiry_pierLeads (l : Lane) (s : State) : PierLeads s (execPassageTimerExpiry l s) := by
  unfold execPassageTimerExpiry
  split
  · next awaiting => exact .next (.unpassed l _ _ (.refl s) awaiting)
  · exact .unmoved (.refl s)

theorem execFrameDiscard_pierLeads (l : Lane) (bytes : List RxByte) (s : State) :
    PierLeads s (execFrameDiscard l bytes s) := by
  simp only [execFrameDiscard]
  split
  · exact .unmoved ((State.Unmoved.setLane s l _).trans (State.raiseLaneFaults_unmoved _ l _))
  · exact .unmoved (.refl s)

theorem execFrameTimeout_pierLeads (l : Lane) (bytes : List RxByte) (s : State) :
    PierLeads s (execFrameTimeout l bytes s) := by
  simp only [execFrameTimeout]
  split
  · exact .unmoved ((s.endFrame_unmoved l).trans (State.raise_unmoved _ _ _))
  · exact .unmoved (.refl s)

theorem execFrameSent_pierLeads (l : Lane) (s : State) : PierLeads s (execFrameSent l s) := by
  unfold execFrameSent
  split
  · exact .unmoved (.refl s)
  · exact .unmoved (.setLane s l _)

theorem execTransferBegin_pierLeads (s : State) : PierLeads s (execTransferBegin s) := by
  unfold execTransferBegin
  split
  · exact .unmoved (.refl s)
  · exact .unmoved (.of_rest rfl rfl rfl rfl)

theorem execTransferComplete_pierLeads (kind : Byte) (w : Word) (s : State) :
    PierLeads s (execTransferComplete kind w s) := by
  unfold execTransferComplete
  split
  · exact .unmoved (.refl s)
  · exact .next (.ordered (State.takeWord_ordered _ _ w).of_link)

theorem execTapDecision_pierLeads (p : Progress) (s : State) : PierLeads s (execTapDecision p s) := by
  unfold execTapDecision
  split
  · next h => exact .next (.decides _ h)
  · exact .unmoved (.refl s)

theorem execCommit_pierLeads (p : Progress) (s : State) : PierLeads s (execCommit p s) := by
  unfold execCommit
  split
  · next h => exact .next (.commits _ h)
  · exact .unmoved (.refl s)

theorem execClearing_pierLeads (p : Progress) (s : State) : PierLeads s (execClearing p s) := by
  unfold execClearing
  split
  · next n h => exact .unmoved ⟨rfl, rfl, fun _ => rfl, by rw [h]; rfl, by rw [h]; rfl⟩
  · exact .unmoved (.refl s)

theorem execClearingComplete_pierLeads (s : State) : PierLeads s (execClearingComplete s) := by
  unfold execClearingComplete
  split
  · next n h =>
    split
    · refine .unmoved (.trans (t := { s with service := .serving }) (.of_rest rfl rfl rfl rfl) ?_)
      exact State.engineDone_unmoved _ (by rw [h]; rfl) (by rw [h]; rfl)
    · exact .unmoved (.refl s)
  · exact .unmoved (.refl s)

theorem execWarmReset_pierLeads (s : State) : PierLeads s (execWarmReset s) := by
  unfold execWarmReset
  split
  · exact .unmoved (.refl s)
  · exact .next .warmReset

theorem execSlotDecay_pierLeads (slot : Nat) (words : Vector Word 16) (s : State) :
    PierLeads s (execSlotDecay slot words s) := by
  unfold execSlotDecay
  split
  · exact .unmoved (.of_rest rfl rfl rfl rfl)
  · intro t e
    cases e

/-- Every command is such a step. -/
theorem exec_pierLeads (i : Instr) (s : State) : PierLeads s (exec i s) := by
  cases i with
  | coldReset => exact .next .coldReset
  | warmReset => exact execWarmReset_pierLeads s
  | resetLineRelease => exact .unmoved (.of_rest rfl rfl rfl rfl)
  | slotDecay slot words => exact execSlotDecay_pierLeads slot words s
  | secondEvent => exact .next .secondEvent
  | minuteEvent => exact .unmoved s.minuteEvent_unmoved
  | passageTimerExpiry l => exact execPassageTimerExpiry_pierLeads l s
  | tap l card => exact .unmoved (s.takeFrame_unmoved l _ _ fun t => t.takeTap_unmoved l card)
  | passed l => exact .unmoved (s.takeFrame_unmoved l _ _ fun t => t.takePassed_unmoved l)
  | walkaway l => exact .next (takeFrame_pierStep s l _ fun t => t.takeWalkaway_cases l)
  | cancel l => exact .next (takeFrame_pierStep s l _ fun t => t.takeCancel_cases l)
  | frameDiscard l bytes => exact execFrameDiscard_pierLeads l bytes s
  | frameTimeout l bytes => exact execFrameTimeout_pierLeads l bytes s
  | frameSent l => exact execFrameSent_pierLeads l s
  | transferBegin => exact execTransferBegin_pierLeads s
  | transferComplete kind w => exact execTransferComplete_pierLeads kind w s
  | transferVoid => exact .unmoved (.of_rest rfl rfl rfl rfl)
  | tapDecision p => exact execTapDecision_pierLeads p s
  | commit p => exact execCommit_pierLeads p s
  | clearing p => exact execClearing_pierLeads p s
  | clearingComplete => exact execClearingComplete_pierLeads s
  | nop => exact .direct s .nop []
  | identify => exact .direct s .identify []
  | start k p => exact .direct s .start [k, p]
  | resume => exact .direct s .resume []
  | halt => exact .direct s .halt []
  | continueService => exact .direct s .continueService []
  | keep => exact .direct s .keep []
  | restart => exact .direct s .restart []
  | clockRead => exact .direct s .clockRead []
  | setTime minute => exact .direct s .setTime [minute]
  | newDay minute => exact .direct s .newDay [minute]
  | setDay day minute => exact .direct s .setDay [day, minute]
  | departureDefine d b r t c m f a => exact .direct s .departureDefine [d, b, r, t, c, m, f, a]
  | departureOpen d => exact .direct s .departureOpen [d]
  | departureClose d => exact .direct s .departureClose [d]
  | departureSetCapacity d c m => exact .direct s .departureSetCapacity [d, c, m]
  | departureLink d f => exact .direct s .departureLink [d, f]
  | departureRead d m => exact .direct s .departureRead [d, m]
  | departureRetire d => exact .direct s .departureRetire [d]
  | berthSetCurrent b d => exact .direct s .berthSetCurrent [b, d]
  | berthRead => exact .direct s .berthRead []
  | laneOpen l => exact .direct s .laneOpen [l]
  | laneClose l => exact .direct s .laneClose [l]
  | laneSet l b k c t => exact .direct s .laneSet [l, b, k, c, t]
  | laneRead l => exact .direct s .laneRead [l]
  | arbiterMode m => exact .direct s .arbiterMode [m]
  | setBottom l => exact .direct s .setBottom [l]
  | pollLanes => exact .direct s .pollLanes []
  | attentionRead => exact .direct s .attentionRead []
  | attentionAck c => exact .direct s .attentionAck [c]
  | attentionMask c => exact .direct s .attentionMask [c]
  | cardAdd p => exact .engine s .cardAdd p
  | cardFind p => exact .engine s .cardFind p
  | addValue p => exact .engine s .addValue p
  | setBalance p => exact .engine s .setBalance p
  | settle p => exact .engine s .settle p
  | setProduct p => exact .engine s .setProduct p
  | deny p => exact .engine s .deny p
  | allow p => exact .engine s .allow p
  | cardRetire p => exact .engine s .cardRetire p
  | enforce p => exact .engine s .enforce p
  | tableSeek p => exact .engine s .tableSeek p
  | tableRead p => exact .engine s .tableRead p
  | tableWrite p => exact .engine s .tableWrite p
  | fareSetBase p => exact .engine s .fareSetBase p
  | fareSetBand p => exact .engine s .fareSetBand p
  | fareSetClass p => exact .engine s .fareSetClass p
  | fareSetPolicy p => exact .engine s .fareSetPolicy p
  | fareRead p => exact .engine s .fareRead p
  | watchSet p => exact .engine s .watchSet p
  | watchClear p => exact .engine s .watchClear p
  | watchRead p => exact .engine s .watchRead p
  | sweepNext p => exact .engine s .sweepNext p

/-- So is every step of the machine, from the state with the command taken from its queue. -/
theorem step_pierStep (s t : State) (h : step s = .next t) :
    ∃ rest, State.PierStep { s with pending := rest } t := by
  unfold step at h
  split at h
  · injection h with h
    exact ⟨s.pending, h ▸ (State.Unmoved.refl s).pierStep⟩
  · next i rest _ => exact ⟨rest, exec_pierLeads i _ t h⟩

end Sys2Proof.Machine
end

section
namespace Sys2Proof.Machine

/-! ### What the stages of a decision do to the departures and to its hold (R137 to R145) -/

/-- A decision moved on from a stage before its end, its hold as it was: the same lane, coherent and owning the same
hold, where it was coherent. -/
structure Decision.Moves (d d' : Decision) : Prop where
  lane : d'.lane = d.lane
  coherent : d.Coherent → d'.Coherent
  owned : d.Coherent → d'.owned = d.owned

/-- A coherent decision before its end has not been refused (R145). -/
theorem Decision.Coherent.running {d : Decision} (h : d.Coherent) (going : d.stage ≠ .decisionEnd) :
    d.refusal = none := by
  by_contra refused
  rw [Decision.Coherent, if_pos (Option.isSome_iff_ne_none.2 refused)] at h
  exact going h

theorem Decision.coherent_iff {d : Decision} (h : d.refusal = none) :
    d.Coherent ↔ (d.record.isSome = true ↔ d.stage ≠ .watch ∧ d.stage ≠ .lookup ∧ d.stage ≠ .unknown)
      ∧ (d.hold.isSome = true ↔ d.stage = .fare ∨ d.stage = .write ∨ d.stage = .decisionEnd) := by
  simp [Decision.Coherent, h]

theorem Decision.coherent_of_refused {d : Decision} (h : d.refusal ≠ none) (stage : d.stage = .decisionEnd) :
    d.Coherent := by
  rw [Decision.Coherent, if_pos (Option.isSome_iff_ne_none.2 h)]
  exact stage

theorem Decision.owned_of_refused {d : Decision} (h : d.refusal ≠ none) : d.owned = none := by
  simp [Decision.owned, h]

/-- A hold is owned from the fare stage on alone (R142). -/
theorem Decision.Coherent.owned_none {d : Decision} (h : d.Coherent) (fare : d.stage ≠ .fare) (write : d.stage ≠ .write)
    (going : d.stage ≠ .decisionEnd) : d.owned = none := by
  have none := ((Decision.coherent_iff (h.running going)).1 h).2
  simp only [fare, write, going, or_false, iff_false, Bool.not_eq_true, Option.isSome_eq_false_iff,
    Option.isNone_iff_eq_none] at none
  simp [Decision.owned, none]

/-- A decision refused where it owns no hold. -/
theorem Decision.Moves.refused {d d' : Decision} (lane : d'.lane = d.lane) (refusal : d'.refusal ≠ none)
    (stage : d'.stage = .decisionEnd) (free : d.Coherent → d.owned = none) : d.Moves d' :=
  ⟨lane, fun _ => Decision.coherent_of_refused refusal stage, fun h => by
    rw [Decision.owned_of_refused refusal, free h]⟩

/-- A decision that goes on to a stage at which it has what that stage needs. -/
theorem Decision.Moves.onward {d d' : Decision} (going : d.stage ≠ .decisionEnd) (lane : d'.lane = d.lane)
    (refusal : d'.refusal = d.refusal) (hold : d'.hold = d.hold)
    (record : d.Coherent →
      (d'.record.isSome = true ↔ d'.stage ≠ .watch ∧ d'.stage ≠ .lookup ∧ d'.stage ≠ .unknown))
    (holding : d.stage = .fare ∨ d.stage = .write ↔ d'.stage = .fare ∨ d'.stage = .write ∨ d'.stage = .decisionEnd) :
    d.Moves d' := by
  refine ⟨lane, fun h => ?_, fun _ => by rw [Decision.owned, Decision.owned, refusal, hold]⟩
  have running := h.running going
  have held := ((Decision.coherent_iff running).1 h).2
  refine (Decision.coherent_iff (refusal.trans running)).2 ⟨record h, ?_⟩
  rw [hold, held, ← holding]
  simp [going]

/-- What a stage makes of a decision and of the state: the hold and the departures stay, a hold lands (R142), or the
hold is released and the decision refused (R143). -/
inductive Decision.Stage (d : Decision) (s : State) : Decision × State → Prop
  | moves {d' : Decision} {t : State} (m : d.Moves d') (h : s.Unmoved t) : Decision.Stage d s (d', t)
  | lands (x : DepIx) (stage : d.stage = .hold) (target : s.holdTarget (s.lane d.lane).berth = .ok x) :
    Decision.Stage d s ({ d with hold := some (s.particulars x), stage := .fare }, s.landed x)
  | releases {d' : Decision} {h : Hold} (stage : d.stage = .fare) (hold : d.hold = some h) (lane : d'.lane = d.lane)
    (refusal : d'.refusal ≠ none) (ended : d'.stage = .decisionEnd) :
    Decision.Stage d s (d', s.release h.departure)

/-- A stage that is neither fare nor write refuses a decision that owns no hold. -/
theorem Decision.Stage.refuses {d : Decision} {s t : State} {d' : Decision} {stage : DecisionStage}
    (at_stage : d.stage = stage) (lane : d'.lane = d.lane) (refusal : d'.refusal ≠ none)
    (ended : d'.stage = .decisionEnd) (h : s.Unmoved t)
    (early : stage ≠ .fare ∧ stage ≠ .write ∧ stage ≠ .decisionEnd := by decide) : d.Stage s (d', t) :=
  .moves (.refused lane refusal ended fun c => by
    subst at_stage
    exact c.owned_none early.1 early.2.1 early.2.2) h

theorem stageWatch_stage (d : Decision) (s : State) (stage : d.stage = .watch) : d.Stage s (stageWatch d s) := by
  have onward : d.Moves (d.goto .lookup) := .onward (by simp [stage]) rfl rfl rfl (fun h => by
    simpa [Decision.goto, stage] using ((Decision.coherent_iff (h.running (by simp [stage]))).1 h).1)
    (by simp [Decision.goto, stage])
  unfold stageWatch
  split
  · exact .moves onward (.refl s)
  · simp only
    split
    · exact .refuses stage rfl nofun rfl (s.raise_unmoved _ _)
    · exact .moves onward (s.raise_unmoved _ _)
    · exact .moves onward (s.raise_unmoved _ _)

theorem stageLookup_stage (d : Decision) (s : State) (stage : d.stage = .lookup) : d.Stage s (stageLookup d s) := by
  unfold stageLookup
  split
  · next e => exact .refuses stage rfl nofun rfl (State.unmoved_of_lookup e)
  · next e =>
    exact .moves (.onward (by simp [stage]) rfl rfl rfl (fun _ => by simp) (by simp [stage]))
      (State.unmoved_of_lookup e)
  · next e =>
    exact .moves (.onward (by simp [stage]) rfl rfl rfl (fun h => by
      simpa [stage] using ((Decision.coherent_iff (h.running (by simp [stage]))).1 h).1) (by simp [stage]))
      (State.unmoved_of_lookup e)

theorem stageUnknown_stage (d : Decision) (s : State) (stage : d.stage = .unknown) :
    d.Stage s (stageUnknown d s) := by
  unfold stageUnknown
  split
  · exact .refuses stage rfl nofun rfl (.refl s)
  · split
    · exact .moves (.onward (by simp [stage]) rfl rfl rfl (fun _ => by simp) (by simp [stage])) (.refl s)
    · exact .refuses stage rfl nofun rfl (s.raise_unmoved _ _)

/-- The checks of stages 5 to 8 refuse, or go on to the next with the record that they have. -/
theorem Decision.Stage.checks {d : Decision} {s : State} {stage next : DecisionStage} {reason : Reason}
    (at_stage : d.stage = stage) (refuse : Prop) [Decidable refuse]
    (checks : stage ∉ [.watch, .lookup, .unknown, .fare, .write, .decisionEnd] := by decide)
    (goes : next ∉ [.watch, .lookup, .unknown, .fare, .write, .decisionEnd] := by decide) :
    d.Stage s (if refuse then (d.refuse reason, s) else (d.goto next, s)) := by
  subst at_stage
  simp only [List.mem_cons, List.not_mem_nil, or_false, not_or] at checks goes
  obtain ⟨watch, lookup, unknown, fare, write, going⟩ := checks
  split
  · exact .moves (.refused rfl nofun rfl fun c => c.owned_none fare write going) (.refl s)
  · refine .moves (.onward going rfl rfl rfl (fun h => ?_) ?_) (.refl s)
    · have record := ((Decision.coherent_iff (h.running going)).1 h).1.2 ⟨watch, lookup, unknown⟩
      simp [Decision.goto, record, goes]
    · simp [Decision.goto, fare, write, goes]

theorem stageHold_stage (d : Decision) (s : State) (stage : d.stage = .hold) : d.Stage s (stageHold d s) := by
  unfold stageHold
  rw [s.holdRequest_eq]
  rcases s.holdTarget_cases (s.lane d.lane).berth with e | e | ⟨x, e⟩ <;> rw [e]
  · exact .refuses stage rfl nofun rfl (.refl s)
  · exact .refuses stage rfl nofun rfl (.refl s)
  · exact .lands x stage e

theorem stageFare_stage (d : Decision) (r : CardRecord) (h : Hold) (s : State) (stage : d.stage = .fare)
    (hold : d.hold = some h) : d.Stage s (stageFare d r h s) := by
  simp only [stageFare]
  split
  · refine .moves (.onward (by simp [stage]) rfl rfl rfl (fun c => ?_) (by simp [stage])) (.refl s)
    simpa [stage] using ((Decision.coherent_iff (c.running (by simp [stage]))).1 c).1
  · exact .releases stage hold rfl nofun rfl

theorem stageWrite_stage (d : Decision) (r : CardRecord) (s : State) (stage : d.stage = .write) :
    d.Stage s (stageWrite d r s) := by
  have recorded (c : d.Coherent) : d.record.isSome = true := by
    simpa [stage] using ((Decision.coherent_iff (c.running (by simp [stage]))).1 c).1
  unfold stageWrite
  split
  · exact .moves (.onward (by simp [stage]) rfl rfl rfl (fun c => by simpa using recorded c) (by simp [stage]))
      (s.writeRecord_unmoved _ _)
  · exact .moves (.onward (by simp [stage]) rfl rfl rfl (fun c => by simpa [Decision.goto] using recorded c)
      (by simp [Decision.goto, stage])) (.refl s)

/-- A stage without what it needs: no coherent decision is at one. -/
theorem Decision.Stage.unmet {d : Decision} {s : State} (unmet : ¬d.Coherent) :
    d.Stage s (d.refuse .fault, s) :=
  .moves (.refused rfl nofun rfl fun c => absurd c unmet) (.refl s)

/-- From the in-passage stage on a coherent decision has its record (R139). -/
theorem Decision.Coherent.has_record {d : Decision} (h : d.Coherent)
    (stage : d.stage ∉ [.watch, .lookup, .unknown, .decisionEnd]) : ∃ r, d.record = some r := by
  simp only [List.mem_cons, List.not_mem_nil, or_false, not_or] at stage
  obtain ⟨watch, lookup, unknown, going⟩ := stage
  exact Option.isSome_iff_exists.1 (((Decision.coherent_iff (h.running going)).1 h).1.2 ⟨watch, lookup, unknown⟩)

/-- At the fare stage a coherent decision has its hold (R142). -/
theorem Decision.Coherent.has_hold {d : Decision} (h : d.Coherent) (stage : d.stage = .fare) : ∃ x, d.hold = some x :=
  Option.isSome_iff_exists.1 (((Decision.coherent_iff (h.running (by simp [stage]))).1 h).2.2 (.inl stage))

/-- What one of the stages 2 to 11 makes of a decision and of the state. -/
theorem decisionStage_stage (d : Decision) (s : State) (going : d.stage ≠ .decisionEnd) :
    d.Stage s (decisionStage d s) := by
  unfold decisionStage
  split
  · next stage => exact stageWatch_stage d s stage
  · next stage => exact stageLookup_stage d s stage
  · next stage => exact stageUnknown_stage d s stage
  · next stage => exact .checks stage _
  · next stage _ => exact .checks stage _
  · next stage _ => exact .checks stage _
  · next stage _ => exact .checks stage _
  · next stage => exact stageHold_stage d s stage
  · next stage _ hold => exact stageFare_stage d _ _ s stage hold
  · next stage _ => exact stageWrite_stage d _ s stage
  · next watch lookup unknown inPassage hold deny latch passDays write fare =>
    refine .unmet fun c => ?_
    cases stage : d.stage with
    | watch => exact watch stage
    | lookup => exact lookup stage
    | unknown => exact unknown stage
    | inPassage => exact inPassage stage
    | hold => exact hold stage
    | decisionEnd => exact going stage
    | deny => exact (c.has_record (by simp [stage])).elim fun r hr => deny r stage hr
    | latch => exact (c.has_record (by simp [stage])).elim fun r hr => latch r stage hr
    | passDays => exact (c.has_record (by simp [stage])).elim fun r hr => passDays r stage hr
    | write => exact (c.has_record (by simp [stage])).elim fun r hr => write r stage hr
    | fare =>
      obtain ⟨r, hr⟩ := c.has_record (by simp [stage])
      obtain ⟨h, hh⟩ := c.has_hold stage
      exact fare r h stage hr hh

/-- The end of a decision: nothing moves where it owns no hold, and a hold it owns is released where the verdict is
CANCELLED, or becomes that of the open verdict stored at its lane (R115, R116, R145). The engine then comes to rest. -/
theorem State.endDecision_cases (s : State) (d : Decision) : ∃ u, s.endDecision d = u.engineDone ∧
    (d.owned = none ∧ s.Unmoved u
      ∨ (∃ v x, d.owned = some x ∧ s.Unmoved v ∧ u = v.release x)
      ∨ ∃ p v, d.owned = some v.departure ∧ p.openVerdict = some v ∧ (s.setLane d.lane p).Unmoved u) := by
  have cleared : s.Unmoved (s.setLane d.lane { s.lane d.lane with tapped := none, cancelNoted := false }) :=
    .setLane s d.lane _
  simp only [State.endDecision]
  refine ⟨_, rfl, ?_⟩
  split
  · next refusal _ =>
    exact .inl ⟨Decision.owned_of_refused (by simp [refusal]), cleared.trans (State.endRefused_unmoved _ _ _ _)⟩
  · next refusal _ =>
    exact .inl ⟨Decision.owned_of_refused (by simp [refusal]), cleared.trans (State.endRefused_unmoved _ _ _ _)⟩
  · next h refusal hold _ =>
    refine .inr (.inr ?_)
    simp only [State.acceptOpen, State.setLane_setLane]
    split
    · exact ⟨_, d.openVerdict h, by simp [Decision.owned, refusal, hold, Decision.openVerdict], rfl,
        State.send_unmoved _ _ _⟩
    · exact ⟨_, d.openVerdict h, by simp [Decision.owned, refusal, hold, Decision.openVerdict], rfl,
        (State.send_unmoved _ _ _).trans (State.setCommitPending_unmoved _ _ _)⟩
  · next h refusal hold _ =>
    exact .inr (.inl ⟨_, h.departure, by simp [Decision.owned, refusal, hold],
      cleared.trans (State.endRefused_unmoved _ _ _ _), rfl⟩)
  · next hold =>
    exact .inl ⟨by simp [Decision.owned, hold], cleared.trans (State.endRefused_unmoved _ _ _ _)⟩

end Sys2Proof.Machine
end

section
namespace Sys2Proof.Machine

/-! ### What the stages of a commit do to the departures (R150 to R152) -/

/-- A commit goes past its first stage, which counts the passenger of its lane's open verdict; nothing else moves
a departure (R90, R150). -/
theorem commitStage_cases (c : Commit) (s : State) :
    (commitStage c s).1.lane = c.lane ∧ (commitStage c s).1.stage ≠ .count ∧
      ((∃ v, c.stage = .count ∧ (s.lane c.lane).openVerdict = some v
          ∧ (commitStage c s).2 = s.commitOfCount v.departure v.charge)
        ∨ s.Unmoved (commitStage c s).2 ∧ (c.stage = .count → (s.lane c.lane).openVerdict = none)) := by
  unfold commitStage
  split
  · next v stage verdict => exact ⟨rfl, nofun, .inl ⟨v, stage, verdict, rfl⟩⟩
  · next v stage _ =>
    have later : c.stage = .count → (s.lane c.lane).openVerdict = none := fun e => by simp [stage] at e
    simp only [stageRead]
    split
    · next e =>
      split
      · exact ⟨rfl, nofun, .inr ⟨State.unmoved_of_portRead e, later⟩⟩
      · exact ⟨rfl, nofun, .inr ⟨(State.unmoved_of_portRead e).trans (State.raise_unmoved _ _ _), later⟩⟩
    · next e => exact ⟨rfl, nofun, .inr ⟨(State.unmoved_of_portRead e).trans (State.raise_unmoved _ _ _), later⟩⟩
    · next e => exact ⟨rfl, nofun, .inr ⟨(State.unmoved_of_portRead e).trans (State.raise_unmoved _ _ _), later⟩⟩
  · next stage _ _ =>
    refine ⟨rfl, nofun, .inr ⟨?_, fun e => by simp [stage] at e⟩⟩
    simp only [stageCharge]
    split
    · exact s.raise_unmoved _ _
    · exact .refl s
  · next stage _ _ => exact ⟨rfl, nofun, .inr ⟨s.writeRecord_unmoved _ _, fun e => by simp [stage] at e⟩⟩
  · next count _ _ _ =>
    refine ⟨rfl, nofun, .inr ⟨.refl s, fun stage => ?_⟩⟩
    cases h : (s.lane c.lane).openVerdict with
    | none => rfl
    | some v => exact (count v stage h).elim

/-- The end of a commit drops its lane's open verdict, and the engine comes to rest (R118, R152). -/
theorem State.endCommit_cases (s : State) (c : Commit) : ∃ u, s.endCommit c = u.engineDone ∧
    (s.setLane c.lane { s.lane c.lane with openVerdict := none }).Unmoved u := by
  simp only [State.endCommit]
  refine ⟨_, rfl, .trans ?_ (State.laneRest_unmoved _ _)⟩
  split
  · exact State.send_unmoved _ _ _
  · exact .refl _

/-! ### Departures that stay at their berths (R82, R94) -/

/-- A departure that stays at its berth with its follow-on, and is EMPTY, and SCHEDULED or BOARDING, as it was. -/
structure Departure.Moored (r r' : Departure) : Prop where
  berth : r'.berth = r.berth
  followOn : r'.followOn = r.followOn
  isOpen : r'.isOpen = r.isOpen
  empty : r'.state = .empty ↔ r.state = .empty

theorem Departure.Moored.refl (r : Departure) : r.Moored r := ⟨rfl, rfl, rfl, .rfl⟩

theorem Departure.Moored.trans {r r' r'' : Departure} (a : r.Moored r') (b : r'.Moored r'') : r.Moored r'' :=
  ⟨b.berth.trans a.berth, b.followOn.trans a.followOn, b.isOpen.trans a.isOpen, b.empty.trans a.empty⟩

/-- A departure changed in other fields than these. -/
theorem Departure.Moored.of_state {r r' : Departure} (berth : r'.berth = r.berth) (followOn : r'.followOn = r.followOn)
    (state : r'.state = r.state) : r.Moored r' :=
  ⟨berth, followOn, by simp only [Departure.isOpen, state], by rw [state]⟩

/-- A departure that was SCHEDULED or BOARDING made BOARDING (R86, R95). -/
theorem Departure.Moored.of_boarding {r r' : Departure} (berth : r'.berth = r.berth)
    (followOn : r'.followOn = r.followOn) (state : r'.state = .boarding) (before : r.state = .scheduled ∨ r.state = .boarding) : r.Moored r' := by
  refine ⟨berth, followOn, by rw [r.isOpen_iff.2 before, r'.isOpen_iff.2 (.inr state)], ?_⟩
  rcases before with h | h <;> simp [h, state]

theorem Departure.released_moored (r : Departure) : r.Moored r.released := by
  unfold Departure.released
  split
  · exact .refl r
  · exact .of_state rfl rfl rfl

theorem Departure.released_iterate_moored (n : Nat) (r : Departure) : r.Moored (Departure.released^[n] r) := by
  induction n generalizing r with
  | zero => exact .refl r
  | succ n ih => exact r.released_moored.trans (ih _)

theorem Departure.warm_moored (r : Departure) : r.Moored r.warm := .of_state rfl rfl rfl

/-- Every departure stays at its berth, and so does the current one of each berth. -/
structure State.Moored (s t : State) : Prop where
  berths : t.berths = s.berths
  dep : ∀ d, (s.dep d).Moored (t.dep d)

namespace State.Moored

theorem trans {s t u : State} (a : s.Moored t) (b : t.Moored u) : s.Moored u :=
  ⟨b.berths.trans a.berths, fun d => (a.dep d).trans (b.dep d)⟩

theorem setDep (s : State) (d : DepIx) {r : Departure} (h : (s.dep d).Moored r) : s.Moored (s.setDep d r) := by
  refine ⟨rfl, fun e => ?_⟩
  rw [State.setDep_dep]
  split
  · next he => exact he ▸ h
  · exact .refl _

end State.Moored

theorem State.Unmoved.moored {s t : State} (h : s.Unmoved t) : s.Moored t :=
  ⟨h.berths, fun d => by rw [h.dep]; exact .refl _⟩

theorem State.setLane_moored (s : State) (l : Lane) (p : LanePort) : s.Moored (s.setLane l p) :=
  ⟨rfl, fun d => .refl (s.dep d)⟩

theorem State.changeDep_moored (s : State) (d : DepIx) {r : Departure} (berth : r.berth = (s.dep d).berth)
    (followOn : r.followOn = (s.dep d).followOn) (state : r.state = (s.dep d).state) : s.Moored (s.changeDep d r) := by
  refine ⟨s.changeDep_berths d r, fun e => ?_⟩
  rw [State.changeDep_dep]
  split
  · next he =>
    subst he
    exact .of_state berth followOn state
  · exact .refl _

theorem State.release_moored (s : State) (d : DepIx) : s.Moored (s.release d) := by
  rw [s.release_eq]
  exact .setDep s d (s.dep d).released_moored

theorem State.commitOfCount_moored (s : State) (d : DepIx) (n : Nat) : s.Moored (s.commitOfCount d n) := by
  simp only [State.commitOfCount]
  split
  · exact (State.Unmoved.refl s).moored
  · exact .setDep s d (.of_state rfl rfl rfl)

/-- A departure on which a hold lands stays at its berth (R85, R86). -/
theorem State.landed_moored {s : State} {b : Berth} {x : DepIx} (target : s.holdTarget b = .ok x) :
    s.Moored (s.landed x) := by
  have before : (s.dep x).state = .scheduled ∨ (s.dep x).state = .boarding := by
    rcases State.holdTarget_ok target with ⟨h, _⟩ | ⟨h, _⟩ <;> simp [h]
  exact .trans (.setDep s x (.of_boarding (r' := (s.dep x).withHold) rfl rfl rfl before))
    (State.Unmoved.of_rest (s := s.setDep x (s.dep x).withHold) (t := s.landed x) rfl rfl rfl rfl).moored

/-- The engine at rest, or at work on something else, beside the same departures. -/
theorem State.Moored.engine {s t : State} (h : s.Moored t) (e : Engine) : s.Moored { t with engine := e } :=
  ⟨h.berths, h.dep⟩

theorem State.Moored.engineDone {s t : State} (h : s.Moored t) : s.Moored t.engineDone :=
  (h.engine .idle).trans (State.settle_unmoved _).moored

/-! ### Every step keeps current departures and follow-ons at their berths -/

/-- The stages of a decision move no departure from its berth, by induction on how many are run. -/
theorem runDecision_moored (n : Nat) (d : Decision) (s : State) : s.Moored (runDecision n d s) := by
  induction n generalizing d s with
  | zero => exact (State.Unmoved.refl s).moored
  | succ n ih =>
    unfold runDecision
    split
    · obtain ⟨u, e, ⟨_, h⟩ | ⟨v, x, _, h, rfl⟩ | ⟨p, v, _, _, h⟩⟩ := s.endDecision_cases d <;> rw [e]
      · exact h.moored.engineDone
      · exact (h.moored.trans (v.release_moored x)).engineDone
      · exact ((s.setLane_moored d.lane p).trans h.moored).engineDone
    · next going =>
      have stage := decisionStage_stage d s going
      have moored : s.Moored (decisionStage d s).2 := by
        generalize decisionStage d s = r at stage
        cases stage with
        | moves _ h => exact h.moored
        | lands x _ target => exact State.landed_moored target
        | releases _ _ _ _ _ => exact s.release_moored _
      exact (moored.engine _).trans (ih _ _)

/-- Nor do the stages of a commit. -/
theorem runCommit_moored (n : Nat) (c : Commit) (s : State) : s.Moored (runCommit n c s) := by
  induction n generalizing c s with
  | zero => exact (State.Unmoved.refl s).moored
  | succ n ih =>
    unfold runCommit
    split
    · obtain ⟨u, e, h⟩ := s.endCommit_cases c
      rw [e]
      exact ((s.setLane_moored c.lane _).trans h.moored).engineDone
    · have moored : s.Moored (commitStage c s).2 := by
        obtain ⟨_, _, ⟨v, _, _, e⟩ | ⟨h, _⟩⟩ := commitStage_cases c s
        · rw [e]
          exact s.commitOfCount_moored _ _
        · exact h.moored
      exact (moored.engine _).trans (ih _ _)

theorem State.endUnpassed_moored (s : State) (l : Lane) (answer : Answered) (expired : Bool) :
    s.Moored (s.endUnpassed l answer expired) := by
  obtain ⟨_, _, dep, _, _, rest⟩ := s.endUnpassed_ended l answer expired
  refine ⟨by rw [rest], fun d => ?_⟩
  rw [dep]
  split
  · exact (s.dep d).released_moored
  · exact .refl _

theorem State.secondEvent_moored (s : State) : s.Moored s.secondEvent := by
  obtain ⟨order, n, t, _, ticked, e⟩ := s.secondEvent_ticked
  rw [e]
  refine State.Moored.trans (t := t) ⟨by rw [ticked.rest], fun d => ?_⟩ t.countSecond_unmoved.moored
  rw [ticked.dep]
  exact Departure.released_iterate_moored _ _

/-- R82, R94 and R98 in the model's own terms. -/
theorem State.berthsLegal_iff (s : State) :
    s.BerthsLegal ↔ (∀ b d, s.berth b = some d → (s.dep d).berth = b ∧ (s.dep d).isOpen = true)
      ∧ ∀ d f, (s.dep d).followOn = some f →
        f ≠ d ∧ (s.dep d).state ≠ .empty ∧ (s.dep f).state ≠ .empty ∧ (s.dep f).berth = (s.dep d).berth := by
  simp only [State.BerthsLegal, Departure.isOpen_iff]

theorem State.Moored.keeps_berths {s t : State} (m : s.Moored t) (h : s.BerthsLegal) : t.BerthsLegal := by
  rw [State.berthsLegal_iff] at h ⊢
  obtain ⟨current, follow⟩ := h
  refine ⟨fun b d hb => ?_, fun d f hf => ?_⟩
  · rw [(m.dep d).berth, (m.dep d).isOpen]
    exact current b d (by simpa only [State.berth, m.berths] using hb)
  · simp only [ne_eq, (m.dep d).empty, (m.dep f).empty, (m.dep f).berth, (m.dep d).berth]
    exact follow d f ((m.dep d).followOn ▸ hf)

/-- A departure that no berth has as current and none names as follow-on may become any that names a follow-on of its
berth (R94). -/
theorem State.BerthsLegal.defined {s : State} (h : s.BerthsLegal) {d : DepIx} {r : Departure}
    (empty : (s.dep d).state = .empty) (state : r.state ≠ .empty) (fits : s.followOnOk r.berth r.followOn = true) :
    (s.setDep d r).BerthsLegal := by
  rw [State.berthsLegal_iff] at h ⊢
  obtain ⟨current, follow⟩ := h
  have named := (s.followOnOk_iff _ _).1 fits
  refine ⟨fun b e he => ?_, fun e f hf => ?_⟩
  · have legal := current b e he
    have other : e ≠ d := fun same => by simp [Departure.isOpen_iff, same, empty] at legal
    simpa [other] using legal
  · by_cases same : e = d
    · subst same
      obtain ⟨openNow, berth⟩ := named f (by simpa using hf)
      have other : f ≠ e := fun same => by simp [same, empty] at openNow
      refine ⟨other, by simpa using state, ?_, by simpa [other] using berth⟩
      rcases openNow with e | e <;> simp [other, e]
    · have legal := follow e f (by simpa [same] using hf)
      have other : f ≠ d := fun same => legal.2.2.1 (same ▸ empty)
      simpa [same, other] using legal

/-- A departure closed is the current one of no berth afterwards, and the follow-on that takes its place is
SCHEDULED or BOARDING there (R96). -/
theorem State.BerthsLegal.closeDep {s : State} (h : s.BerthsLegal) {d : DepIx} (openNow : (s.dep d).isOpen = true) :
    (s.closeDep d).BerthsLegal := by
  rw [State.berthsLegal_iff] at h ⊢
  obtain ⟨current, follow⟩ := h
  have dep : ∀ e, (s.closeDep d).dep e = if e = d then { s.dep d with state := .closed } else s.dep e :=
    fun e => s.setDep_dep d e _
  have berth : ∀ b, (s.closeDep d).berth b =
      if s.berth (s.dep d).berth = some d ∧ b = (s.dep d).berth then
        (s.dep d).followOn.filter fun f => f != d && (s.dep f).isOpen
      else s.berth b := fun b => by
    simp only [State.closeDep]
    by_cases here : s.berth (s.dep d).berth = some d
    · simp only [here, if_true, true_and]
      exact s.setBerth_berth _ b _
    · simp only [here, if_false, false_and]
      rfl
  refine ⟨fun b e he => ?_, fun e f hf => ?_⟩
  · rw [berth] at he
    split at he
    · next moved =>
      obtain ⟨followOn, other, boards⟩ : (s.dep d).followOn = some e ∧ e ≠ d ∧ (s.dep e).isOpen = true := by
        simpa [Option.filter_eq_some_iff] using he
      rw [dep, if_neg other]
      exact ⟨(follow d e followOn).2.2.2.trans moved.2.symm, boards⟩
    · next stays =>
      have legal := current b e he
      have other : e ≠ d := fun same => by
        subst same
        exact stays ⟨legal.1.symm ▸ he, legal.1.symm⟩
      rwa [dep, if_neg other]
  · have notEmpty : (s.dep d).state ≠ .empty := fun e => by simp [Departure.isOpen, e] at openNow
    have legal := follow e f (by rw [dep] at hf; split at hf <;> simp_all)
    rw [dep, dep]
    by_cases he : e = d <;> by_cases hf : f = d <;> simp_all

/-- A follow-on of the same berth may be named in place of another, or removed (R98). -/
theorem State.BerthsLegal.linked {s : State} (h : s.BerthsLegal) {d : DepIx} {f : Option DepIx}
    (openNow : (s.dep d).isOpen = true) (other : f ≠ some d) (fits : s.followOnOk (s.dep d).berth f = true) :
    (s.setDep d { s.dep d with followOn := f }).BerthsLegal := by
  rw [State.berthsLegal_iff] at h ⊢
  obtain ⟨current, follow⟩ := h
  have stays : ∀ e, ((s.setDep d { s.dep d with followOn := f }).dep e).berth = (s.dep e).berth
      ∧ ((s.setDep d { s.dep d with followOn := f }).dep e).state = (s.dep e).state := fun e => by
    rw [State.setDep_dep]
    split
    · next he => exact he ▸ ⟨rfl, rfl⟩
    · exact ⟨rfl, rfl⟩
  refine ⟨fun b e he => ?_, fun e g hg => ?_⟩
  · rw [Departure.isOpen, (stays e).1, (stays e).2]
    exact current b e he
  · rw [(stays e).1, (stays e).2, (stays g).1, (stays g).2]
    rw [State.setDep_dep] at hg
    split at hg
    · next he =>
      obtain ⟨boards, berth⟩ := (s.followOnOk_iff _ _).1 fits g hg
      rw [Departure.isOpen_iff] at openNow
      refine ⟨fun same => other (hg.trans (by rw [same, he])), ?_, ?_, he ▸ berth⟩
      · rw [he]
        rcases openNow with e | e <;> simp [e]
      · rcases boards with e | e <;> simp [e]
    · exact follow e g hg

/-- A CLOSED departure is the current one of no berth, and retired it is the follow-on of none (R100). -/
theorem State.BerthsLegal.retireDep {s : State} (h : s.BerthsLegal) {d : DepIx} (closed : (s.dep d).state = .closed) :
    (s.retireDep d).BerthsLegal := by
  rw [State.berthsLegal_iff] at h ⊢
  obtain ⟨current, follow⟩ := h
  have kept : ∀ e, e ≠ d → ((s.retireDep d).dep e).berth = (s.dep e).berth
      ∧ ((s.retireDep d).dep e).state = (s.dep e).state := fun e other => by
    rw [State.retireDep_dep, if_neg other, Departure.unlink]
    split <;> exact ⟨rfl, rfl⟩
  refine ⟨fun b e he => ?_, fun e f hf => ?_⟩
  · have legal := current b e he
    have other : e ≠ d := fun same => by simp [Departure.isOpen, same, closed] at legal
    rwa [Departure.isOpen, (kept e other).1, (kept e other).2]
  · have other : e ≠ d := fun same => by
      rw [same, State.retireDep_dep, if_pos rfl] at hf
      cases hf
    have named : (s.dep e).followOn = some f ∧ f ≠ d := by
      rw [State.retireDep_dep, if_neg other, Departure.unlink] at hf
      split at hf
      · cases hf
      · next unlinked => exact ⟨hf, fun same => unlinked (same ▸ hf)⟩
    rw [(kept e other).1, (kept e other).2, (kept f named.2).1, (kept f named.2).2]
    exact follow e f named.1

/-- A berth's current departure set to one of its own that is SCHEDULED or BOARDING, or removed (R101). -/
theorem State.BerthsLegal.setBerth {s : State} (h : s.BerthsLegal) {b : Berth} {x : Option DepIx}
    (fits : ∀ d, x = some d → (s.dep d).berth = b ∧ (s.dep d).isOpen = true) : (s.setBerth b x).BerthsLegal := by
  rw [State.berthsLegal_iff] at h ⊢
  obtain ⟨current, follow⟩ := h
  refine ⟨fun a d hd => ?_, follow⟩
  rw [State.setBerth_berth] at hd
  split at hd
  · next same => exact same ▸ fits d hd
  · exact current a d hd

/-- Berths without a current departure, and departures without a follow-on. -/
theorem State.berthsLegal_of_none {t : State} (berth : ∀ b, t.berth b = none) (dep : ∀ d, (t.dep d).followOn = none) :
    t.BerthsLegal :=
  ⟨fun b d h => (by simp [berth] at h), fun d f h => (by simp [dep] at h)⟩

/-- A warm reset keeps the departures at their berths, or makes them EMPTY (R103, R187). -/
theorem State.warmReset_berths {s : State} (h : s.BerthsLegal) : s.warmReset.BerthsLegal := by
  unfold State.warmReset
  split
  · refine State.Moored.keeps_berths (s := s) ⟨rfl, fun d => ?_⟩ h
    simp only [State.dep, Fin.getElem_fin, Vector.getElem_map]
    exact s.departures[d.val].warm_moored
  · exact State.berthsLegal_of_none (fun b => by simp [State.berth]) fun d => by simp [State.dep, Departure.reset]

theorem State.Commanded.keeps_berths {s t : State} (c : s.Commanded t) (h : s.BerthsLegal) : t.BerthsLegal := by
  cases c with
  | unmoved u => exact u.moored.keeps_berths h
  | defined d b r tag cap margin f auto _ empty fits => exact h.defined empty nofun fits
  | opened d scheduled =>
    refine (State.Moored.setDep s d ?_).keeps_berths h
    exact .of_boarding rfl rfl rfl (.inl scheduled)
  | closed d openNow => exact h.closeDep openNow
  | resized d cap margin _ _ _ =>
    refine State.Moored.keeps_berths (s := s) ?_ h
    exact s.changeDep_moored d rfl rfl rfl
  | linked d f openNow other fits => exact h.linked openNow other fits
  | retired d closed _ => exact h.retireDep closed
  | current b x fits => exact h.setBerth fits
  | started g _ u =>
    refine u.moored.keeps_berths (State.berthsLegal_of_none (fun b => ?_) fun d => ?_)
    · simp [State.berth, State.started]
    · simp [State.dep, State.started, Departure.reset]
  | warmReset => exact State.warmReset_berths h

theorem State.PierStep.keeps_berths {s t : State} (p : s.PierStep t) (h : s.BerthsLegal) : t.BerthsLegal := by
  cases p with
  | ordered o =>
    obtain ⟨k, u, commanded, rest⟩ := o
    exact rest.moored.keeps_berths (commanded.keeps_berths h)
  | warmReset => exact State.warmReset_berths (s := { s with resetLine := true }) h
  | coldReset =>
    exact State.berthsLegal_of_none (fun b => by simp [State.berth, State.reset]) fun d => by
      simp [State.dep, State.reset, Departure.reset]
  | unpassed l answer expired u _ => exact (u.moored.trans (State.endUnpassed_moored _ l answer expired)).keeps_berths h
  | secondEvent => exact s.secondEvent_moored.keeps_berths h
  | decides n _ => exact (runDecision_moored n _ s).keeps_berths h
  | commits n _ => exact (runCommit_moored n _ s).keeps_berths h

/-- Settles O55: only the host's departure commands, START and the resets move a departure or a current, and each
of them checks what the law asks for. -/
theorem stepKeepsBerthsLegal : Obligations.StepKeepsBerthsLegal := by
  unfold Obligations.StepKeepsBerthsLegal
  intro s t h stepped
  obtain ⟨rest, p⟩ := step_pierStep s t stepped
  exact p.keeps_berths h

end Sys2Proof.Machine
end

section
namespace Sys2Proof.Machine

/-! ### Departures within their ranges (R81, R91) -/

/-- The ranges of a departure that is not EMPTY (R81, R91). -/
structure Departure.InUse (r : Departure) : Prop where
  state : r.state ≠ .empty
  least : 1 ≤ r.capacity
  most : r.capacity ≤ 400
  margin : r.margin ≤ r.capacity
  places : r.boarded + r.held ≤ r.capacity
  takings : r.takings ≤ 4294967295
  armed : r.margin < r.remaining → r.armed = true
  scheduled : r.state = .scheduled → r.boarded = 0 ∧ r.held = 0

theorem Departure.legal_iff (r : Departure) : r.Legal ↔ r = .reset ∨ r.InUse := by
  refine or_congr_right ⟨fun ⟨state, least, most, margin, places, takings, armed, scheduled⟩ =>
    ⟨state, least, most, margin, places, takings, armed, scheduled⟩, fun h =>
    ⟨h.state, h.least, h.most, h.margin, h.places, h.takings, h.armed, h.scheduled⟩⟩

theorem Departure.InUse.legal {r : Departure} (h : r.InUse) : r.Legal := r.legal_iff.2 (.inr h)

/-- A departure in use that takes another state than EMPTY and SCHEDULED, or another follow-on, stays in its ranges. -/
theorem Departure.InUse.moves {r : Departure} (h : r.InUse) {v : DepState} (state : v ≠ .empty)
    (scheduled : v ≠ .scheduled) : Departure.Legal { r with state := v } :=
  Departure.InUse.legal ⟨state, h.least, h.most, h.margin, h.places, h.takings, h.armed, fun e => absurd e scheduled⟩

theorem Departure.InUse.links {r : Departure} (h : r.InUse) (f : Option DepIx) :
    Departure.Legal { r with followOn := f } :=
  Departure.InUse.legal ⟨h.state, h.least, h.most, h.margin, h.places, h.takings, h.armed, h.scheduled⟩

theorem Departure.reset_legal : Departure.reset.Legal := .inl rfl

/-- A legal departure that is not EMPTY is in use. -/
theorem Departure.Legal.inUse {r : Departure} (h : r.Legal) (state : r.state ≠ .empty) : r.InUse :=
  (r.legal_iff.1 h).resolve_left fun e => state (e ▸ rfl)

/-- A legal EMPTY departure holds its reset values. -/
theorem Departure.Legal.eq_reset {r : Departure} (h : r.Legal) (state : r.state = .empty) : r = .reset :=
  (r.legal_iff.1 h).resolve_right fun u => u.state state

/-- A departure with a place held is in use, and not SCHEDULED. -/
theorem Departure.Legal.of_held {r : Departure} (h : r.Legal) (held : 1 ≤ r.held) : r.InUse ∧ r.state ≠ .scheduled := by
  have used : r.InUse := (r.legal_iff.1 h).resolve_left fun e => by
    rw [e] at held
    cases held
  exact ⟨used, fun s => by have := (used.scheduled s).2; omega⟩

/-- A release keeps a departure legal and lowers held, where it is above 0 (R88, R91). -/
theorem Departure.Legal.released {r : Departure} (h : r.Legal) : r.released.Legal ∧ r.released.held = r.held - 1 := by
  by_cases state : r.state = .empty
  · rw [h.eq_reset state]
    exact ⟨Departure.reset_legal, rfl⟩
  · have used := h.inUse state
    have places := used.places
    rw [Departure.released, if_neg state]
    refine ⟨Departure.InUse.legal ⟨state, used.least, used.most, used.margin, ?_, used.takings, fun above => ?_,
      fun s => ?_⟩, rfl⟩
    · simp only
      omega
    · simp only [Departure.remaining] at above
      simp [above]
    · obtain ⟨boarded, held⟩ := used.scheduled s
      exact ⟨boarded, by simp [held]⟩

theorem Departure.Legal.released_iterate {r : Departure} (h : r.Legal) (n : Nat) :
    (Departure.released^[n] r).Legal ∧ (Departure.released^[n] r).held = r.held - n := by
  induction n generalizing r with
  | zero => exact ⟨h, rfl⟩
  | succ n ih =>
    obtain ⟨legal, held⟩ := h.released
    rw [Function.iterate_succ_apply]
    exact ⟨(ih legal).1, by rw [(ih legal).2, held]; omega⟩

/-- A hold that lands finds a place, on a BOARDING departure by its remaining and on a SCHEDULED one since nothing is
boarded or held there (R85, R86). -/
theorem Departure.Legal.withHold {r : Departure} (h : r.Legal)
    (target : r.state = .boarding ∧ 0 < r.remaining ∨ r.state = .scheduled ∧ r.autoStart = true) :
    r.withHold.Legal := by
  have used : r.InUse := h.inUse fun e => by simp [e] at target
  have place : r.boarded + r.held + 1 ≤ r.capacity := by
    rcases target with ⟨_, left⟩ | ⟨s, _⟩
    · unfold Departure.remaining at left
      omega
    · have least := used.least
      have none := used.scheduled s
      omega
  refine Departure.InUse.legal ⟨nofun, used.least, used.most, used.margin, ?_, used.takings, fun above => ?_, nofun⟩
  · simp only [Departure.withHold_boarded, Departure.withHold_held, Departure.withHold_capacity]
    omega
  · rw [Departure.withHold_eq] at above ⊢
    exact armedAfter_of_above _ above

/-- A passenger counted takes the place held (R90). -/
theorem Departure.Legal.counted {r : Departure} (h : r.Legal) (held : 1 ≤ r.held) (charge : Nat) :
    Departure.Legal { r with
      held := r.held - 1, boarded := r.boarded + 1, takings := min (r.takings + charge) 4294967295 } := by
  obtain ⟨used, boarding⟩ := h.of_held held
  have places := used.places
  refine Departure.InUse.legal ⟨used.state, used.least, used.most, used.margin, ?_, min_le_right _ _, fun above => ?_,
    fun s => absurd s boarding⟩
  · simp only
    omega
  · refine used.armed ?_
    simp only [Departure.remaining] at above ⊢
    omega

/-! ### Holds counted (R89) -/

namespace State.HoldsCounted

theorem legal {s : State} (h : s.HoldsCounted) (d : DepIx) : (s.dep d).Legal := (h d).1
theorem held {s : State} (h : s.HoldsCounted) (d : DepIx) : (s.dep d).held = s.outstanding d := (h d).2

/-- Departures that stay legal, with held as it was beside the same holds. -/
theorem congr {s t : State} (h : s.HoldsCounted) (legal : ∀ d, (t.dep d).Legal)
    (held : ∀ d, (t.dep d).held = (s.dep d).held) (outstanding : ∀ d, t.outstanding d = s.outstanding d) :
    t.HoldsCounted := fun d => ⟨legal d, by rw [held, h.held, outstanding]⟩

/-- Departures that have released as many holds as are outstanding no more. -/
theorem released {s t : State} (h : s.HoldsCounted) (n : DepIx → Nat)
    (dep : ∀ d, t.dep d = Departure.released^[n d] (s.dep d))
    (outstanding : ∀ d, t.outstanding d + n d = s.outstanding d) : t.HoldsCounted := fun d => by
  obtain ⟨legal, held⟩ := (h.legal d).released_iterate (n d)
  refine ⟨dep d ▸ legal, ?_⟩
  rw [dep, held, h.held]
  have := outstanding d
  omega

theorem unmoved {s t : State} (h : s.HoldsCounted) (u : s.Unmoved t) : t.HoldsCounted :=
  h.congr (fun d => u.dep d ▸ h.legal d) (fun d => by rw [u.dep]) u.outstanding

/-- One departure written, legal and with held as it was. -/
theorem setDep {s : State} (h : s.HoldsCounted) (d : DepIx) {r : Departure} (legal : r.Legal)
    (held : r.held = (s.dep d).held) : (s.setDep d r).HoldsCounted := by
  refine h.congr (fun e => ?_) (fun e => ?_) fun e => rfl
  · rw [State.setDep_dep]
    split
    · exact legal
    · exact h.legal e
  · rw [State.setDep_dep]
    split
    · next he => exact he ▸ held
    · rfl

end State.HoldsCounted

/-- Without an open verdict or a decision that owns a hold, none is outstanding. -/
theorem State.outstanding_eq_zero {t : State} (verdict : ∀ l, (t.lane l).openVerdict = none)
    (owned : t.engine.owned = none) (d : DepIx) : t.outstanding d = 0 := by
  simp [State.outstanding_eq, State.laneHolds_eq, LanePort.names, verdict, owned]

/-- Holds of twelve lanes, split into those that remain and those that are gone. -/
theorem countP_split {p q g : Lane → Bool} (h : ∀ l, p l = (q l || g l)) (apart : ∀ l, q l = true → g l = false)
    (ls : List Lane) : ls.countP q + ls.countP g = ls.countP p := by
  induction ls with
  | nil => rfl
  | cons l ls ih =>
    simp only [List.countP_cons, h l, ← ih]
    have := apart l
    cases hq : q l <;> cases hg : g l <;> simp_all <;> omega

/-- Of the twelve lanes one is the one named. -/
theorem countP_one (l : Lane) (b : Bool) :
    ((List.finRange 12).countP fun k => decide (k = l) && b) = if b = true then 1 else 0 := by
  cases b with
  | false => simp
  | true =>
    have once : (List.finRange 12).count l = 1 :=
      List.count_eq_one_of_mem (List.nodup_finRange 12) (List.mem_finRange l)
    simpa only [List.count, Bool.and_true, if_true, beq_eq_decide] using once

end Sys2Proof.Machine
end

section
namespace Sys2Proof.Machine

/-! ### What the holds outstanding rest on (R106, R129, R142, R184) -/

/-- The part of coherence that the account of the holds rests on: a decision in service has what its stage needs, at
a lane without an open verdict; no passenger is counted at an AWAITING lane; and where START may be taken no decision
is in service. -/
structure State.Footing (s : State) : Prop where
  decision : ∀ d, s.engine = .deciding d → d.Coherent ∧ (s.lane d.lane).openVerdict = none
  awaiting : ∀ l, (s.lane l).state = .awaiting → s.engine.counts ≠ some l
  idle : s.service = .unstarted ∨ s.service = .resumable ∨ s.service = .halted → s.engine.owned = none

/-- The lane whose passenger is counted is the one that the commit in service serves. -/
theorem Engine.commit_of_counts {e : Engine} {l : Lane} (h : e.counts = some l) : e.commit.map (·.lane) = some l := by
  unfold Engine.counts at h
  cases hc : e.commit with
  | none => simp [hc] at h
  | some c => simp_all [Option.filter]

theorem State.Coherent.footing {s : State} (h : s.Coherent) : s.Footing := by
  obtain ⟨lanes, _, deciding, _, committing, decision, _, _, _, _, _, _, _, halted, _, out⟩ := h
  have atLane : ∀ d, s.engine = .deciding d → (s.lane d.lane).state = .deciding := fun d e =>
    (deciding d.lane).2 (by rw [e]; rfl)
  refine ⟨fun d e => ⟨decision d e, ?_⟩, fun l awaiting counts => ?_, fun service => ?_⟩
  · have verdict := (lanes d.lane).2.1
    rw [atLane d e] at verdict
    simpa using verdict
  · have state := committing l (Engine.commit_of_counts counts)
    rw [awaiting] at state
    cases state
  · cases e : s.engine with
    | deciding d =>
      exfalso
      have inHand : (s.lane d.lane).inHand = true := by simp [LanePort.inHand, atLane d e]
      rcases service with v | v | v
      · have down := out (by simp [State.inService, v]) d.lane
        rw [atLane d e] at down
        cases down
      · have down := out (by simp [State.inService, v]) d.lane
        rw [atLane d e] at down
        cases down
      · have none := s.lanesInHand_eq_zero_iff.1 (halted v) d.lane
        rw [inHand] at none
        cases none
    | idle => rfl
    | committing c => rfl
    | host x => rfl
    | clearing n => rfl

/-! ### The host's commands (R94 to R101, R187, R189) -/

theorem Departure.Legal.fresh {b : Berth} {r : RouteClass} {tag cap margin : Word} {f : Option DepIx} {auto : Bool}
    (ranges : 1 ≤ cap.toNat ∧ cap.toNat ≤ 400 ∧ margin.toNat ≤ cap.toNat) :
    (Departure.fresh b r tag cap margin f auto).Legal :=
  Departure.InUse.legal ⟨nofun, ranges.1, ranges.2.1, ranges.2.2, Nat.zero_le _, Nat.zero_le _, fun _ => rfl,
    fun _ => ⟨rfl, rfl⟩⟩

theorem Departure.isOpen_not_empty {r : Departure} (h : r.isOpen = true) : r.state ≠ .empty := fun e => by
  simp [Departure.isOpen, e] at h

/-- Capacity and margin written to a departure that has room for what is boarded and held (R97). -/
theorem Departure.Legal.resized {r : Departure} (h : r.Legal) {cap margin : Nat}
    (ranges : 1 ≤ cap ∧ cap ≤ 400 ∧ margin ≤ cap) (openNow : r.isOpen = true) (within : r.boarded + r.held ≤ cap) :
    Departure.Legal { r with
      capacity := cap, margin := margin
      armed := armedAfter r { r with capacity := cap, margin := margin } } := by
  have used := h.inUse (Departure.isOpen_not_empty openNow)
  exact Departure.InUse.legal ⟨used.state, ranges.1, ranges.2.1, ranges.2.2, within, used.takings,
    fun above => armedAfter_of_above r above, used.scheduled⟩

/-- A departure loses a follow-on that is retired, and nothing else (R100). -/
theorem Departure.Legal.unlink {r : Departure} (h : r.Legal) (gone : DepIx) : (r.unlink gone).Legal := by
  unfold Departure.unlink
  split
  · next named =>
    have used : r.InUse := (r.legal_iff.1 h).resolve_left fun e => by
      rw [e] at named
      cases named
    exact used.links none
  · exact h

theorem Departure.unlink_held (r : Departure) (gone : DepIx) : (r.unlink gone).held = r.held := by
  unfold Departure.unlink
  split <;> rfl

/-- A warm reset takes every hold off a departure, and arms its report where remaining then lies above the margin
(R103). -/
theorem Departure.Legal.warm {r : Departure} (h : r.Legal) : r.warm.Legal ∧ r.warm.held = 0 := by
  refine ⟨?_, rfl⟩
  rcases r.legal_iff.1 h with e | used
  · rw [e]
    exact .inl rfl
  · have places := used.places
    refine Departure.InUse.legal ⟨used.state, used.least, used.most, used.margin, ?_, used.takings, fun above => ?_,
      fun s => ⟨(used.scheduled s).1, rfl⟩⟩
    · simp only [Departure.warm]
      omega
    · exact if_pos above

/-- Legal departures on which nothing is held, beside no hold outstanding. -/
theorem State.holdsCounted_of_none {t : State} (legal : ∀ d, (t.dep d).Legal) (held : ∀ d, (t.dep d).held = 0)
    (verdict : ∀ l, (t.lane l).openVerdict = none) (owned : t.engine.owned = none) : t.HoldsCounted := fun d =>
  ⟨legal d, by rw [held, State.outstanding_eq_zero verdict owned]⟩

theorem State.warmReset_holds {s : State} (h : s.HoldsCounted) : s.warmReset.HoldsCounted := by
  have lanes : ∀ l : Lane, (s.warmReset.lane l).openVerdict = none := fun l => by
    unfold State.warmReset
    split <;> simp [State.lane, State.warmCommon, LanePort.reset]
  have owned : s.warmReset.engine.owned = none := by
    unfold State.warmReset
    split <;> rfl
  have warm : ∀ d, s.warmReset.dep d = (s.dep d).warm ∨ s.warmReset.dep d = .reset := fun d => by
    unfold State.warmReset
    split
    · exact .inl (by simp [State.dep])
    · exact .inr (by simp [State.dep])
  refine State.holdsCounted_of_none (fun d => ?_) (fun d => ?_) lanes owned
  · rcases warm d with e | e <;> rw [e]
    · exact (h.legal d).warm.1
    · exact Departure.reset_legal
  · rcases warm d with e | e <;> rw [e]
    · exact (h.legal d).warm.2
    · rfl

theorem State.Commanded.keeps_holds {s t : State} (c : s.Commanded t) (f : s.Footing) (h : s.HoldsCounted) :
    t.HoldsCounted := by
  cases c with
  | unmoved u => exact h.unmoved u
  | defined d b r tag cap margin f auto ranges empty _ =>
    refine h.setDep d (.fresh ranges) ?_
    rw [(h.legal d).eq_reset empty]
    rfl
  | opened d scheduled =>
    exact h.setDep d (((h.legal d).inUse (by simp [scheduled])).moves nofun nofun) rfl
  | closed d openNow =>
    have used := (h.legal d).inUse (Departure.isOpen_not_empty openNow)
    exact h.setDep d (used.moves (v := .closed) nofun nofun) rfl
  | resized d cap margin ranges openNow within =>
    rw [State.changeDep_eq]
    exact h.setDep d ((h.legal d).resized ranges openNow within) rfl
  | linked d f openNow _ _ =>
    exact h.setDep d (((h.legal d).inUse (Departure.isOpen_not_empty openNow)).links f) rfl
  | retired d closed empty =>
    refine h.congr (fun e => ?_) (fun e => ?_) fun e => rfl
    · rw [State.retireDep_dep]
      split
      · exact Departure.reset_legal
      · exact (h.legal e).unlink d
    · rw [State.retireDep_dep]
      split
      · next same => exact same ▸ empty.symm
      · exact (s.dep e).unlink_held d
  | current b x _ => exact h
  | started g service u =>
    have cleared : (s.started g).HoldsCounted := State.holdsCounted_of_none
      (fun d => by simpa [State.dep, State.started] using Departure.reset_legal)
      (fun d => by simp [State.dep, State.started, Departure.reset])
      (fun l => by simp [State.lane, State.started, LanePort.atStart]) (f.idle service)
    exact cleared.unmoved u
  | warmReset => exact State.warmReset_holds h

end Sys2Proof.Machine
end

section
namespace Sys2Proof.Machine

/-! ### Passages that do not take place (R88, R110, R113) -/

/-- Lanes whose open verdicts have ended, none with its passenger counted, and the departures that they named
released once for each. -/
theorem State.HoldsCounted.ended {s t : State} (h : s.HoldsCounted) (gone : Lane → Bool)
    (engine : t.engine = s.engine) (uncounted : ∀ l, gone l = true → s.engine.counts ≠ some l)
    (verdict : ∀ l, (t.lane l).openVerdict = if gone l = true then none else (s.lane l).openVerdict)
    (dep : ∀ d, t.dep d =
      Departure.released^[(List.finRange 12).countP fun l => gone l && (s.lane l).names d] (s.dep d)) :
    t.HoldsCounted := by
  refine h.released _ dep fun d => ?_
  have names : ∀ l, (t.lane l).names d = (!gone l && (s.lane l).names d) := fun l => by
    unfold LanePort.names
    rw [verdict]
    cases gone l <;> simp
  have holds : ∀ l, s.laneHolds d l = (t.laneHolds d l || (gone l && (s.lane l).names d)) := fun l => by
    rw [State.laneHolds_eq, State.laneHolds_eq, names, engine]
    have := uncounted l
    cases hg : gone l <;> simp_all
  have apart : ∀ l, t.laneHolds d l = true → (gone l && (s.lane l).names d) = false := fun l hold => by
    rw [State.laneHolds_eq, names] at hold
    cases hg : gone l <;> simp_all
  have split := countP_split holds apart (List.finRange 12)
  rw [State.outstanding_eq, State.outstanding_eq, engine]
  exact (Nat.add_right_comm _ _ _).trans (congrArg (· + _) split)

/-- An open verdict ended without a passage, at a lane whose passenger is not counted. -/
theorem State.endUnpassed_holds {s : State} (h : s.HoldsCounted) {l : Lane} (uncounted : s.engine.counts ≠ some l)
    (answer : Answered) (expired : Bool) : (s.endUnpassed l answer expired).HoldsCounted := by
  obtain ⟨lane, others, dep, _, _, rest⟩ := s.endUnpassed_ended l answer expired
  refine h.ended (fun k => decide (k = l)) (by rw [rest]) (fun k hk => ?_) (fun k => ?_) fun d => ?_
  · rwa [of_decide_eq_true hk]
  · by_cases hk : k = l
    · rw [hk, lane]
      simp [LanePort.ended]
    · rw [others k hk]
      simp [hk]
  · have one : ((List.finRange 12).countP fun k => decide (k = l) && (s.lane k).names d) =
        if (s.lane l).names d = true then 1 else 0 := by
      rw [← countP_one l]
      exact List.countP_congr fun k _ => by by_cases hk : k = l <;> simp [hk]
    rw [dep, one]
    split <;> rfl

/-- A second event ends the open verdicts of the AWAITING lanes whose timers expire (R112, R113). -/
theorem State.secondEvent_holds {s : State} (f : s.Footing) (h : s.HoldsCounted) : s.secondEvent.HoldsCounted := by
  obtain ⟨order, n, t, perm, ticked, e⟩ := s.secondEvent_ticked
  have all : ∀ l, l ∈ order := fun l => perm.mem_iff.2 (List.mem_finRange l)
  rw [e]
  refine State.HoldsCounted.unmoved (s := t) ?_ t.countSecond_unmoved
  refine h.ended (fun l => (s.lane l).expires) (by rw [ticked.rest]) (fun l expires => ?_) (fun l => ?_) fun d => ?_
  · exact f.awaiting l ((s.lane l).expires_iff.1 expires).1
  · rw [ticked.lane, if_pos (all l)]
    change (s.lane l).ticked.openVerdict = _
    rw [LanePort.ticked_eq]
    change (s.lane l).timed.openVerdict = _
    unfold LanePort.timed
    split
    · rfl
    · split <;> rfl
  · rw [ticked.dep, perm.countP_eq]
    rfl

/-! ### The tap decision (R142, R143, R145) -/

/-- With another engine beside it the lanes hold what they held where no other passenger is counted. -/
theorem State.outstanding_engine (s : State) (e : Engine) (counts : e.counts = s.engine.counts) (d : DepIx) :
    State.outstanding { s with engine := e } d + (if s.engine.owned = some d then 1 else 0) =
      s.outstanding d + if e.owned = some d then 1 else 0 := by
  have holds : ∀ l, State.laneHolds { s with engine := e } d l = s.laneHolds d l := fun l => by
    simp only [State.laneHolds_eq, counts]
    rfl
  simp only [State.outstanding_eq, holds]
  omega

/-- The hold of the decision in service released (R88, R143, R145). -/
theorem State.release_holds {s : State} (h : s.HoldsCounted) {x : DepIx} (owned : s.engine.owned = some x) {e : Engine}
    (free : e.owned = none) (counts : e.counts = s.engine.counts) :
    State.HoldsCounted { s.release x with engine := e } := by
  have lanes : ∀ d, State.outstanding { s.release x with engine := e } d
      = State.outstanding { s with engine := e } d := by
    rw [s.release_eq]
    exact fun _ => rfl
  refine h.released (fun d => if d = x then 1 else 0) (fun d => ?_) fun d => ?_
  · rw [s.release_eq]
    refine (s.setDep_dep x d _).trans ?_
    split
    · next same => rw [same]; rfl
    · rfl
  · have account := s.outstanding_engine e counts d
    simp only [owned, free, reduceCtorEq, if_false, Nat.add_zero, Option.some.injEq] at account
    simpa only [lanes, eq_comm (a := d)] using account

/-- A hold landed on a departure, for the decision in service (R142). -/
theorem State.landed_holds {s : State} (h : s.HoldsCounted) {b : Berth} {x : DepIx} (target : s.holdTarget b = .ok x)
    (free : s.engine.owned = none) {e : Engine} (owned : e.owned = some x) (counts : e.counts = s.engine.counts) :
    State.HoldsCounted { s.landed x with engine := e } := fun d => by
  have dep : State.dep { s.landed x with engine := e } d = if d = x then (s.dep x).withHold else s.dep d :=
    s.setDep_dep x d _
  have account : State.outstanding { s.landed x with engine := e } d = s.outstanding d + if x = d then 1 else 0 := by
    have account := s.outstanding_engine e counts d
    simp only [owned, free, reduceCtorEq, if_false, Nat.add_zero, Option.some.injEq] at account
    exact account
  rw [dep, account]
  split
  · next same => exact ⟨(h.legal x).withHold (State.holdTarget_ok target), by simp [same, h.held]⟩
  · next other => exact ⟨h.legal d, by simp [Ne.symm other, h.held]⟩

/-- An open verdict stored at a lane that had none takes the hold over from the decision (R116, R145). -/
theorem State.opened_holds {s : State} (h : s.HoldsCounted) {l : Lane} {p : LanePort} {v : OpenVerdict}
    (owned : s.engine.owned = some v.departure) (uncounted : s.engine.counts = none)
    (empty : (s.lane l).openVerdict = none) (verdict : p.openVerdict = some v) :
    State.HoldsCounted { s.setLane l p with engine := .idle } := by
  refine h.congr h.legal (fun _ => rfl) fun d => ?_
  have lane : ∀ k, State.laneHolds { s.setLane l p with engine := .idle } d k =
      (s.laneHolds d k || (decide (k = l) && decide (v.departure = d))) := fun k => by
    have read : State.lane { s.setLane l p with engine := .idle } k = if k = l then p else s.lane k :=
      s.setLane_lane l k p
    rw [State.laneHolds_eq, State.laneHolds_eq, read, uncounted]
    by_cases hk : k = l
    · simp [hk, LanePort.names, verdict, empty, Engine.counts, Engine.commit, beq_eq_decide]
    · simp [hk, Engine.counts, Engine.commit]
  have apart : ∀ k, s.laneHolds d k = true → (decide (k = l) && decide (v.departure = d)) = false := fun k hold => by
    by_cases hk : k = l
    · simp [State.laneHolds_eq, hk, LanePort.names, empty] at hold
    · simp [hk]
  have split := countP_split lane apart (List.finRange 12)
  rw [countP_one] at split
  rw [State.outstanding_eq, State.outstanding_eq, owned, ← split]
  simp [Engine.owned, Engine.decision]

/-- One stage of a coherent decision keeps the holds counted, with the engine that carries what it made of it, and
leaves a coherent decision at the same lane. -/
theorem Decision.Stage.keeps_holds {d d' : Decision} {s t : State} (stage : d.Stage s (d', t))
    (he : s.engine = .deciding d) (coherent : d.Coherent) (h : s.HoldsCounted) :
    State.HoldsCounted { t with engine := .deciding d' } ∧ d'.Coherent
      ∧ (t.lane d'.lane).openVerdict = (s.lane d.lane).openVerdict := by
  have counts : s.engine.counts = none := by rw [he]; rfl
  have owned : s.engine.owned = d.owned := by rw [he]; rfl
  cases stage with
  | moves m u =>
    refine ⟨h.unmoved ⟨u.departures, u.berths, u.verdict, ?_, counts.symm⟩, m.coherent coherent, ?_⟩
    · exact (m.owned coherent).trans owned.symm
    · rw [m.lane, u.verdict]
  | lands x stage target =>
    have running := coherent.running (by simp [stage])
    have free := coherent.owned_none (by simp [stage]) (by simp [stage]) (by simp [stage])
    refine ⟨State.landed_holds h target (owned.trans free) ?_ counts.symm, ?_, rfl⟩
    · simp [Engine.owned, Engine.decision, Decision.owned, running, State.particulars]
    · have record := ((Decision.coherent_iff running).1 coherent).1
      refine (Decision.coherent_iff (by simpa using running)).2 ⟨?_, by simp⟩
      simpa [stage] using record
  | @releases d' x stage hold lane refusal ended =>
    have running := coherent.running (by simp [stage])
    refine ⟨State.release_holds h (x := x.departure) (owned.trans ?_) (Decision.owned_of_refused refusal) counts.symm,
      Decision.coherent_of_refused refusal ended, ?_⟩
    · simp [Decision.owned, running, hold]
    · rw [lane, s.release_eq]
      rfl

/-- The end of a decision keeps the holds counted, at a lane without an open verdict. -/
theorem State.endDecision_holds {s : State} {d : Decision} (he : s.engine = .deciding d)
    (empty : (s.lane d.lane).openVerdict = none) (h : s.HoldsCounted) : (s.endDecision d).HoldsCounted := by
  have counts : s.engine.counts = none := by rw [he]; rfl
  have owned : s.engine.owned = d.owned := by rw [he]; rfl
  obtain ⟨u, e, ⟨free, still⟩ | ⟨v, x, holds, still, rfl⟩ | ⟨p, v, holds, verdict, still⟩⟩ := s.endDecision_cases d <;>
    rw [e]
  · exact (h.unmoved still).unmoved (State.engineDone_unmoved u (still.owned.trans (owned.trans free))
      (still.counts.trans counts))
  · have released : State.HoldsCounted { v.release x with engine := .idle } :=
      State.release_holds (h.unmoved still) (still.owned.trans (owned.trans holds)) rfl (still.counts.trans counts).symm
    exact released.unmoved (State.settle_unmoved _)
  · have opened := State.opened_holds h (owned.trans holds) counts empty verdict
    exact (opened.unmoved (still.withEngine rfl rfl)).unmoved (State.settle_unmoved _)

/-- The stages of a coherent decision keep the holds counted, by induction on how many are run. -/
theorem runDecision_holds (n : Nat) {d : Decision} {s : State} (he : s.engine = .deciding d) (coherent : d.Coherent)
    (empty : (s.lane d.lane).openVerdict = none) (h : s.HoldsCounted) : (runDecision n d s).HoldsCounted := by
  induction n generalizing d s with
  | zero => exact h
  | succ n ih =>
    unfold runDecision
    split
    · exact State.endDecision_holds he empty h
    · next going =>
      obtain ⟨held, next, verdict⟩ := (decisionStage_stage d s going).keeps_holds he coherent h
      exact ih rfl next (verdict.trans empty) held

/-! ### The commit (R90, R150, R152) -/

/-- Lanes that hold what they held, beside an engine that owns the same hold. -/
theorem State.outstanding_congr {s t : State} {d : DepIx} (lanes : ∀ l, t.laneHolds d l = s.laneHolds d l)
    (owned : t.engine.owned = s.engine.owned) : t.outstanding d = s.outstanding d := by
  simp only [State.outstanding_eq, lanes, owned]

theorem Engine.counts_committing {c : Commit} (h : c.stage ≠ .count) : (Engine.committing c).counts = some c.lane := by
  simp [Engine.counts, Engine.commit, Option.filter, h]

theorem Engine.counts_first {c : Commit} (h : c.stage = .count) : (Engine.committing c).counts = none := by
  simp [Engine.counts, Engine.commit, Option.filter, h]

/-- Once its passenger is counted, the open verdict of a lane stands for no hold (R150). -/
theorem State.counted_outstanding {s : State} {c c' : Commit} (he : s.engine = .committing c) (stage : c.stage = .count)
    {v : OpenVerdict} (verdict : (s.lane c.lane).openVerdict = some v) (lane : c'.lane = c.lane)
    (later : c'.stage ≠ .count) (d : DepIx) :
    State.outstanding { s with engine := .committing c' } d + (if v.departure = d then 1 else 0) = s.outstanding d := by
  have before : s.engine.counts = none := by rw [he, Engine.counts_first stage]
  have after : (Engine.committing c').counts = some c.lane := by rw [Engine.counts_committing later, lane]
  have holds : ∀ k, s.laneHolds d k = (State.laneHolds { s with engine := .committing c' } d k
      || (decide (k = c.lane) && decide (v.departure = d))) := fun k => by
    have read : State.lane { s with engine := .committing c' } k = s.lane k := rfl
    rw [State.laneHolds_eq, State.laneHolds_eq, read, before, after]
    by_cases hk : k = c.lane
    · simp [hk, LanePort.names, verdict, beq_eq_decide]
    · simp [hk, Ne.symm hk]
  have apart : ∀ k, State.laneHolds { s with engine := .committing c' } d k = true →
      (decide (k = c.lane) && decide (v.departure = d)) = false := fun k hold => by
    rw [State.laneHolds_eq, after] at hold
    by_cases hk : k = c.lane
    · simp [hk] at hold
    · simp [hk]
  have split := countP_split holds apart (List.finRange 12)
  rw [countP_one] at split
  have owned : s.engine.owned = none := by rw [he]; rfl
  have free : (Engine.committing c').owned = none := rfl
  simp only [decide_eq_true_eq] at split
  rw [State.outstanding_eq, State.outstanding_eq, owned, free, ← split]
  exact Nat.add_right_comm _ _ _

/-- A commit of count at a departure that is not EMPTY (R90). -/
theorem State.commitOfCount_eq {s : State} {d : DepIx} (h : (s.dep d).state ≠ .empty) (charge : Nat) :
    s.commitOfCount d charge = s.setDep d { s.dep d with
      held := (s.dep d).held - 1, boarded := (s.dep d).boarded + 1
      takings := min ((s.dep d).takings + charge) 4294967295 } := if_neg h

/-- A passenger counted: the place that the open verdict held is boarded (R90). -/
theorem State.commitOfCount_holds {s : State} {c c' : Commit} (he : s.engine = .committing c) (stage : c.stage = .count)
    {v : OpenVerdict} (verdict : (s.lane c.lane).openVerdict = some v) (lane : c'.lane = c.lane)
    (later : c'.stage ≠ .count) (h : s.HoldsCounted) :
    State.HoldsCounted { s.commitOfCount v.departure v.charge with engine := .committing c' } := by
  have account := State.counted_outstanding he stage verdict lane later
  have held : 1 ≤ (s.dep v.departure).held := by
    rw [h.held, ← account, if_pos rfl]
    exact Nat.le_add_left 1 _
  rw [State.commitOfCount_eq ((h.legal _).of_held held).1.state]
  intro d
  have dep := s.setDep_dep v.departure d { s.dep v.departure with
    held := (s.dep v.departure).held - 1, boarded := (s.dep v.departure).boarded + 1
    takings := min ((s.dep v.departure).takings + v.charge) 4294967295 }
  have outstanding := account d
  rw [← h.held] at outstanding
  change (State.dep (s.setDep _ _) d).Legal
    ∧ (State.dep (s.setDep _ _) d).held = State.outstanding { s with engine := .committing c' } d
  rw [dep]
  split
  · next same =>
    rw [if_pos same.symm, same] at outstanding
    refine ⟨(h.legal _).counted held v.charge, ?_⟩
    rw [same, ← outstanding]
    rfl
  · next other =>
    rw [if_neg (Ne.symm other)] at outstanding
    exact ⟨h.legal d, outstanding.symm⟩

/-- One of the first four stages of a commit, with the engine that carries what it made of it. -/
theorem commitStage_holds {c : Commit} {s : State} (he : s.engine = .committing c) (h : s.HoldsCounted) :
    State.HoldsCounted { (commitStage c s).2 with engine := .committing (commitStage c s).1 } := by
  obtain ⟨lane, later, ⟨v, stage, verdict, e⟩ | ⟨still, none⟩⟩ := commitStage_cases c s
  · rw [e]
    exact State.commitOfCount_holds he stage verdict lane later h
  · have after := (Engine.counts_committing later).trans (congrArg some lane)
    refine h.congr (fun d => still.dep d ▸ h.legal d) (fun d => congrArg Departure.held (still.dep d)) fun d => ?_
    refine State.outstanding_congr (fun k => ?_) (by rw [he]; rfl)
    have read : State.lane { (commitStage c s).2 with engine := .committing (commitStage c s).1 } k
      = (commitStage c s).2.lane k := rfl
    simp only [State.laneHolds_eq, read, LanePort.names, still.verdict, after, he]
    by_cases stage : c.stage = .count
    · by_cases hk : k = c.lane <;> simp [hk, none stage, Engine.counts_first stage, eq_comm]
    · rw [Engine.counts_committing stage]

/-- The end of a commit drops an open verdict whose passenger has been counted (R118, R150). -/
theorem State.endCommit_holds {s : State} {c : Commit} (he : s.engine = .committing c) (stage : c.stage = .commitEnd)
    (h : s.HoldsCounted) : (s.endCommit c).HoldsCounted := by
  obtain ⟨u, e, still⟩ := s.endCommit_cases c
  have before : s.engine.counts = some c.lane := by rw [he, Engine.counts_committing (by simp [stage])]
  have dropped : State.HoldsCounted { s.setLane c.lane { s.lane c.lane with openVerdict := none } with
      engine := .idle } := by
    refine h.congr h.legal (fun _ => rfl) fun d => State.outstanding_congr (fun k => ?_) (by rw [he]; rfl)
    have read : State.lane { s.setLane c.lane { s.lane c.lane with openVerdict := none } with engine := .idle } k =
        if k = c.lane then { s.lane c.lane with openVerdict := none } else s.lane k := s.setLane_lane c.lane k _
    rw [State.laneHolds_eq, State.laneHolds_eq, read, before]
    by_cases hk : k = c.lane
    · simp [hk, LanePort.names]
    · simp [hk, Ne.symm hk, Engine.counts, Engine.commit]
  rw [e]
  exact (dropped.unmoved (still.withEngine rfl rfl)).unmoved (State.settle_unmoved _)

/-- The stages of a commit keep the holds counted, by induction on how many are run. -/
theorem runCommit_holds (n : Nat) {c : Commit} {s : State} (he : s.engine = .committing c) (h : s.HoldsCounted) :
    (runCommit n c s).HoldsCounted := by
  induction n generalizing c s with
  | zero => exact h
  | succ n ih =>
    unfold runCommit
    split
    · next stage => exact State.endCommit_holds he stage h
    · exact ih rfl (commitStage_holds he h)

/-! ### Every step keeps the holds counted -/

theorem State.PierStep.keeps_holds {s t : State} (p : s.PierStep t) (f : s.Footing) (h : s.HoldsCounted) :
    t.HoldsCounted := by
  cases p with
  | ordered o =>
    obtain ⟨k, u, commanded, rest⟩ := o
    exact (commanded.keeps_holds ⟨f.decision, f.awaiting, f.idle⟩ h).unmoved rest
  | warmReset => exact State.warmReset_holds (s := { s with resetLine := true }) h
  | coldReset =>
    exact State.holdsCounted_of_none (fun d => by simpa [State.dep, State.reset] using Departure.reset_legal)
      (fun d => by simp [State.dep, State.reset, Departure.reset])
      (fun l => by simp [State.lane, State.reset, LanePort.reset]) rfl
  | unpassed l answer expired u awaiting =>
    exact State.endUnpassed_holds (h.unmoved u) (u.counts ▸ f.awaiting l awaiting) answer expired
  | secondEvent => exact State.secondEvent_holds f h
  | decides n he => exact runDecision_holds n he (f.decision _ he).1 (f.decision _ he).2 h
  | commits n he => exact runCommit_holds n he h

/-- Settles O54: a hold is outstanding from the decision that takes it to the commit that counts its passenger or to
its release, and each command that moves one of the three moves held with it. -/
theorem stepKeepsHoldsCounted : Obligations.StepKeepsHoldsCounted := by
  unfold Obligations.StepKeepsHoldsCounted
  intro s t coherent h stepped
  obtain ⟨rest, p⟩ := step_pierStep s t stepped
  have footing := coherent.footing
  exact p.keeps_holds ⟨footing.decision, footing.awaiting, footing.idle⟩ h

end Sys2Proof.Machine
end

section
namespace Sys2Proof.Machine

/-! ### What coherence does not tell apart (R104 to R107, R112, R126) -/

/-- What coherence reads beside the lanes: the standing requests, the operation in service, the command in EXECUTING
and the service state. -/
def State.affairs (s : State) :
    Vector Bool 12 × Vector Bool 12 × Bool × Bool × Engine × Option (Cmd × List Word) × Service :=
  (s.arbiter.tapPending, s.arbiter.commitPending, s.arbiter.hostRequest, s.arbiter.clearingRequest, s.engine,
    s.link.phase.executed, s.service)

/-- A lane port in the state it was in, coherent where it was. -/
structure LanePort.Alike (p q : LanePort) : Prop where
  state : q.state = p.state
  coherent : p.Coherent → q.Coherent

/-- Lane ports alike beside the same affairs. -/
structure State.Steady (s t : State) : Prop where
  lane : ∀ l, (s.lane l).Alike (t.lane l)
  affairs : t.affairs = s.affairs

namespace LanePort

theorem Alike.refl (p : LanePort) : p.Alike p := ⟨rfl, id⟩

theorem Alike.trans {p q r : LanePort} (a : p.Alike q) (b : q.Alike r) : p.Alike r :=
  ⟨b.state.trans a.state, fun h => b.coherent (a.coherent h)⟩

theorem Alike.inHand {p q : LanePort} (a : p.Alike q) : q.inHand = p.inHand := by
  rw [LanePort.inHand, a.state]
  rfl

/-- A queue of at most four, whatever the line shows (R127). -/
theorem Alike.queued (p : LanePort) (q : List Message) (line : List Byte)
    (h : p.queue.length ≤ 4 → q.length ≤ 4) : p.Alike { p with queue := q, lineOut := line } := by
  refine ⟨rfl, fun c => ?_⟩
  obtain ⟨tapped, verdict, awaiting, stopped, noted, closing, expired, least, most, queue, frame⟩ := c
  exact ⟨tapped, verdict, awaiting, stopped, noted, closing, expired, least, most, h queue, frame⟩

/-- What is in reception is nothing or the beginning of a gate's frame (R126). -/
theorem Alike.received (p : LanePort) (r : Option Reception)
    (h : p.reception.all Reception.legal = true → r.all Reception.legal = true) :
    p.Alike { p with reception := r } := by
  refine ⟨rfl, fun c => ?_⟩
  obtain ⟨tapped, verdict, awaiting, stopped, noted, closing, expired, least, most, queue, frame⟩ := c
  exact ⟨tapped, verdict, awaiting, stopped, noted, closing, expired, least, most, queue, h frame⟩

/-- Expired-last cleared (R108, R109). -/
theorem Alike.forgets (p : LanePort) : p.Alike { p with expiredLast := false } := by
  refine ⟨rfl, fun c => ?_⟩
  obtain ⟨tapped, verdict, awaiting, stopped, noted, closing, _, least, most, queue, frame⟩ := c
  exact ⟨tapped, verdict, awaiting, stopped, noted, closing, nofun, least, most, queue, frame⟩

end LanePort

namespace State.Steady

@[refl] theorem refl (s : State) : s.Steady s := ⟨fun _ => .refl _, rfl⟩

@[trans] theorem trans {s t u : State} (a : s.Steady t) (b : t.Steady u) : s.Steady u :=
  ⟨fun l => (a.lane l).trans (b.lane l), b.affairs.trans a.affairs⟩

/-- A change of what coherence does not read. -/
theorem of_rest {s t : State} (lanes : t.lanes = s.lanes) (affairs : t.affairs = s.affairs) : s.Steady t :=
  ⟨fun l => by rw [show t.lane l = s.lane l by rw [State.lane, lanes]; rfl]; exact .refl _, affairs⟩

theorem setLane (s : State) (l : Lane) {p : LanePort} (h : (s.lane l).Alike p) : s.Steady (s.setLane l p) := by
  refine ⟨fun k => ?_, rfl⟩
  rw [State.setLane_lane]
  split
  · next hk => exact hk ▸ h
  · exact .refl _

/-- A fold of steps that coherence does not tell apart. -/
theorem foldl {α : Type} (f : State → α → State) (hf : ∀ (s : State) a, s.Steady (f s a)) (as : List α) (s : State) :
    s.Steady (as.foldl f s) := by
  induction as generalizing s with
  | nil => exact .refl s
  | cons a as ih => exact (hf s a).trans (ih _)

theorem lanesInHand {s t : State} (h : s.Steady t) : t.lanesInHand = s.lanesInHand :=
  State.lanesInHand_congr fun l => (h.lane l).inHand

end State.Steady

/-! ### The shared operations that coherence does not see -/

namespace State

theorem raise_steady (s : State) (c : Cause) (x : Subject) : s.Steady (s.raise c x) := .of_rest rfl rfl
theorem setDep_steady (s : State) (d : DepIx) (r : Departure) : s.Steady (s.setDep d r) := .of_rest rfl rfl
theorem portWrite_steady (s : State) (n : Nat) (v : Vector Word 15) : s.Steady (s.portWrite n v) := .of_rest rfl rfl
theorem writeRecord_steady (s : State) (n : Nat) (r : CardRecord) : s.Steady (s.writeRecord n r) :=
  s.portWrite_steady n _
theorem advanceTable_steady (s : State) : s.Steady s.advanceTable := .of_rest rfl rfl

theorem endFrame_steady (s : State) (l : Lane) : s.Steady (s.endFrame l) := .setLane s l (.received _ _ fun _ => rfl)

theorem send_steady (s : State) (l : Lane) (m : Message) : s.Steady (s.send l m) := by
  rcases s.send_cases l m with ⟨room, e⟩ | ⟨_, e⟩ <;> rw [e]
  · exact .setLane s l (.queued _ _ _ fun _ => by rw [List.length_append]; exact room)
  · exact s.raise_steady _ _

theorem raiseLaneFaults_steady (s : State) (l : Lane) (n : Nat) : s.Steady (s.raiseLaneFaults l n) := by
  rw [s.raiseLaneFaults_eq]
  exact .of_rest rfl rfl

theorem release_steady (s : State) (d : DepIx) : s.Steady (s.release d) := by
  rw [s.release_eq]
  exact s.setDep_steady d _

theorem changeDep_steady (s : State) (d : DepIx) (r : Departure) : s.Steady (s.changeDep d r) := by
  rw [s.changeDep_eq]
  exact .of_rest rfl rfl

theorem portOrder_steady (s : State) (n : Nat) : s.Steady (s.portOrder n).2 := by
  rw [s.portOrder_eq]
  exact .of_rest rfl rfl

theorem portRead_steady (s : State) (slot : Nat) : s.Steady (s.portRead slot).2 := by
  rcases s.portRead_cases slot with ⟨_, e⟩ | ⟨_, e⟩ <;> rw [e]
  exact s.raise_steady _ _

theorem lookup_steady (s : State) (card : CardNumber) : s.Steady (s.lookup card).2 := by
  rcases s.lookup_cases card with ⟨_, _, e⟩ | ⟨_, e⟩ <;> rw [e]
  exact s.raise_steady _ _

theorem steady_of_portRead {s t : State} {slot : Nat} {v : SlotVerdict} (h : s.portRead slot = (v, t)) :
    s.Steady t := by
  simpa [h] using s.portRead_steady slot

theorem steady_of_lookup {s t : State} {card : CardNumber} {result : LookupResult}
    (h : s.lookup card = (result, t)) : s.Steady t := by
  simpa [h] using s.lookup_steady card

theorem holdRequest_steady (s : State) (b : Berth) : s.Steady (s.holdRequest b).2 := by
  rw [s.holdRequest_eq]
  split <;> exact .of_rest rfl rfl

theorem minuteEvent_steady (s : State) : s.Steady s.minuteEvent := by
  rw [s.minuteEvent_eq]
  exact .of_rest rfl rfl

theorem countSecond_steady (s : State) : s.Steady s.countSecond := by
  rw [s.countSecond_eq]
  exact .of_rest rfl rfl

theorem setClock_steady (s : State) (day minute : Nat) : s.Steady (s.setClock day minute) := by
  rw [s.setClock_eq]
  exact .of_rest rfl rfl

theorem raiseStartFaults_steady (s before : State) : s.Steady (s.raiseStartFaults before) := by
  unfold State.raiseStartFaults
  split
  · refine Steady.trans (t := { s with freeCount := s.freeCount + 1 }) (.of_rest rfl rfl) ?_
    exact .foldl _ (fun t l => t.raise_steady _ _) _ _
  · exact .refl s

end State
end Sys2Proof.Machine
end

section
namespace Sys2Proof.Machine

/-! ### What the engine serves for the host, unseen by coherence (R153) -/

/-- A command on the record of a card is as steady as its own part. -/
theorem State.onCard_steady (s : State) (card : CardNumber) {f : Nat → CardRecord → State → State × Answer}
    (h : ∀ slot r (t : State), t.Steady (f slot r t).1) : s.Steady (s.onCard card f).1 := by
  unfold State.onCard
  split
  · next e => exact State.steady_of_lookup e
  · next e => exact State.steady_of_lookup e
  · next e => exact (State.steady_of_lookup e).trans (h _ _ _)

theorem serveCardAdd_steady (ws : List Word) (s : State) : s.Steady (serveCardAdd ws s).1 := by
  unfold serveCardAdd
  split
  · exact .refl s
  · next r _ =>
    split
    · next e => exact State.steady_of_lookup e
    · next e => exact State.steady_of_lookup e
    · next e => exact (State.steady_of_lookup e).trans (State.raise_steady _ _ _)
    · next e => exact (State.steady_of_lookup e).trans (State.writeRecord_steady _ _ r)

theorem serveCardFind_steady (ws : List Word) (s : State) : s.Steady (serveCardFind ws s).1 := by
  unfold serveCardFind
  split
  · exact s.onCard_steady _ fun _ _ t => .refl t
  · exact .refl s

theorem serveAddValue_steady (ws : List Word) (s : State) : s.Steady (serveAddValue ws s).1 := by
  simp only [serveAddValue]
  split
  · refine s.onCard_steady _ fun slot r t => ?_
    split
    · exact .refl t
    · exact t.writeRecord_steady slot _
  · exact .refl s

theorem serveSetBalance_steady (ws : List Word) (s : State) : s.Steady (serveSetBalance ws s).1 := by
  simp only [serveSetBalance]
  split
  · exact s.onCard_steady _ fun slot _ t => t.writeRecord_steady slot _
  · exact .refl s

theorem serveSettle_steady (ws : List Word) (s : State) : s.Steady (serveSettle ws s).1 := by
  unfold serveSettle
  split
  · refine s.onCard_steady _ fun slot r t => ?_
    split
    · exact .refl t
    · exact t.writeRecord_steady slot _
  · exact .refl s

theorem serveSetProduct_steady (ws : List Word) (s : State) : s.Steady (serveSetProduct ws s).1 := by
  simp only [serveSetProduct]
  split
  · exact .refl s
  · split
    · exact s.onCard_steady _ fun slot _ t => t.writeRecord_steady slot _
    · exact .refl s

theorem serveDenyFlag_steady (flag : Bool) (ws : List Word) (s : State) :
    s.Steady (serveDenyFlag flag ws s).1 := by
  unfold serveDenyFlag
  split
  · exact s.onCard_steady _ fun slot _ t => t.writeRecord_steady slot _
  · exact .refl s

theorem serveCardRetire_steady (ws : List Word) (s : State) : s.Steady (serveCardRetire ws s).1 := by
  unfold serveCardRetire
  split
  · refine s.onCard_steady _ fun slot r t => ?_
    split
    · exact .refl t
    · exact t.portWrite_steady slot _
  · exact .refl s

theorem serveTableRead_steady (ws : List Word) (s : State) : s.Steady (serveTableRead ws s).1 := by
  unfold serveTableRead
  split
  · next e => exact (State.steady_of_portRead e).trans (State.advanceTable_steady _)
  · next e => exact (State.steady_of_portRead e).trans (State.advanceTable_steady _)

theorem State.writeAtCursor_steady (s : State) (content : Vector Word 15) :
    s.Steady (s.writeAtCursor content).1 := by
  unfold State.writeAtCursor
  split
  · exact .refl s
  · exact (s.portWrite_steady _ _).trans (State.advanceTable_steady _)

theorem serveTableWrite_steady (ws : List Word) (s : State) : s.Steady (serveTableWrite ws s).1 := by
  simp only [serveTableWrite]
  split
  · exact s.writeAtCursor_steady _
  · split
    · split
      · exact .refl s
      · split
        · split
          · exact .refl s
          · exact s.raise_steady _ _
          · exact s.writeAtCursor_steady _
        · exact .refl s
    · exact .refl s

theorem State.setSweepCursor_steady (s : State) (n : Nat) : s.Steady { s with sweepCursor := n } := .of_rest rfl rfl

theorem serveSweepNext_steady (ws : List Word) (s : State) : s.Steady (serveSweepNext ws s).1 := by
  unfold serveSweepNext
  split
  · next slot r _ => exact (s.writeRecord_steady slot _).trans (State.setSweepCursor_steady _ _)
  · next slot _ => exact (s.raise_steady _ _).trans (State.setSweepCursor_steady _ _)
  · exact s.setSweepCursor_steady _

/-- The engine serves no command that coherence sees: those that write no record write the settings. -/
theorem server_steady (c : Cmd) (ws : List Word) (s : State) : s.Steady (server c ws s).1 := by
  cases c with
  | cardAdd => exact serveCardAdd_steady ws s
  | cardFind => exact serveCardFind_steady ws s
  | addValue => exact serveAddValue_steady ws s
  | setBalance => exact serveSetBalance_steady ws s
  | settle => exact serveSettle_steady ws s
  | setProduct => exact serveSetProduct_steady ws s
  | deny => exact serveDenyFlag_steady true ws s
  | allow => exact serveDenyFlag_steady false ws s
  | cardRetire => exact serveCardRetire_steady ws s
  | tableRead => exact serveTableRead_steady ws s
  | tableWrite => exact serveTableWrite_steady ws s
  | sweepNext => exact serveSweepNext_steady ws s
  | enforce =>
    simp only [server, serveEnforce]
    repeat' split
    all_goals exact .of_rest rfl rfl
  | tableSeek =>
    simp only [server, serveTableSeek]
    split <;> exact .of_rest rfl rfl
  | fareSetBase =>
    simp only [server, serveFareSetBase]
    repeat' split
    all_goals exact .of_rest rfl rfl
  | fareSetBand =>
    simp only [server, serveFareSetBand]
    repeat' split
    all_goals exact .of_rest rfl rfl
  | fareSetClass =>
    simp only [server, serveFareSetClass]
    repeat' split
    all_goals exact .of_rest rfl rfl
  | fareSetPolicy =>
    simp only [server, serveFareSetPolicy]
    repeat' split
    all_goals exact .of_rest rfl rfl
  | fareRead =>
    simp only [server, serveFareRead]
    split <;> exact .refl s
  | watchSet =>
    simp only [server, serveWatchSet]
    repeat' split
    all_goals exact .of_rest rfl rfl
  | watchClear =>
    simp only [server, serveWatchClear]
    split <;> exact .of_rest rfl rfl
  | _ => exact .refl s

end Sys2Proof.Machine
end

section
namespace Sys2Proof.Machine

/-! ### The clauses of coherence, lane by lane (R106, R129, R131, R184) -/

/-- What ties one lane to its requests, to the operation in service and to the service state. -/
structure State.AtLane (s : State) (l : Lane) : Prop where
  coherent : (s.lane l).Coherent
  tap : s.arbiter.tapPending[l] = true ↔ (s.lane l).state = .pending
  deciding : (s.lane l).state = .deciding ↔ s.engine.decision.map (·.lane) = some l
  commit : s.arbiter.commitPending[l] = true ↔
    (s.lane l).state = .committing ∧ s.engine.commit.map (·.lane) ≠ some l
  committing : s.engine.commit.map (·.lane) = some l → (s.lane l).state = .committing
  pending : s.service ≠ .serving → (s.lane l).state ≠ .pending
  down : s.inService = false → (s.lane l).state = .down

/-- What ties the host's request and the host operation in service to the command that the link has in EXECUTING. -/
structure State.LinkServed (s : State) : Prop where
  request : s.arbiter.hostRequest = true → s.linkFree = false ∧ s.engine.hostOp = none
  host : ∀ h, s.engine = .host h → s.link.phase.executed = some (h.cmd, h.words)
  executing : s.linkFree = false → s.arbiter.hostRequest = true ∨ s.engine.hostOp ≠ none

theorem State.linkFree_congr {s t : State} (h : t.link.phase.executed = s.link.phase.executed) :
    t.linkFree = s.linkFree := congrArg Option.isNone h

theorem Engine.hostOp_eq_some {e : Engine} {h : HostOp} : e.hostOp = some h ↔ e = .host h := by
  cases e <;> simp [Engine.hostOp]

/-- It rests on the request, the command in EXECUTING and the host operation in service alone. -/
theorem State.LinkServed.congr {s t : State} (h : s.LinkServed) (hostRequest : t.arbiter.hostRequest = s.arbiter.hostRequest)
    (executed : t.link.phase.executed = s.link.phase.executed) (hostOp : t.engine.hostOp = s.engine.hostOp) :
    t.LinkServed := by
  refine ⟨?_, fun x e => ?_, ?_⟩
  · rw [hostRequest, State.linkFree_congr executed, hostOp]; exact h.request
  · rw [executed]
    exact h.host x (Engine.hostOp_eq_some.1 (hostOp ▸ Engine.hostOp_eq_some.2 e))
  · rw [hostRequest, State.linkFree_congr executed, hostOp]; exact h.executing

/-- Coherence but for its clause on an idle engine: a request may stand beside an idle engine, until the arbiter
makes its grant (R132). -/
structure State.Accords (s : State) : Prop where
  lane : ∀ l, s.AtLane l
  decision : ∀ d, s.engine = .deciding d → d.Coherent
  link : s.LinkServed
  clearingRequest : s.arbiter.clearingRequest = false
  clearing : s.service = .clearing ↔ s.engine.clearingAt ≠ none
  halting : s.service = .halting → s.lanesInHand ≠ 0
  halted : s.service = .halted → s.lanesInHand = 0

theorem State.coherent_iff (s : State) :
    s.Coherent ↔ s.Accords ∧ (s.engine = .idle → s.arbiter.quiet = true) := by
  refine ⟨fun ⟨coherent, tap, deciding, commit, committing, decision, request, host, executing, clearingRequest, quiet,
    clearing, halting, halted, pending, down⟩ => ⟨⟨fun l => ⟨coherent l, tap l, deciding l, commit l, committing l,
      fun h => pending h l, fun h => down h l⟩, decision, ⟨request, host, executing⟩, clearingRequest, clearing,
      halting, halted⟩, quiet⟩, fun ⟨h, quiet⟩ => ⟨fun l => (h.lane l).coherent, fun l => (h.lane l).tap,
      fun l => (h.lane l).deciding, fun l => (h.lane l).commit, fun l => (h.lane l).committing, h.decision, h.link.request,
      h.link.host, h.link.executing, h.clearingRequest, quiet, h.clearing, h.halting, h.halted, fun v l => (h.lane l).pending v,
      fun v l => (h.lane l).down v⟩⟩

theorem State.Coherent.accords {s : State} (h : s.Coherent) : s.Accords := (s.coherent_iff.1 h).1

theorem State.Coherent.quiet {s : State} (h : s.Coherent) (idle : s.engine = .idle) : s.arbiter.quiet = true :=
  (s.coherent_iff.1 h).2 idle

theorem Arbiter.quiet_iff (a : Arbiter) : a.quiet = true ↔
    (∀ l : Lane, a.tapPending[l] = false ∧ a.commitPending[l] = false) ∧ a.hostRequest = false
      ∧ a.clearingRequest = false := by
  simp [Arbiter.quiet, List.all_eq_true, and_assoc]

/-- The affairs, one by one. -/
theorem State.Steady.affairs_eq {s t : State} (h : s.Steady t) :
    t.arbiter.tapPending = s.arbiter.tapPending ∧ t.arbiter.commitPending = s.arbiter.commitPending
      ∧ t.arbiter.hostRequest = s.arbiter.hostRequest ∧ t.arbiter.clearingRequest = s.arbiter.clearingRequest
      ∧ t.engine = s.engine ∧ t.link.phase.executed = s.link.phase.executed ∧ t.service = s.service := by
  simpa [State.affairs] using h.affairs

theorem State.Accords.steady {s t : State} (h : s.Accords) (e : s.Steady t) : t.Accords := by
  obtain ⟨tap, commit, hostRequest, clearingRequest, engine, executed, service⟩ := e.affairs_eq
  have inService : t.inService = s.inService := by rw [State.inService, service]; rfl
  refine ⟨fun l => ?_, engine ▸ h.decision, h.link.congr hostRequest executed (by rw [engine]),
    clearingRequest ▸ h.clearingRequest, ?_, ?_, ?_⟩
  · have at_lane := h.lane l
    refine ⟨(e.lane l).coherent at_lane.coherent, ?_, ?_, ?_, ?_, ?_, ?_⟩
    all_goals simp only [(e.lane l).state, tap, commit, engine, service, inService]
    · exact at_lane.tap
    · exact at_lane.deciding
    · exact at_lane.commit
    · exact at_lane.committing
    · exact at_lane.pending
    · exact at_lane.down
  · rw [service, engine]; exact h.clearing
  · rw [service, e.lanesInHand]; exact h.halting
  · rw [service, e.lanesInHand]; exact h.halted

/-- Coherence does not tell such states apart. -/
theorem State.Coherent.steady {s t : State} (h : s.Coherent) (e : s.Steady t) : t.Coherent := by
  obtain ⟨tap, commit, hostRequest, clearingRequest, engine, executed, service⟩ := e.affairs_eq
  refine t.coherent_iff.2 ⟨h.accords.steady e, fun idle => ?_⟩
  have quiet := h.quiet (engine ▸ idle)
  rw [Arbiter.quiet_iff] at quiet ⊢
  rw [tap, commit, hostRequest, clearingRequest]
  exact quiet

/-- With the engine at work a request may stand. -/
theorem State.Accords.coherent {s : State} (h : s.Accords) (busy : s.engine ≠ .idle) : s.Coherent :=
  s.coherent_iff.2 ⟨h, fun idle => absurd idle busy⟩

/-! ### One lane changed -/

/-- The engine serves this lane, or nothing. -/
def Engine.On (l : Lane) : Engine → Prop
  | .idle => True
  | .deciding d => d.lane = l
  | .committing c => c.lane = l
  | .host _ => False
  | .clearing _ => False

/-- An engine that serves one lane or nothing serves no other lane, no host request and no clearing. -/
theorem Engine.On.elsewhere {l k : Lane} {e : Engine} (h : e.On l) (other : k ≠ l) :
    e.decision.map (·.lane) ≠ some k ∧ e.commit.map (·.lane) ≠ some k := by
  cases e <;> simp_all [Engine.On, Engine.decision, Engine.commit, eq_comm]

theorem Engine.On.hostOp {l : Lane} {e : Engine} (h : e.On l) : e.hostOp = none := by
  cases e <;> simp_all [Engine.On, Engine.hostOp]

theorem Engine.On.clearingAt {l : Lane} {e : Engine} (h : e.On l) : e.clearingAt = none := by
  cases e <;> simp_all [Engine.On, Engine.clearingAt]

/-- States that differ at one lane: at its port, its requests and the operation in service for it; every other lane
port is alike, and the link and its request are the same. -/
structure State.Apart (l : Lane) (s t : State) : Prop where
  lane : ∀ k, k ≠ l → (s.lane k).Alike (t.lane k)
  tap : ∀ k : Lane, k ≠ l → t.arbiter.tapPending[k] = s.arbiter.tapPending[k]
  commit : ∀ k : Lane, k ≠ l → t.arbiter.commitPending[k] = s.arbiter.commitPending[k]
  hostRequest : t.arbiter.hostRequest = s.arbiter.hostRequest
  clearingRequest : t.arbiter.clearingRequest = s.arbiter.clearingRequest
  executed : t.link.phase.executed = s.link.phase.executed
  engine : t.engine = s.engine ∨ s.engine.On l ∧ t.engine.On l

namespace State.Apart

theorem trans {l : Lane} {s t u : State} (a : s.Apart l t) (b : t.Apart l u) : s.Apart l u where
  lane k hk := (a.lane k hk).trans (b.lane k hk)
  tap k hk := (b.tap k hk).trans (a.tap k hk)
  commit k hk := (b.commit k hk).trans (a.commit k hk)
  hostRequest := b.hostRequest.trans a.hostRequest
  clearingRequest := b.clearingRequest.trans a.clearingRequest
  executed := b.executed.trans a.executed
  engine := by
    rcases a.engine with e | e <;> rcases b.engine with f | f
    · exact .inl (f.trans e)
    · exact .inr (e ▸ f)
    · exact .inr ⟨e.1, f ▸ e.2⟩
    · exact .inr ⟨e.1, f.2⟩

theorem of_steady {l : Lane} {s t : State} (h : s.Steady t) : s.Apart l t := by
  obtain ⟨tap, commit, hostRequest, clearingRequest, engine, executed, _⟩ := h.affairs_eq
  exact ⟨fun k _ => h.lane k, fun k _ => by rw [tap], fun k _ => by rw [commit], hostRequest, clearingRequest, executed,
    .inl engine⟩

theorem setLane (s : State) (l : Lane) (p : LanePort) : s.Apart l (s.setLane l p) := by
  refine ⟨fun k hk => ?_, fun _ _ => rfl, fun _ _ => rfl, rfl, rfl, rfl, .inl rfl⟩
  rw [State.setLane_lane, if_neg hk]
  exact .refl _

theorem setTapPending (s : State) (l : Lane) (b : Bool) : s.Apart l (s.setTapPending l b) :=
  ⟨fun _ _ => .refl _, fun k hk => by rw [s.setTapPending_get, if_neg hk], fun _ _ => rfl, rfl, rfl, rfl, .inl rfl⟩

theorem setCommitPending (s : State) (l : Lane) (b : Bool) : s.Apart l (s.setCommitPending l b) :=
  ⟨fun _ _ => .refl _, fun _ _ => rfl, fun k hk => by rw [s.setCommitPending_get, if_neg hk], rfl, rfl, rfl, .inl rfl⟩

theorem setEngine {s : State} {l : Lane} {e : Engine} (before : s.engine.On l) (after : e.On l) :
    s.Apart l { s with engine := e } :=
  ⟨fun _ _ => .refl _, fun _ _ => rfl, fun _ _ => rfl, rfl, rfl, rfl, .inr ⟨before, after⟩⟩

theorem setService (s : State) (l : Lane) (v : Service) : s.Apart l { s with service := v } :=
  ⟨fun _ _ => .refl _, fun _ _ => rfl, fun _ _ => rfl, rfl, rfl, rfl, .inl rfl⟩

/-- The engine is at the same host request, and at a clearing as it was. -/
theorem hostOp {l : Lane} {s t : State} (a : s.Apart l t) : t.engine.hostOp = s.engine.hostOp := by
  rcases a.engine with e | ⟨before, after⟩
  · rw [e]
  · rw [before.hostOp, after.hostOp]

theorem clearingAt {l : Lane} {s t : State} (a : s.Apart l t) : t.engine.clearingAt = s.engine.clearingAt := by
  rcases a.engine with e | ⟨before, after⟩
  · rw [e]
  · rw [before.clearingAt, after.clearingAt]

end State.Apart

/-- Of two service states, the second where HALTING may have become HALTED (R184). -/
def Service.Follows (v w : Service) : Prop := w = v ∨ v = .halting ∧ w = .halted

theorem State.AtLane.apart {l k : Lane} {s t : State} (h : s.AtLane k) (a : s.Apart l t) (other : k ≠ l)
    (service : s.service.Follows t.service) : t.AtLane k := by
  have state := (a.lane k other).state
  have serves : t.engine.decision.map (·.lane) = some k ↔ s.engine.decision.map (·.lane) = some k := by
    rcases a.engine with e | ⟨before, after⟩
    · rw [e]
    · exact iff_of_false (after.elsewhere other).1 (before.elsewhere other).1
  have commits : t.engine.commit.map (·.lane) = some k ↔ s.engine.commit.map (·.lane) = some k := by
    rcases a.engine with e | ⟨before, after⟩
    · rw [e]
    · exact iff_of_false (after.elsewhere other).2 (before.elsewhere other).2
  have serving : t.service ≠ .serving → s.service ≠ .serving := by
    rcases service with e | ⟨e, f⟩ <;> simp_all
  have inService : t.inService = false → s.inService = false := by
    rcases service with e | ⟨e, f⟩
    · rw [State.inService, e]; exact id
    · simp [State.inService, f]
  exact ⟨(a.lane k other).coherent h.coherent, by rw [a.tap k other, state]; exact h.tap,
    by rw [state, serves]; exact h.deciding, by rw [a.commit k other, state, Ne, commits]; exact h.commit,
    by rw [commits, state]; exact h.committing, fun v => by rw [state]; exact h.pending (serving v),
    fun v => by rw [state]; exact h.down (inService v)⟩

/-- A change at one lane keeps the accord where that lane agrees with the rest, and the service state with the lanes
in hand. -/
theorem State.Accords.apart {l : Lane} {s t : State} (h : s.Accords) (a : s.Apart l t) (here : t.AtLane l)
    (decision : ∀ d, t.engine = .deciding d → d.Coherent) (service : s.service.Follows t.service)
    (halting : t.service = .halting → t.lanesInHand ≠ 0) (halted : t.service = .halted → t.lanesInHand = 0) :
    t.Accords := by
  refine ⟨fun k => ?_, decision, h.link.congr a.hostRequest a.executed a.hostOp,
    a.clearingRequest ▸ h.clearingRequest, ?_, halting, halted⟩
  · by_cases other : k = l
    · exact other ▸ here
    · exact (h.lane k).apart a other service
  · rw [a.clearingAt, ← h.clearing]
    rcases service with e | ⟨e, f⟩
    · rw [e]
    · simp [e, f]

end Sys2Proof.Machine
end

section
namespace Sys2Proof.Machine

/-! ### Lanes in hand beside a change at one lane (R184, R192) -/

theorem State.Apart.lanesInHand {l : Lane} {s t : State} (a : s.Apart l t)
    (same : (t.lane l).inHand = (s.lane l).inHand) : t.lanesInHand = s.lanesInHand :=
  State.lanesInHand_congr fun k => by
    by_cases hk : k = l
    · rw [hk, same]
    · exact (a.lane k hk).inHand

/-- A change at one lane that leaves the service state, and the lane in hand or not as it was: but in SERVING, where
the count binds nothing. -/
theorem State.Accords.stays {l : Lane} {s t : State} (h : s.Accords) (a : s.Apart l t) (here : t.AtLane l)
    (service : t.service = s.service) (hand : (t.lane l).inHand = (s.lane l).inHand ∨ s.service = .serving)
    (decision : ∀ d, t.engine = .deciding d → d.Coherent) : t.Accords := by
  refine h.apart a here decision (.inl service) (fun v => ?_) fun v => ?_ <;> rw [service] at v <;>
    rcases hand with same | serving
  · exact a.lanesInHand same ▸ h.halting v
  · simp [serving] at v
  · exact a.lanesInHand same ▸ h.halted v
  · simp [serving] at v

/-- A lane that comes to rest, with R192's check. -/
theorem State.Accords.rests {l : Lane} {s t : State} (h : s.Accords) (a : s.Apart l t) (here : t.AtLane l)
    (service : t.service = if s.service = .halting ∧ t.lanesInHand = 0 then .halted else s.service)
    (out : (t.lane l).inHand = false) (decision : ∀ d, t.engine = .deciding d → d.Coherent) : t.Accords := by
  by_cases last : s.service = .halting ∧ t.lanesInHand = 0
  · rw [if_pos last] at service
    exact h.apart a here decision (.inr ⟨last.1, service⟩) (fun v => by simp [service] at v) fun _ => last.2
  · rw [if_neg last] at service
    refine h.apart a here decision (.inl service) (fun v empty => last ⟨service ▸ v, empty⟩) fun v => ?_
    have before := s.lanesInHand_eq_zero_iff.1 (h.halted (service ▸ v))
    refine t.lanesInHand_eq_zero_iff.2 fun k => ?_
    by_cases hk : k = l
    · rw [hk, out]
    · rw [(a.lane k hk).inHand, before k]

/-- A lane that the engine does not serve. -/
theorem State.AtLane.unserved {t : State} {l : Lane} (coherent : (t.lane l).Coherent)
    (deciding : (t.lane l).state ≠ .deciding) (decides : t.engine.decision.map (·.lane) ≠ some l)
    (commits : t.engine.commit.map (·.lane) ≠ some l)
    (tap : t.arbiter.tapPending[l] = true ↔ (t.lane l).state = .pending)
    (commit : t.arbiter.commitPending[l] = true ↔ (t.lane l).state = .committing)
    (serving : (t.lane l).state = .pending → t.service = .serving)
    (inService : (t.lane l).state ≠ .down → t.inService = true) : t.AtLane l :=
  ⟨coherent, tap, iff_of_false deciding decides, by rw [commit, and_iff_left commits], fun e => absurd e commits,
    fun v e => v (serving e), fun v => by
      by_contra state
      rw [inService state] at v
      cases v⟩

/-- A lane that is IDLE or DOWN, without a request and unserved. -/
theorem State.AtLane.of_rest {t : State} {l : Lane} (coherent : (t.lane l).Coherent)
    (state : (t.lane l).state = .idle ∧ t.inService = true ∨ (t.lane l).state = .down)
    (tap : t.arbiter.tapPending[l] = false) (commit : t.arbiter.commitPending[l] = false)
    (decides : t.engine.decision.map (·.lane) ≠ some l) (commits : t.engine.commit.map (·.lane) ≠ some l) :
    t.AtLane l := by
  rcases state with ⟨state, service⟩ | state
  · exact .unserved coherent (by simp [state]) decides commits (by simp [tap, state]) (by simp [commit, state])
      (by simp [state]) fun _ => service
  · exact .unserved coherent (by simp [state]) decides commits (by simp [tap, state]) (by simp [commit, state])
      (by simp [state]) (absurd state)

/-- A lane that is not DOWN is in service. -/
theorem State.AtLane.inService {s : State} {l : Lane} (h : s.AtLane l) (state : (s.lane l).state ≠ .down) :
    s.inService = true := by
  by_contra out
  exact state (h.down (Bool.not_eq_true _ ▸ out))

/-! ### The arbiter's grant (R132) -/

/-- Every lane has its place in the order of its class (R133). -/
theorem Arbiter.mem_laneOrder (a : Arbiter) (c : LaneClass) (l : Lane) : l ∈ a.laneOrder c := by
  unfold Arbiter.laneOrder
  split
  · next m _ _ => exact List.mem_map.2 ⟨l - (m + 1), List.mem_finRange _, add_sub_cancel _ _⟩
  · exact List.mem_finRange l
  · exact List.mem_finRange l

/-- A request granted is one that stands. -/
theorem State.stands_of_nextGrant {s : State} {g : Grant} (h : s.nextGrant = some g) : s.stands g = true := by
  have tap : ∀ {c l}, s.nextTap c = some l → s.arbiter.tapPending[l] = true := fun e => by
    have found := List.find?_some e
    simp only [Bool.and_eq_true] at found
    exact found.1
  unfold State.nextGrant at h
  split at h
  · next clearing => cases h; exact clearing
  · split at h
    · next l e =>
      cases h
      exact List.find?_some (p := fun k : Lane => s.arbiter.commitPending[k]) e
    · split at h
      · next host => cases h; exact host
      · split at h
        · next e => cases h; exact tap e
        · obtain ⟨l, e, rfl⟩ := Option.map_eq_some_iff.1 h
          exact tap e

/-- Where none is granted none stands. -/
theorem State.quiet_of_nextGrant {s : State} (h : s.nextGrant = none) : s.arbiter.quiet = true := by
  unfold State.nextGrant at h
  split at h
  · cases h
  · next clearing =>
    split at h
    · cases h
    · next commits =>
      split at h
      · cases h
      · next host =>
        split at h
        · cases h
        · next assisted =>
          have ordinary := Option.map_eq_none_iff.1 h
          have none : ∀ c, s.nextTap c = none := fun c => by cases c <;> assumption
          refine s.arbiter.quiet_iff.2 ⟨fun l => ⟨?_, ?_⟩, by simpa using host, by simpa using clearing⟩
          · simpa using List.find?_eq_none.1 (none (s.lane l).cls) l (s.arbiter.mem_laneOrder _ l)
          · simpa using List.find?_eq_none.1 commits l (List.mem_finRange l)

/-! A tap granted (R106, R133, R137). -/

/-- The decision that the engine begins for a lane (R137). -/
def State.begun (s : State) (l : Lane) : Decision :=
  { lane := l, card := (s.lane l).tapped.getD 0, day := s.clock.day, minute := s.clock.minute
    stage := .watch, lookup := none, slot := 0, record := none, built := false, hold := none
    fare := FareFields.zero, transfer := false, wrote := false, refusal := none }

theorem State.begun_fresh (s : State) (l : Lane) : (s.begun l).Fresh := ⟨rfl, rfl, rfl, rfl, rfl, rfl, rfl, rfl⟩

theorem Decision.Fresh.coherent {d : Decision} (h : d.Fresh) : d.Coherent := by
  obtain ⟨stage, refusal, hold, record, _⟩ := h
  simp [Decision.Coherent, stage, refusal, hold, record]

@[simp] theorem Arbiter.setLast_tapPending (a : Arbiter) (c : LaneClass) (l : Lane) :
    (a.setLast c l).tapPending = a.tapPending := by cases c <;> rfl
@[simp] theorem Arbiter.setLast_commitPending (a : Arbiter) (c : LaneClass) (l : Lane) :
    (a.setLast c l).commitPending = a.commitPending := by cases c <;> rfl
@[simp] theorem Arbiter.setLast_hostRequest (a : Arbiter) (c : LaneClass) (l : Lane) :
    (a.setLast c l).hostRequest = a.hostRequest := by cases c <;> rfl
@[simp] theorem Arbiter.setLast_clearingRequest (a : Arbiter) (c : LaneClass) (l : Lane) :
    (a.setLast c l).clearingRequest = a.clearingRequest := by cases c <;> rfl

@[simp] theorem State.grantTap_engine (s : State) (l : Lane) : (s.grantTap l).engine = .deciding (s.begun l) := rfl

theorem State.grantTap_arbiter (s : State) (l : Lane) :
    (s.grantTap l).arbiter = (s.setTapPending l false).arbiter.setLast (s.lane l).cls l := rfl

theorem State.grantTap_lane (s : State) (l k : Lane) :
    (s.grantTap l).lane k = if k = l then { s.lane l with state := .deciding } else s.lane k :=
  (s.setTapPending l false).setLane_lane l k _

theorem State.grantTap_tapPending (s : State) (l k : Lane) :
    (s.grantTap l).arbiter.tapPending[k] = if k = l then false else s.arbiter.tapPending[k] := by
  rw [s.grantTap_arbiter, Arbiter.setLast_tapPending, s.setTapPending_get]

@[simp] theorem State.grantTap_commitPending (s : State) (l : Lane) :
    (s.grantTap l).arbiter.commitPending = s.arbiter.commitPending := by
  rw [s.grantTap_arbiter, Arbiter.setLast_commitPending, s.setTapPending_commitPending]

@[simp] theorem State.grantTap_hostRequest (s : State) (l : Lane) :
    (s.grantTap l).arbiter.hostRequest = s.arbiter.hostRequest := by
  rw [s.grantTap_arbiter, Arbiter.setLast_hostRequest]
  rfl

@[simp] theorem State.grantTap_clearingRequest (s : State) (l : Lane) :
    (s.grantTap l).arbiter.clearingRequest = s.arbiter.clearingRequest := by
  rw [s.grantTap_arbiter, Arbiter.setLast_clearingRequest]
  rfl

theorem State.grantTap_apart {s : State} (idle : s.engine = .idle) (l : Lane) : s.Apart l (s.grantTap l) := by
  refine ⟨fun k hk => ?_, fun k hk => ?_, fun k _ => by rw [s.grantTap_commitPending], s.grantTap_hostRequest l,
    s.grantTap_clearingRequest l, by rw [s.grantTap_link], .inr ⟨?_, rfl⟩⟩
  · rw [s.grantTap_lane, if_neg hk]
    exact .refl _
  · rw [s.grantTap_tapPending, if_neg hk]
  · rw [idle]
    trivial

/-- A lane whose tap is granted (R106, R137). -/
theorem LanePort.Coherent.decides {p : LanePort} (h : p.Coherent) (pending : p.state = .pending) :
    LanePort.Coherent { p with state := .deciding } := by
  simp_all [LanePort.Coherent, LanePort.inHand]

/-- A change of the link, its request and the operation in service, for the same lane if any: what it must keep is the
link's own part. -/
theorem State.Accords.engaged {s t : State} (h : s.Accords) (lanes : t.lanes = s.lanes)
    (tap : t.arbiter.tapPending = s.arbiter.tapPending) (commit : t.arbiter.commitPending = s.arbiter.commitPending)
    (clearingRequest : t.arbiter.clearingRequest = s.arbiter.clearingRequest) (service : t.service = s.service)
    (decides : t.engine.decision.map (·.lane) = s.engine.decision.map (·.lane))
    (commits : t.engine.commit.map (·.lane) = s.engine.commit.map (·.lane))
    (clears : t.engine.clearingAt.isSome = s.engine.clearingAt.isSome) (link : t.LinkServed)
    (decision : ∀ d, t.engine = .deciding d → d.Coherent) : t.Accords := by
  have lane : ∀ l, t.lane l = s.lane l := fun l => by rw [State.lane, lanes]; rfl
  have inHand : t.lanesInHand = s.lanesInHand := State.lanesInHand_congr fun l => by rw [lane]
  have inService : t.inService = s.inService := by rw [State.inService, service]; rfl
  refine ⟨fun l => ?_, decision, link, clearingRequest ▸ h.clearingRequest, ?_, ?_, ?_⟩
  · obtain ⟨coherent, hasTap, deciding, hasCommit, committing, pending, down⟩ := h.lane l
    refine ⟨?_, ?_, ?_, ?_, ?_, ?_, ?_⟩
    all_goals simpa only [lane, tap, commit, decides, commits, service, inService]
  · rw [service, ← Option.isSome_iff_ne_none, clears, Option.isSome_iff_ne_none]; exact h.clearing
  · rw [service, inHand]; exact h.halting
  · rw [service, inHand]; exact h.halted

/-- A grant of a request that stands, to an idle engine. -/
theorem State.Accords.applyGrant {s : State} (h : s.Accords) (idle : s.engine = .idle) {g : Grant}
    (stands : s.stands g = true) : (s.applyGrant g).Coherent := by
  cases g with
  | clearing =>
    have none := h.clearingRequest
    rw [show s.arbiter.clearingRequest = true from stands] at none
    cases none
  | commit l =>
    have committing := ((h.lane l).commit.1 stands).1
    have a : s.Apart l (s.applyGrant (.commit l)) := State.Apart.trans (.setCommitPending s l false)
      (.setEngine (s := s.setCommitPending l false) (e := .committing ⟨l, .count, none⟩)
        (by rw [State.setCommitPending_engine, idle]; trivial) rfl)
    have engine : (s.applyGrant (.commit l)).engine = .committing ⟨l, .count, none⟩ := rfl
    have lane : (s.applyGrant (.commit l)).lane l = s.lane l := rfl
    have cleared : (s.applyGrant (.commit l)).arbiter.commitPending[l] = false :=
      (s.setCommitPending_get l l false).trans (if_pos rfl)
    obtain ⟨coherent, tap, _, _, _, pending, down⟩ := h.lane l
    refine State.Accords.coherent (h.stays a ⟨coherent, tap, ?_, ?_, fun _ => committing, pending, down⟩ rfl
      (.inl (by rw [lane])) fun d e => ?_) fun e => ?_
    · simp [lane, committing, engine, Engine.decision]
    · simp [cleared, engine, Engine.commit]
    · simp [engine] at e
    · simp [engine] at e
  | host =>
    obtain ⟨busy, _⟩ := h.link.request stands
    cases phase : s.link.phase with
    | executing c ws late =>
      have granted : s.applyGrant .host = { s.setHostRequest false with engine := .host ⟨c, ws, none⟩ } := by
        simp only [State.applyGrant, phase]
      rw [granted]
      refine State.Accords.coherent
        (h.engaged rfl rfl rfl rfl rfl ?_ ?_ ?_ ⟨?_, fun x e => ?_, fun _ => .inr ?_⟩ (by simp)) ?_
      · rw [idle]; rfl
      · rw [idle]; rfl
      · rw [idle]; rfl
      · simp
      · cases e
        simp [phase, Phase.executed]
      · simp [Engine.hostOp]
      · simp
    | ready => simp [State.linkFree, phase, Phase.executed] at busy
    | collecting c n ws => simp [State.linkFree, phase, Phase.executed] at busy
    | results q => simp [State.linkFree, phase, Phase.executed] at busy
  | tap l =>
    have pending := (h.lane l).tap.1 stands
    have serving : s.service = .serving := by
      by_contra out
      exact (h.lane l).pending out pending
    change (s.grantTap l).Coherent
    refine State.Accords.coherent (h.stays (State.grantTap_apart idle l) ?_ (s.grantTap_service l) (.inr serving)
      fun d e => ?_) nofun
    · have unserved := mt (h.lane l).committing (by simp [pending])
      have lane : (s.grantTap l).lane l = { s.lane l with state := .deciding } := by rw [s.grantTap_lane, if_pos rfl]
      have tap : (s.grantTap l).arbiter.tapPending[l] = false := (s.grantTap_tapPending l l).trans (if_pos rfl)
      have commit : s.arbiter.commitPending[l] = false := by
        simpa [pending] using (h.lane l).commit
      refine ⟨?_, ?_, ?_, ?_, ?_, ?_, ?_⟩ <;> rw [lane]
      · exact (h.lane l).coherent.decides pending
      · simp [tap]
      · simp [Engine.decision, State.begun]
      · simp [commit]
      · simp [Engine.commit]
      · simp
      · simp [State.inService, serving]
    · cases e
      exact (s.begun_fresh l).coherent

/-- The arbiter makes its grant, and no request is left beside an idle engine (R132). -/
theorem State.Accords.settle {s : State} (h : s.Accords) : s.settle.Coherent := by
  rcases s.settle_cases with ⟨busy, e⟩ | ⟨_, none, e⟩ | ⟨g, idle, some, e⟩ <;> rw [e]
  · exact h.coherent busy
  · exact s.coherent_iff.2 ⟨h, fun _ => State.quiet_of_nextGrant none⟩
  · exact h.applyGrant idle (State.stands_of_nextGrant some)

end Sys2Proof.Machine
end

section
namespace Sys2Proof.Machine

/-! ### A lane that comes to rest (R110, R113, R115, R118) -/

/-- A lane port with no card, no open verdict and its timer stopped: what it is when its business has ended. -/
structure LanePort.Vacant (p : LanePort) : Prop where
  tapped : p.tapped = none
  openVerdict : p.openVerdict = none
  secondsLeft : p.secondsLeft = 0
  cancelNoted : p.cancelNoted = false
  least : 1 ≤ p.timer
  most : p.timer ≤ 60
  queue : p.queue.length ≤ 4
  reception : p.reception.all Reception.legal = true

theorem offered_length_le {q : List Message} (h : q.length ≤ 4) (ms : List Message) : (offered q ms).length ≤ 4 := by
  rw [offered_length]
  omega

theorem LanePort.Vacant.offered {p : LanePort} (h : p.Vacant) (ms : List Message) :
    LanePort.Vacant { p with queue := offered p.queue ms } :=
  ⟨h.tapped, h.openVerdict, h.secondsLeft, h.cancelNoted, h.least, h.most, offered_length_le h.queue ms, h.reception⟩

theorem LanePort.rested_state (p : LanePort) : p.rested.state = .idle ∨ p.rested.state = .down := by
  cases h : p.closeRequested <;> simp [LanePort.rested, h]

theorem LanePort.inHand_of_rest {p : LanePort} (h : p.state = .idle ∨ p.state = .down) : p.inHand = false := by
  rcases h with h | h <;> simp [LanePort.inHand, h]

theorem LanePort.Vacant.rested {p : LanePort} (h : p.Vacant) : p.rested.Coherent := by
  have queue := offered_length_le h.queue p.closing
  have rest := p.rested_state
  have tapped : p.rested.tapped = none := h.tapped
  have verdict : p.rested.openVerdict = none := h.openVerdict
  refine ⟨?_, ?_, ?_, fun _ => h.secondsLeft, ?_, nofun, fun _ => rest.symm, h.least, h.most, queue, h.reception⟩
  · rcases rest with e | e <;> simp [e, tapped]
  · rcases rest with e | e <;> simp [e, verdict]
  · rcases rest with e | e <;> simp [e]
  · simp [LanePort.rested, h.cancelNoted]

/-! What ends at a lane leaves it vacant. -/

theorem LanePort.Coherent.unpassed {p : LanePort} (h : p.Coherent) (awaiting : p.state = .awaiting) (expired : Bool) :
    LanePort.Vacant { p with secondsLeft := 0, openVerdict := none, expiredLast := p.expiredLast || expired } := by
  obtain ⟨tapped, _, _, _, noted, _, _, least, most, queue, reception⟩ := h
  exact ⟨by simpa [awaiting] using tapped, rfl, rfl, by simpa [awaiting] using noted, least, most, queue, reception⟩

theorem LanePort.Coherent.refused {p : LanePort} (h : p.Coherent) (deciding : p.state = .deciding) :
    LanePort.Vacant { p with tapped := none, cancelNoted := false } := by
  obtain ⟨_, verdict, _, stopped, _, _, _, least, most, queue, reception⟩ := h
  exact ⟨rfl, by simpa [deciding] using verdict, stopped (by simp [deciding]), rfl, least, most, queue, reception⟩

theorem LanePort.Coherent.committed {p : LanePort} (h : p.Coherent) (committing : p.state = .committing) :
    LanePort.Vacant { p with openVerdict := none } := by
  obtain ⟨tapped, _, _, stopped, noted, _, _, least, most, queue, reception⟩ := h
  exact ⟨by simpa [committing] using tapped, rfl, stopped (by simp [committing]), by simpa [committing] using noted,
    least, most, queue, reception⟩

/-! The lane, the service state and the rest after `State.laneRest`. -/

theorem State.laneRest_self (s : State) (l : Lane) : (s.laneRest l).lane l = (s.lane l).rested := by
  rw [s.laneRest_eq, State.checkHalted_lane, State.raiseLaneFaults_lane, State.setLane_lane, if_pos rfl]

theorem State.laneRest_checks (s : State) (l : Lane) : (s.laneRest l).service =
    if s.service = .halting ∧ (s.laneRest l).lanesInHand = 0 then .halted else s.service := by
  rw [s.laneRest_eq, State.checkHalted_lanesInHand, State.checkHalted_eq, State.raiseLaneFaults_service]
  rfl

theorem State.Apart.checkHalted (s : State) (l : Lane) : s.Apart l s.checkHalted := by
  rw [s.checkHalted_eq]
  exact .setService s l _

theorem State.Apart.laneRest (s : State) (l : Lane) : s.Apart l (s.laneRest l) := by
  rw [s.laneRest_eq]
  exact (State.Apart.setLane s l _).trans (.trans (.of_steady (State.raiseLaneFaults_steady _ l _)) (.checkHalted _ l))

theorem State.inService_of_checks {s t : State} (h : s.inService = true)
    (service : t.service = if s.service = .halting ∧ t.lanesInHand = 0 then .halted else s.service) :
    t.inService = true := by
  rw [State.inService, service]
  split
  · rfl
  · exact h

/-- A vacant lane brought to rest, with the engine free of it. -/
theorem State.Accords.laneRest {l : Lane} {s u : State} (h : s.Accords) (a : s.Apart l u) (e : Engine)
    (service : u.service = s.service) (inService : s.inService = true) (vacant : (u.lane l).Vacant)
    (tap : u.arbiter.tapPending[l] = false) (commit : u.arbiter.commitPending[l] = false)
    (engine : u.engine.On l ∧ e.On l) (decides : e.decision.map (·.lane) ≠ some l)
    (commits : e.commit.map (·.lane) ≠ some l) (decision : ∀ d, e = .deciding d → d.Coherent) :
    State.Accords { u.laneRest l with engine := e } := by
  have checks : (u.laneRest l).service = if s.service = .halting ∧ (u.laneRest l).lanesInHand = 0 then .halted
      else s.service := service ▸ u.laneRest_checks l
  have rest := (u.lane l).rested_state
  rw [← u.laneRest_self l] at rest
  refine h.rests (a.trans ((State.Apart.laneRest u l).trans (.setEngine ?_ engine.2))) (.of_rest ?_ ?_ ?_ ?_ decides commits)
    checks (LanePort.inHand_of_rest rest) decision
  · rw [State.laneRest_engine]
    exact engine.1
  · exact (congrArg LanePort.Coherent (u.laneRest_self l)).mpr vacant.rested
  · exact rest.imp_left fun idle => ⟨idle, State.inService_of_checks inService checks⟩
  · simpa using tap
  · simpa using commit

/-- An open verdict ended without a passage leaves its lane at rest (R110, R113). -/
theorem State.Coherent.ended {s t : State} {l : Lane} {answer : Answered} {expired : Bool} (h : s.Coherent)
    (awaiting : (s.lane l).state = .awaiting) (ended : s.EndedUnpassed t l answer expired) : t.Coherent := by
  obtain ⟨here, others, _, _, service, rest⟩ := ended
  have arbiter : t.arbiter = s.arbiter := by rw [rest]
  have engine : t.engine = s.engine := by rw [rest]
  have link : t.link = s.link := by rw [rest]
  have before := h.accords.lane l
  have lane : (t.lane l).Coherent := by
    rw [here, LanePort.ended_eq_rested]
    exact ((before.coherent.unpassed awaiting expired).offered _).rested
  have state : (t.lane l).state = .idle ∨ (t.lane l).state = .down := by
    rw [here, LanePort.ended_eq_rested]
    exact LanePort.rested_state _
  have tap : s.arbiter.tapPending[l] = false := by simpa [awaiting] using before.tap
  have commit : s.arbiter.commitPending[l] = false := by simpa [awaiting] using before.commit
  have decides : s.engine.decision.map (·.lane) ≠ some l := by simpa [awaiting] using before.deciding
  have commits := mt before.committing (by simp [awaiting])
  have inService := State.inService_of_checks (before.inService (by simp [awaiting])) service
  have apart : s.Apart l t := ⟨fun k hk => by rw [others k hk]; exact .refl _, fun _ _ => by rw [arbiter],
    fun _ _ => by rw [arbiter], by rw [arbiter], by rw [arbiter], by rw [link], .inl engine⟩
  refine t.coherent_iff.2 ⟨h.accords.rests apart (.of_rest lane (state.imp_left fun idle => ⟨idle, inService⟩) ?_ ?_ ?_ ?_)
    service (LanePort.inHand_of_rest state) (engine ▸ h.accords.decision), fun idle => ?_⟩
  · rw [arbiter, tap]
  · rw [arbiter, commit]
  · rw [engine]; exact decides
  · rw [engine]; exact commits
  · rw [arbiter]
    exact h.quiet (engine ▸ idle)

/-! ### The tap decision (R137 to R145) -/

/-- The stage of a decision in service, and what it carries, are the engine's own. -/
theorem State.Coherent.decides {s : State} {d d' : Decision} (h : s.Coherent) (he : s.engine = .deciding d)
    (lane : d'.lane = d.lane) (coherent : d'.Coherent) : State.Coherent { s with engine := .deciding d' } := by
  refine State.Accords.coherent (h.accords.engaged rfl rfl rfl rfl rfl ?_ ?_ ?_
    (h.accords.link.congr rfl rfl ?_) ?_) (by simp)
  · simp [he, Engine.decision, lane]
  · simp [he, Engine.commit]
  · simp [he, Engine.clearingAt]
  · simp [he, Engine.hostOp]
  · simpa using coherent

theorem stageWatch_steady (d : Decision) (s : State) : s.Steady (stageWatch d s).2 := by
  unfold stageWatch
  split
  · exact .refl s
  · simp only
    split <;> exact s.raise_steady _ _

theorem stageLookup_steady (d : Decision) (s : State) : s.Steady (stageLookup d s).2 := by
  unfold stageLookup
  split <;> next e => exact State.steady_of_lookup e

theorem stageUnknown_steady (d : Decision) (s : State) : s.Steady (stageUnknown d s).2 := by
  unfold stageUnknown
  split
  · exact .refl s
  · split
    · exact .refl s
    · exact s.raise_steady _ _

theorem stageHold_steady (d : Decision) (s : State) : s.Steady (stageHold d s).2 := by
  have held := s.holdRequest_steady (s.lane d.lane).berth
  unfold stageHold
  split <;> next e => rwa [e] at held

theorem stageFare_steady (d : Decision) (r : CardRecord) (h : Hold) (s : State) : s.Steady (stageFare d r h s).2 := by
  simp only [stageFare]
  split
  · exact .refl s
  · exact s.release_steady _

theorem stageWrite_steady (d : Decision) (r : CardRecord) (s : State) : s.Steady (stageWrite d r s).2 := by
  unfold stageWrite
  split
  · exact s.writeRecord_steady _ _
  · exact .refl s

theorem decisionStage_steady (d : Decision) (s : State) : s.Steady (decisionStage d s).2 := by
  have check : ∀ (c : Prop) [Decidable c] (a b : Decision), s.Steady (if c then (a, s) else (b, s)).2 := fun c _ a b => by
    split <;> exact .refl s
  unfold decisionStage
  split
  · exact stageWatch_steady d s
  · exact stageLookup_steady d s
  · exact stageUnknown_steady d s
  · exact check _ _ _
  · exact check _ _ _
  · exact check _ _ _
  · exact check _ _ _
  · exact stageHold_steady d s
  · exact stageFare_steady d _ _ s
  · exact stageWrite_steady d _ s
  · exact .refl s

/-- A stage leaves a coherent decision at the same lane. -/
theorem Decision.Stage.coherent {d d' : Decision} {s t : State} (stage : d.Stage s (d', t)) (h : d.Coherent) :
    d'.lane = d.lane ∧ d'.Coherent := by
  cases stage with
  | moves m _ => exact ⟨m.lane, m.coherent h⟩
  | lands x stage _ =>
    have running := h.running (by simp [stage])
    refine ⟨rfl, (Decision.coherent_iff (by simpa using running)).2 ⟨?_, by simp⟩⟩
    simpa [stage] using ((Decision.coherent_iff running).1 h).1
  | releases _ _ lane refusal ended => exact ⟨lane, Decision.coherent_of_refused refusal ended⟩

/-- A VERDICT REFUSE at a decision end brings the lane to rest, and the engine with it (R115, R117). -/
theorem State.Coherent.endRefused {s : State} {d : Decision} (h : s.Coherent) (he : s.engine = .deciding d) (r : Reason)
    (f : FareFields) : State.Accords { State.endRefused (s.setLane d.lane
      { s.lane d.lane with tapped := none, cancelNoted := false }) d.lane r f with engine := .idle } := by
  have before := h.accords.lane d.lane
  have deciding := before.deciding.2 (by simp [he, Engine.decision])
  have apart : ∀ m, s.Apart d.lane (State.send (s.setLane d.lane
      { s.lane d.lane with tapped := none, cancelNoted := false }) d.lane m) := fun m =>
    (State.Apart.setLane s d.lane _).trans (.of_steady (State.send_steady _ _ m))
  refine h.accords.laneRest (apart _) .idle (by simp) (before.inService (by simp [deciding])) ?_ ?_ ?_ ?_
    (by simp [Engine.decision]) (by simp [Engine.commit]) (by simp)
  · rw [State.send_eq, State.raiseLaneFaults_lane, State.setLane_lane, if_pos rfl, State.setLane_lane, if_pos rfl]
    exact (before.coherent.refused deciding).offered _
  · simpa [deciding] using before.tap
  · simpa [deciding] using before.commit
  · simp [he, Engine.On]

end Sys2Proof.Machine
end

section
namespace Sys2Proof.Machine

/-! ### The end of a decision and the commit (R115 to R119, R150 to R152) -/

/-- An OPEN verdict stored: the lane AWAITING with its timer, or COMMITTING at an UNSENSED lane (R116, R119). -/
theorem LanePort.Coherent.opened {p : LanePort} (h : p.Coherent) (deciding : p.state = .deciding) (v : OpenVerdict) :
    LanePort.Coherent { p with
      tapped := none, cancelNoted := false, openVerdict := some v, state := .awaiting, secondsLeft := p.timer }
    ∧ LanePort.Coherent { p with
      tapped := none, cancelNoted := false, openVerdict := some v, state := .committing } := by
  simp_all [LanePort.Coherent, LanePort.inHand]

/-- A lane written and a message sent on it. -/
theorem State.sent_alike (s : State) (l : Lane) (p : LanePort) (m : Message) :
    p.Alike (((s.setLane l p).send l m).lane l) := by
  have sent := (State.send_steady (s.setLane l p) l m).lane l
  rwa [State.setLane_lane, if_pos rfl] at sent

theorem State.Apart.sent (s : State) (l : Lane) (p : LanePort) (m : Message) :
    s.Apart l ((s.setLane l p).send l m) := (State.Apart.setLane s l p).trans (.of_steady (State.send_steady _ l m))

/-- A lane that leaves DECIDING in hand, and then the engine at rest. -/
theorem State.Accords.opens {l : Lane} {s u : State} (h : s.Accords) (a : s.Apart l u) (on : u.engine.On l)
    (service : u.service = s.service) (deciding : (s.lane l).state = .deciding) (coherent : (u.lane l).Coherent)
    (tap : u.arbiter.tapPending[l] = false)
    (state : (u.lane l).state = .awaiting ∧ u.arbiter.commitPending[l] = false
      ∨ (u.lane l).state = .committing ∧ u.arbiter.commitPending[l] = true) :
    State.Accords { u with engine := .idle } := by
  have inService : u.inService = true := by
    rw [State.inService, service]
    exact (h.lane l).inService (by simp [deciding])
  have inHand : (u.lane l).inHand = (s.lane l).inHand := by
    rcases state with ⟨e, _⟩ | ⟨e, _⟩ <;> simp [LanePort.inHand, e, deciding]
  refine h.stays (a.trans (.setEngine on trivial)) (.unserved coherent ?_ ?_ ?_ ?_ ?_ ?_ fun _ => inService) service
    (.inl inHand) (by simp)
  · change (u.lane l).state ≠ _
    rcases state with ⟨e, _⟩ | ⟨e, _⟩ <;> simp [e]
  · simp [Engine.decision]
  · simp [Engine.commit]
  · change u.arbiter.tapPending[l] = true ↔ (u.lane l).state = _
    rcases state with ⟨e, _⟩ | ⟨e, _⟩ <;> simp [e, tap]
  · change u.arbiter.commitPending[l] = true ↔ (u.lane l).state = _
    rcases state with ⟨e, c⟩ | ⟨e, c⟩ <;> simp [e, c]
  · change (u.lane l).state = _ → _
    rcases state with ⟨e, _⟩ | ⟨e, _⟩ <;> simp [e]

/-- The lane holds the verdict, and the engine is at rest (R116, R119). -/
theorem State.Coherent.acceptOpen {s : State} {d : Decision} (h : s.Coherent) (he : s.engine = .deciding d) (x : Hold) :
    State.Accords { State.acceptOpen (s.setLane d.lane
      { s.lane d.lane with tapped := none, cancelNoted := false }) d x with engine := .idle } := by
  have before := h.accords.lane d.lane
  have deciding := before.deciding.2 (by simp [he, Engine.decision])
  have tap : s.arbiter.tapPending[d.lane] = false := by simpa [deciding] using before.tap
  have commit : s.arbiter.commitPending[d.lane] = false := by simpa [deciding] using before.commit
  obtain ⟨awaits, commits⟩ := before.coherent.opened deciding (d.openVerdict x)
  have on : s.engine.On d.lane := by rw [he]; exact rfl
  have self : ∀ p : LanePort, (s.setLane d.lane p).lane d.lane = p := fun p => by rw [State.setLane_lane, if_pos rfl]
  simp only [State.acceptOpen, State.setLane_setLane, self]
  split
  · have alike := s.sent_alike d.lane { s.lane d.lane with
      tapped := none, cancelNoted := false, openVerdict := some (d.openVerdict x), state := .awaiting
      secondsLeft := (s.lane d.lane).timer } (.verdict ⟨none, d.fare, x.tag, x.remaining⟩)
    exact h.accords.opens (.sent s d.lane _ _) (by simpa using on) (by simp) deciding (alike.coherent awaits)
      (by simpa using tap) (.inl ⟨alike.state, by simpa using commit⟩)
  · have alike := s.sent_alike d.lane { s.lane d.lane with
      tapped := none, cancelNoted := false, openVerdict := some (d.openVerdict x), state := .committing }
      (.verdict ⟨none, d.fare, x.tag, x.remaining⟩)
    exact h.accords.opens ((State.Apart.sent s d.lane _ _).trans (.setCommitPending _ d.lane true)) (by simpa using on)
      (by simp) deciding (alike.coherent commits) (by simpa using tap)
      (.inr ⟨alike.state, (State.setCommitPending_get _ d.lane d.lane true).trans (if_pos rfl)⟩)

/-- A release beside any engine. -/
theorem State.release_steady_engine (s : State) (x : DepIx) (e : Engine) :
    State.Steady { s with engine := e } { s.release x with engine := e } := by
  rw [s.release_eq]
  exact .of_rest rfl rfl

/-- The end of a decision, and the arbiter's next grant (R132, R145). -/
theorem State.Coherent.endDecision {s : State} {d : Decision} (h : s.Coherent) (he : s.engine = .deciding d) :
    (s.endDecision d).Coherent := by
  simp only [State.endDecision]
  refine State.Accords.settle ?_
  split
  · exact h.endRefused he _ _
  · exact h.endRefused he _ _
  · exact h.acceptOpen he _
  · exact (h.endRefused he _ _).steady (State.release_steady_engine _ _ _)
  · exact h.endRefused he _ _

/-- The stages of a decision, by induction on how many are run. -/
theorem runDecision_coherent (n : Nat) {d : Decision} {s : State} (he : s.engine = .deciding d) (h : s.Coherent) :
    (runDecision n d s).Coherent := by
  induction n generalizing d s with
  | zero => exact h
  | succ n ih =>
    unfold runDecision
    split
    · exact h.endDecision he
    · next going =>
      obtain ⟨lane, next⟩ := (decisionStage_stage d s going).coherent (h.accords.decision d he)
      have still := decisionStage_steady d s
      exact ih rfl ((h.steady still).decides (still.affairs_eq.2.2.2.2.1.trans he) lane next)

theorem commitStage_steady (c : Commit) (s : State) : s.Steady (commitStage c s).2 := by
  unfold commitStage
  split
  · simp only [stageCountPassage, State.commitOfCount]
    split
    · exact .refl s
    · exact s.setDep_steady _ _
  · simp only [stageRead]
    split
    · next e =>
      split
      · exact State.steady_of_portRead e
      · exact (State.steady_of_portRead e).trans (State.raise_steady _ _ _)
    · next e => exact (State.steady_of_portRead e).trans (State.raise_steady _ _ _)
    · next e => exact (State.steady_of_portRead e).trans (State.raise_steady _ _ _)
  · simp only [stageCharge]
    split
    · exact s.raise_steady _ _
    · exact .refl s
  · exact s.writeRecord_steady _ _
  · exact .refl s

/-- The stage of a commit in service, and what it carries, are the engine's own. -/
theorem State.Coherent.commits {s : State} {c c' : Commit} (h : s.Coherent) (he : s.engine = .committing c)
    (lane : c'.lane = c.lane) : State.Coherent { s with engine := .committing c' } := by
  refine State.Accords.coherent (h.accords.engaged rfl rfl rfl rfl rfl ?_ ?_ ?_
    (h.accords.link.congr rfl rfl ?_) ?_) (by simp)
  · simp [he, Engine.decision]
  · simp [he, Engine.commit, lane]
  · simp [he, Engine.clearingAt]
  · simp [he, Engine.hostOp]
  · simp

/-- The end of a commit, and the arbiter's next grant (R118, R132, R152). -/
theorem State.Coherent.endCommit {s : State} {c : Commit} (h : s.Coherent) (he : s.engine = .committing c) :
    (s.endCommit c).Coherent := by
  have serves : s.engine.commit.map (·.lane) = some c.lane := by simp [he, Engine.commit]
  have before := h.accords.lane c.lane
  have committing := before.committing serves
  have vacant := before.coherent.committed committing
  have rests : ∀ u : State, s.Apart c.lane u → u.service = s.service → u.arbiter = s.arbiter → u.engine = s.engine →
      (u.lane c.lane).Vacant → State.Accords { u.laneRest c.lane with engine := .idle } :=
    fun u apart service arbiter engine vacant => h.accords.laneRest apart .idle service
      (before.inService (by simp [committing])) vacant (by simpa [arbiter, committing] using before.tap)
      (by simpa [arbiter, serves] using before.commit) ⟨by rw [engine, he]; exact rfl, trivial⟩ (by simp [Engine.decision])
      (by simp [Engine.commit]) (by simp)
  simp only [State.endCommit]
  refine State.Accords.settle ?_
  split
  · refine rests _ (.sent s c.lane _ _) (by simp) (by simp) (by simp) ?_
    rw [State.send_eq, State.raiseLaneFaults_lane, State.setLane_lane, if_pos rfl, State.setLane_lane, if_pos rfl]
    exact vacant.offered _
  · refine rests _ (.setLane s c.lane _) rfl rfl rfl ?_
    rw [State.setLane_lane, if_pos rfl]
    exact vacant

/-- The stages of a commit, by induction on how many are run. -/
theorem runCommit_coherent (n : Nat) {c : Commit} {s : State} (he : s.engine = .committing c) (h : s.Coherent) :
    (runCommit n c s).Coherent := by
  induction n generalizing c s with
  | zero => exact h
  | succ n ih =>
    unfold runCommit
    split
    · exact h.endCommit he
    · have still := commitStage_steady c s
      exact ih rfl ((h.steady still).commits (still.affairs_eq.2.2.2.2.1.trans he) (commitStage_cases c s).1)

/-! ### Host requests (R153, R156) -/

/-- An answer put on the link of a command that no engine serves or waits to serve any more. -/
theorem State.setPhase_steady (s : State) (free : s.linkFree = true) {p : Phase} (hp : p.executed = none) :
    s.Steady (s.setPhase p) := by
  refine ⟨fun _ => .refl _, ?_⟩
  have none : s.link.phase.executed = none := Option.isNone_iff_eq_none.1 free
  rw [State.affairs, State.affairs, none, State.setPhase_phase, hp]
  rfl

theorem State.answerLink_steady (s : State) (free : s.linkFree = true) (a : Answer) : s.Steady (s.answerLink a) :=
  s.setPhase_steady free rfl

/-- The hand-over of an outcome, and the arbiter's next grant (R132, R153). -/
theorem State.Coherent.handOver {s : State} {x : HostOp} (h : s.Coherent) (he : s.engine = .host x) (a : Answer) :
    (s.handOver a).Coherent := by
  have executed := h.accords.link.host x he
  have waits : s.arbiter.hostRequest = false := by
    by_contra request
    have none := (h.accords.link.request (by simpa using request)).2
    simp [he, Engine.hostOp] at none
  simp only [State.handOver]
  split
  · refine State.Accords.settle (h.accords.engaged rfl rfl rfl rfl rfl ?_ ?_ ?_ ⟨?_, ?_, ?_⟩ ?_)
    · simp [he, Engine.decision]
    · simp [he, Engine.commit]
    · simp [he, Engine.clearingAt]
    · simp [waits]
    · simp
    · simp [State.linkFree, Phase.executed]
    · simp
  · next other =>
    exfalso
    cases phase : s.link.phase with
    | executing c ws late => exact other c ws late phase
    | ready => simp [phase, Phase.executed] at executed
    | collecting c n ws => simp [phase, Phase.executed] at executed
    | results q => simp [phase, Phase.executed] at executed

/-- The outcome of a host request in service is the engine's own until it is handed over. -/
theorem State.Coherent.serves {s : State} {x : HostOp} (h : s.Coherent) (he : s.engine = .host x) (a : Option Answer) :
    State.Coherent { s with engine := .host { x with answer := a } } := by
  have executed := h.accords.link.host x he
  refine State.Accords.coherent (h.accords.engaged rfl rfl rfl rfl rfl ?_ ?_ ?_
    ⟨fun request => ?_, fun y e => ?_, fun _ => .inr (by simp [Engine.hostOp])⟩ (by simp)) (by simp)
  · simp [he, Engine.decision]
  · simp [he, Engine.commit]
  · simp [he, Engine.clearingAt]
  · have none := (h.accords.link.request request).2
    simp [he, Engine.hostOp] at none
  · cases e
    exact executed

/-- The row of an ENGINE command: it is served, handed over, or both. -/
theorem State.Coherent.runHost {s : State} (h : s.Coherent) (c : Cmd) (p : Progress) :
    (s.runHost c (server c) p).Coherent := by
  unfold State.runHost
  split
  · next x host =>
    split
    · have still := server_steady c x.words s
      have served := h.steady still
      have engine := still.affairs_eq.2.2.2.2.1.trans host
      rcases s.hostStages_cases x (server c) (stageCount 2 p) with
        ⟨_, e⟩ | ⟨a, _, _, e⟩ | ⟨_, _, e⟩ | ⟨_, _, e⟩ <;> rw [e]
      · exact h
      · exact h.handOver host a
      · exact served.serves engine _
      · exact served.handOver engine _
    · exact h
  · exact h

end Sys2Proof.Machine
end

section
namespace Sys2Proof.Machine

/-! ### What is in reception stays the beginning of a gate's frame (R126, R196) -/

theorem hear_start (bytes : List RxByte) :
    hear none (⟨frameStart, true⟩ :: bytes) = hear (some ⟨[], 0⟩) bytes := by
  rw [hear, List.foldl_cons, hearByte_between, if_pos rfl]
  rfl

theorem Reception.legal_iff (r : Reception) :
    r.legal = true ↔ r.seconds ≤ 1 ∧ hear (some ⟨[], 0⟩) (framed r.bytes) = ⟨some ⟨r.bytes, 0⟩, 0, []⟩ := by
  simp [Reception.legal, hear_start]

/-- A byte that leaves a legal frame incomplete leaves it legal. -/
theorem Reception.legal_snoc {r : Reception} (h : r.legal = true) {v : Byte}
    (incomplete : judgeFrame (r.bytes ++ [v]) = .incomplete) : Reception.legal ⟨r.bytes ++ [v], r.seconds⟩ = true := by
  obtain ⟨seconds, heard⟩ := r.legal_iff.1 h
  refine (Reception.legal_iff _).2 ⟨seconds, ?_⟩
  have next : hear (some ⟨r.bytes, 0⟩) [⟨v, true⟩] = ⟨some ⟨r.bytes ++ [v], 0⟩, 0, []⟩ := by
    simp [hear, hearByte, incomplete]
  rw [framed, List.map_append, ← framed, hear_append, heard]
  simp [next]

theorem hearByte_legal (h : Heard) (b : RxByte) (legal : h.reception.all Reception.legal = true) :
    (hearByte h b).reception.all Reception.legal = true := by
  obtain ⟨r, n, ms⟩ := h
  cases r with
  | none =>
    rw [hearByte_between]
    split
    · exact (Reception.legal_iff _).2 ⟨Nat.zero_le _, rfl⟩
    · rfl
  | some r =>
    rcases hearByte_inside r n ms b with ⟨_, incomplete, e⟩ | ⟨_, e⟩ | ⟨m, _, _, e⟩ <;> rw [e]
    · exact Reception.legal_snoc legal incomplete
    · rfl
    · rfl

theorem hear_legal (bytes : List RxByte) (r : Option Reception) (legal : r.all Reception.legal = true) :
    (hear r bytes).reception.all Reception.legal = true := by
  suffices ∀ h : Heard, h.reception.all Reception.legal = true →
      (bytes.foldl hearByte h).reception.all Reception.legal = true from this _ legal
  induction bytes with
  | nil => exact fun h legal => legal
  | cons b bytes ih => exact fun h legal => ih _ (hearByte_legal h b legal)

theorem receptionTicked_legal (r : Option Reception) (legal : r.all Reception.legal = true) :
    (receptionTicked r).all Reception.legal = true := by
  cases r with
  | none => rfl
  | some r =>
    simp only [receptionTicked]
    split
    · exact (Reception.legal_iff ⟨r.bytes, 1⟩).2 ⟨le_rfl, (r.legal_iff.1 legal).2⟩
    · rfl

/-! ### Gate events (R106, R108 to R113) -/

/-- Requests that stood before, beside the same engine. -/
theorem State.Coherent.fewer {s t : State} (h : s.Coherent) (a : t.Accords) (engine : t.engine = s.engine)
    (tap : ∀ l : Lane, t.arbiter.tapPending[l] = true → s.arbiter.tapPending[l] = true)
    (commit : ∀ l : Lane, t.arbiter.commitPending[l] = true → s.arbiter.commitPending[l] = true)
    (host : t.arbiter.hostRequest = true → s.arbiter.hostRequest = true) : t.Coherent := by
  refine t.coherent_iff.2 ⟨a, fun idle => ?_⟩
  obtain ⟨lanes, none, _⟩ := s.arbiter.quiet_iff.1 (h.quiet (engine ▸ idle))
  refine t.arbiter.quiet_iff.2 ⟨fun l => ⟨?_, ?_⟩, ?_, a.clearingRequest⟩
  · by_contra stands
    simpa [(lanes l).1] using tap l (by simpa using stands)
  · by_contra stands
    simpa [(lanes l).2] using commit l (by simpa using stands)
  · by_contra stands
    simpa [none] using host (by simpa using stands)

theorem LanePort.Coherent.tapped {p : LanePort} (h : p.Coherent) (idle : p.state = .idle)
    (forgot : p.expiredLast = false) (card : CardNumber) :
    LanePort.Coherent { p with tapped := some card, state := .pending } := by
  simp_all [LanePort.Coherent, LanePort.inHand]

theorem LanePort.Coherent.withdrawn {p : LanePort} (h : p.Coherent) (pending : p.state = .pending) {next : LaneState}
    (rest : next = .idle ∨ next = .down) : LanePort.Coherent { p with tapped := none, state := next } := by
  rcases rest with rfl | rfl <;> simp_all [LanePort.Coherent, LanePort.inHand]

theorem LanePort.Coherent.passed {p : LanePort} (h : p.Coherent) (awaiting : p.state = .awaiting) :
    LanePort.Coherent { p with secondsLeft := 0, state := .committing } := by
  simp_all [LanePort.Coherent, LanePort.inHand]

theorem LanePort.Alike.noted {p : LanePort} (deciding : p.state = .deciding) :
    p.Alike { p with cancelNoted := true } :=
  ⟨rfl, fun h => by simp_all [LanePort.Coherent, LanePort.inHand]⟩

/-- A tap placed at an IDLE lane, and the arbiter's grant (R106, R108). -/
theorem State.Coherent.placeTap {s : State} {l : Lane} (h : s.Coherent) (idle : (s.lane l).state = .idle)
    (forgot : (s.lane l).expiredLast = false) (serving : s.service = .serving) (card : CardNumber) :
    (s.placeTap l card).Coherent := by
  have before := h.accords.lane l
  have commit : s.arbiter.commitPending[l] = false := by simpa [idle] using before.commit
  have self : ((s.setLane l { s.lane l with tapped := some card, state := .pending }).setTapPending l true).lane l
      = { s.lane l with tapped := some card, state := .pending } := by simp
  refine State.Accords.settle (h.accords.stays (l := l) ((State.Apart.setLane s l _).trans (.setTapPending _ l true))
    (.unserved ?_ ?_ ?_ ?_ ?_ ?_ ?_ ?_) rfl (.inr serving) ?_)
  · rw [self]
    exact before.coherent.tapped idle forgot card
  · simp
  · simpa [idle] using before.deciding
  · exact mt before.committing (by simp [idle])
  · rw [self, State.setTapPending_get, if_pos rfl]
    simp
  · rw [self]
    simpa using commit
  · exact fun _ => serving
  · exact fun _ => before.inService (by simp [idle])
  · exact h.accords.decision

theorem State.Coherent.takeTap {s : State} (h : s.Coherent) (l : Lane) (card : CardNumber) :
    (s.takeTap l card).Coherent := by
  have forgets := State.Steady.setLane s l (.forgets (s.lane l))
  simp only [State.takeTap]
  split
  · exact h.steady (s.send_steady l _)
  · next idle =>
    split
    · exact h.steady (forgets.trans (State.send_steady _ l _))
    · next serving =>
      split
      · exact (h.steady forgets).placeTap (by simpa using idle) (by simp) (not_not.1 serving) card
      · exact h.steady (forgets.trans (State.send_steady _ l _))
  · split <;> exact h.steady (s.send_steady l _)

theorem State.Coherent.takePassed {s : State} (h : s.Coherent) (l : Lane) : (s.takePassed l).Coherent := by
  have late : State.Coherent (if (s.lane l).expiredLast then
      ((s.setLane l { s.lane l with expiredLast := false }).send l (.passageAnswer .late)).raise .latePassage
        (numberSubject l.val) else s.send l (.passageAnswer .notExpected)) := by
    split
    · exact h.steady ((State.Steady.setLane s l (.forgets _)).trans
        ((State.send_steady _ l _).trans (State.raise_steady _ _ _)))
    · exact h.steady (s.send_steady l _)
  simp only [State.takePassed]
  split
  · next awaiting =>
    have before := h.accords.lane l
    have self : ((s.setLane l { s.lane l with secondsLeft := 0, state := .committing }).setCommitPending l true).lane l
        = { s.lane l with secondsLeft := 0, state := .committing } := by simp
    have tap : s.arbiter.tapPending[l] = false := by simpa [awaiting] using before.tap
    refine State.Accords.settle (h.accords.stays (l := l) ((State.Apart.setLane s l _).trans (.setCommitPending _ l true))
      (.unserved ?_ ?_ ?_ ?_ ?_ ?_ ?_ ?_) rfl (.inl ?_) h.accords.decision)
    · rw [self]
      exact before.coherent.passed awaiting
    · simp
    · simpa [awaiting] using before.deciding
    · exact mt before.committing (by simp [awaiting])
    · rw [self]
      simpa using tap
    · rw [self, State.setCommitPending_get, if_pos rfl]
      simp
    · rw [self]
      simp
    · exact fun _ => before.inService (by simp [awaiting])
    · rw [self]
      simp [LanePort.inHand, awaiting]
  · exact late
  · exact late
  · exact h.steady (s.send_steady l _)

/-- A tap request withdrawn (R106, R111, R120, R123). -/
theorem State.Coherent.withdrawTap {s : State} {l : Lane} (h : s.Coherent) (pending : (s.lane l).state = .pending)
    (r : Reason) {next : LaneState} (rest : next = .idle ∨ next = .down) : (s.withdrawTap l r next).Coherent := by
  have before := h.accords.lane l
  have alike := (s.setTapPending l false).sent_alike l { s.lane l with tapped := none, state := next }
    (.refuse r FareFields.zero)
  have commit : s.arbiter.commitPending[l] = false := by simpa [pending] using before.commit
  have inHand : (s.lane l).inHand = false := by simp [LanePort.inHand, pending]
  have tap : ∀ k : Lane, (s.withdrawTap l r next).arbiter.tapPending[k] = if k = l then false
      else s.arbiter.tapPending[k] := fun k => by
    rw [State.withdrawTap, State.send_arbiter, State.setLane_arbiter, State.setTapPending_get]
  have state : ((s.withdrawTap l r next).lane l).state = next := alike.state
  have out : ((s.withdrawTap l r next).lane l).inHand = false := LanePort.inHand_of_rest (by rwa [state])
  have inService : (s.withdrawTap l r next).inService = true := by
    rw [State.inService, State.withdrawTap_service]
    exact before.inService (by simp [pending])
  refine h.fewer (h.accords.stays (l := l) ((State.Apart.setTapPending s l false).trans (.sent _ l _ _))
    (.of_rest (alike.coherent (before.coherent.withdrawn pending rest)) ?_ ((tap l).trans (if_pos rfl)) ?_ ?_ ?_)
    (s.withdrawTap_service l r next) (.inl (out.trans inHand.symm)) ?_) (s.withdrawTap_engine l r next)
    (fun k stands => ?_) ?_ ?_
  · exact rest.imp (fun e => ⟨state.trans e, inService⟩) state.trans
  · simpa [State.withdrawTap] using commit
  · simpa [pending] using before.deciding
  · simpa using mt before.committing (by simp [pending])
  · simpa using h.accords.decision
  · rw [tap] at stands
    split at stands
    · cases stands
    · exact stands
  · simp [State.withdrawTap]
  · simp [State.withdrawTap, State.setTapPending]

theorem State.Coherent.takeWalkaway {s : State} (h : s.Coherent) (l : Lane) : (s.takeWalkaway l).Coherent := by
  unfold State.takeWalkaway
  split
  · next awaiting => exact h.ended awaiting (s.endUnpassed_ended l _ _)
  · exact h.steady (s.send_steady l _)

theorem State.Coherent.takeCancel {s : State} (h : s.Coherent) (l : Lane) : (s.takeCancel l).Coherent := by
  simp only [State.takeCancel]
  split
  · next pending => exact h.withdrawTap pending _ (.inl rfl)
  · next deciding => exact h.steady (.setLane s l (.noted deciding))
  · next awaiting => exact h.ended awaiting (s.endUnpassed_ended l _ _)
  · exact h

/-- A gate's message in its frame. -/
theorem State.Coherent.takeFrame {s : State} (h : s.Coherent) (l : Lane) (m : GateMessage) {take : State → State}
    (taken : ∀ t : State, t.Coherent → (take t).Coherent) : (s.takeFrame l m take).Coherent := by
  rcases s.takeFrame_cases l m take with ⟨_, e⟩ | ⟨_, e⟩ <;> rw [e]
  · exact taken _ (h.steady (s.endFrame_steady l))
  · exact h

/-! ### Second events (R72, R112, R126) -/

theorem LanePort.Alike.timed {p : LanePort} (runs : ¬p.expires = true) : p.Alike p.timed := by
  rw [LanePort.timed, if_neg runs]
  split
  · next awaiting =>
    refine ⟨rfl, fun h => ?_⟩
    have more : 1 < p.secondsLeft := by simpa [p.expires_iff, awaiting] using runs
    have within := h.2.2.1 awaiting
    obtain ⟨tapped, verdict, _, _, noted, closing, expired, rest⟩ := h
    exact ⟨tapped, verdict, fun _ => ⟨by simp only; omega, by simp only; omega⟩, fun still => absurd awaiting still,
      noted, closing, expired, rest⟩
  · exact .refl p

theorem State.Coherent.tickLane {s : State} (h : s.Coherent) (l : Lane) : (s.tickLane l).Coherent := by
  have framed : ∀ t : State, t.Steady (t.tickFrame l) := fun t => by
    rw [t.tickFrame_eq]
    exact (State.Steady.setLane t l (.received _ _ (receptionTicked_legal _))).trans (State.raiseLaneFaults_steady _ l _)
  refine State.Coherent.steady ?_ (framed _)
  by_cases expires : (s.lane l).expires = true
  · exact h.ended ((s.lane l).expires_iff.1 expires).1 (s.tickTimer_expires l expires)
  · rw [s.tickTimer_runs l expires]
    exact h.steady (.setLane s l (.timed expires))

theorem State.Coherent.secondEvent {s : State} (h : s.Coherent) : s.secondEvent.Coherent := by
  have lanes : ∀ (ls : List Lane) (t : State), t.Coherent → (ls.foldl State.tickLane t).Coherent := fun ls => by
    induction ls with
    | nil => exact fun t h => h
    | cons l ls ih => exact fun t h => ih _ (h.tickLane l)
  exact (lanes _ _ (h.steady (s.portOrder_steady _))).steady (State.countSecond_steady _)

end Sys2Proof.Machine
end

section
namespace Sys2Proof.Machine

/-! ### Where every lane is DOWN: clearing, START and the resets (R17, R187, R189, R190) -/

/-- Lanes that are all DOWN, before an engine that serves none of them. -/
theorem State.accords_of_down {t : State} (lane : ∀ l, (t.lane l).Coherent ∧ (t.lane l).state = .down)
    (tap : ∀ l : Lane, t.arbiter.tapPending[l] = false) (commit : ∀ l : Lane, t.arbiter.commitPending[l] = false)
    (decision : t.engine.decision = none) (commits : t.engine.commit = none) (link : t.LinkServed)
    (clearingRequest : t.arbiter.clearingRequest = false) (clearing : t.service = .clearing ↔ t.engine.clearingAt ≠ none)
    (running : t.service ≠ .halting) : t.Accords := by
  refine ⟨fun l => .of_rest (lane l).1 (.inr (lane l).2) (tap l) (commit l) (by simp [decision]) (by simp [commits]),
    fun d e => ?_, link, clearingRequest, clearing, fun v => absurd v running, fun _ => ?_⟩
  · rw [e] at decision
    cases decision
  · exact t.lanesInHand_eq_zero_iff.2 fun l => LanePort.inHand_of_rest (.inr (lane l).2)

/-- In CLEARING every lane is DOWN without a request. -/
theorem State.Accords.all_down {s : State} (h : s.Accords) (service : s.inService = false) (l : Lane) :
    (s.lane l).state = .down ∧ s.arbiter.tapPending[l] = false ∧ s.arbiter.commitPending[l] = false := by
  obtain ⟨_, tap, _, commit, _, _, down⟩ := h.lane l
  have state := down service
  exact ⟨state, by simpa [state] using tap, by simpa [state] using commit⟩

theorem State.Coherent.clears {s : State} {n : Nat} (h : s.Coherent) (he : s.engine = .clearing n) (m : Nat) :
    State.Coherent { s with engine := .clearing m } := by
  refine State.Accords.coherent (h.accords.engaged rfl rfl rfl rfl rfl ?_ ?_ ?_
    (h.accords.link.congr rfl rfl ?_) (by simp)) (by simp)
  · simp [he, Engine.decision]
  · simp [he, Engine.commit]
  · simp [he, Engine.clearingAt]
  · simp [he, Engine.hostOp]

/-- The end of the clearing, and the arbiter's next grant (R132, R190). -/
theorem State.Coherent.cleared {s : State} {n : Nat} (h : s.Coherent) (he : s.engine = .clearing n) :
    State.Coherent (State.engineDone { s with service := .serving }) := by
  have service : s.service = .clearing := h.accords.clearing.2 (by simp [he, Engine.clearingAt])
  have down := h.accords.all_down (by simp [State.inService, service])
  refine State.Accords.settle (State.accords_of_down (fun l => ⟨(h.accords.lane l).coherent, (down l).1⟩)
    (fun l => (down l).2.1) (fun l => (down l).2.2) rfl rfl (h.accords.link.congr rfl rfl ?_) h.accords.clearingRequest
    ?_ ?_)
  · simp [he, Engine.hostOp]
  · simp [Engine.clearingAt]
  · simp

theorem State.Steady.linkFree {s t : State} (h : s.Steady t) : t.linkFree = s.linkFree :=
  State.linkFree_congr h.affairs_eq.2.2.2.2.2.1

/-- Where START may be taken the engine is idle (R185). -/
theorem State.Coherent.idle {s : State} (h : s.Coherent) (free : s.linkFree = true)
    (service : s.service = .unstarted ∨ s.service = .resumable ∨ s.service = .halted) : s.engine = .idle := by
  have out : ∀ l, (s.lane l).inHand = false := fun l => by
    rcases service with v | v | v
    · exact LanePort.inHand_of_rest (.inr (h.accords.all_down (by simp [State.inService, v]) l).1)
    · exact LanePort.inHand_of_rest (.inr (h.accords.all_down (by simp [State.inService, v]) l).1)
    · exact s.lanesInHand_eq_zero_iff.1 (h.accords.halted v) l
  cases e : s.engine with
  | idle => rfl
  | deciding d =>
    have deciding := (h.accords.lane d.lane).deciding.2 (by simp [e, Engine.decision])
    simpa [LanePort.inHand, deciding] using out d.lane
  | committing c =>
    have committing := (h.accords.lane c.lane).committing (by simp [e, Engine.commit])
    simpa [LanePort.inHand, committing] using out c.lane
  | host x =>
    have executed := h.accords.link.host x e
    simp [State.linkFree, executed] at free
  | clearing n =>
    have clearing := h.accords.clearing.2 (by simp [e, Engine.clearingAt])
    rcases service with v | v | v <;> simp [v] at clearing

theorem LanePort.Coherent.atStart {p : LanePort} (h : p.Coherent) : p.atStart.Coherent := by
  obtain ⟨_, _, _, _, _, _, _, least, most, queue, reception⟩ := h
  refine ⟨by simp [LanePort.atStart], by simp [LanePort.atStart], nofun, fun _ => rfl, nofun, nofun, fun _ => .inl rfl,
    least, most, ?_, reception⟩
  simp only [LanePort.atStart]
  split
  · next room => simpa using room.2
  · exact queue

/-- START, with the clearing granted at the same event (R17, R189). -/
theorem State.Coherent.started {s : State} (h : s.Coherent) (free : s.linkFree = true)
    (service : s.service = .unstarted ∨ s.service = .resumable ∨ s.service = .halted) (g : Geometry) :
    (((s.started g).raiseStartFaults s).settle).Coherent := by
  have idle := h.idle free service
  obtain ⟨tap, commit, host, clearing, engine, executed, starts⟩ :=
    (State.raiseStartFaults_steady (s.started g) s).affairs_eq
  have alike := (State.raiseStartFaults_steady (s.started g) s).lane
  generalize (s.started g).raiseStartFaults s = u at *
  have started : ∀ l, (s.started g).lane l = (s.lane l).atStart := fun l => by simp [State.lane, State.started]
  have grant : u.settle = { u.setClearingRequest false with engine := .clearing 0 } := by
    have next : u.nextGrant = some .clearing := by simp [State.nextGrant, clearing, State.started]
    rcases u.settle_cases with ⟨busy, _⟩ | ⟨_, none, _⟩ | ⟨g, _, some, e⟩
    · exact absurd (engine.trans idle) busy
    · simp [none] at next
    · rw [next] at some
      cases some
      exact e
  rw [grant]
  refine State.Accords.coherent (State.accords_of_down (fun l => ⟨?_, ?_⟩) (fun l => ?_) (fun l => ?_) rfl rfl
    ⟨?_, by simp, ?_⟩ rfl ?_ ?_) (by simp)
  · refine (alike l).coherent ?_
    rw [started]
    exact (h.accords.lane l).coherent.atStart
  · refine (alike l).state.trans ?_
    rw [started]
    rfl
  · change u.arbiter.tapPending[l] = false
    rw [tap]
    simp [State.started, Arbiter.reset]
  · change u.arbiter.commitPending[l] = false
    rw [commit]
    simp [State.started, Arbiter.reset]
  · change u.arbiter.hostRequest = true → _
    rw [host]
    exact nofun
  · have none : u.linkFree = true := (State.linkFree_congr executed).trans free
    exact fun busy => absurd (none.symm.trans busy) (by simp)
  · change u.service = _ ↔ _
    rw [starts]
    simp [State.started, Engine.clearingAt]
  · change u.service ≠ _
    rw [starts]
    simp [State.started]

theorem LanePort.reset_coherent : LanePort.reset.Coherent := by
  simp [LanePort.Coherent, LanePort.reset]

/-- The blocks after a reset (R186, R187). -/
theorem State.coherent_of_reset {t : State} (lanes : t.lanes = Vector.replicate 12 LanePort.reset)
    (arbiter : t.arbiter = Arbiter.reset) (engine : t.engine = .idle) (link : t.link = Link.reset)
    (service : t.service = .unstarted ∨ t.service = .resumable) : t.Coherent := by
  have lane : ∀ l, t.lane l = LanePort.reset := fun l => by simp [State.lane, lanes]
  refine t.coherent_iff.2 ⟨State.accords_of_down (fun l => ?_) (fun l => ?_) (fun l => ?_) ?_ ?_ ⟨?_, ?_, ?_⟩ ?_ ?_ ?_,
    fun _ => t.arbiter.quiet_iff.2 ⟨fun l => ?_, ?_⟩⟩
  · rw [lane]
    exact ⟨LanePort.reset_coherent, rfl⟩
  · simp [arbiter, Arbiter.reset]
  · simp [arbiter, Arbiter.reset]
  · rw [engine]; rfl
  · rw [engine]; rfl
  · rw [arbiter]; exact nofun
  · simp [engine]
  · simp [State.linkFree, link, Link.reset, Phase.executed]
  · rw [arbiter]; rfl
  · rcases service with v | v <;> simp [v, engine, Engine.clearingAt]
  · rcases service with v | v <;> simp [v]
  · simp [arbiter, Arbiter.reset]
  · simp [arbiter, Arbiter.reset]

theorem State.warmReset_coherent (s : State) : s.warmReset.Coherent := by
  unfold State.warmReset
  split
  · exact State.coherent_of_reset rfl rfl rfl rfl (.inr rfl)
  · exact State.coherent_of_reset rfl rfl rfl rfl (.inl rfl)

/-! ### HALT, CONTINUE and RESUME (R184, R191 to R193) -/

/-- A service state written that the lanes allow, in a service state with the engine at no clearing. -/
theorem State.Coherent.setService {s : State} (h : s.Coherent) {v : Service} (running : s.service ≠ .clearing)
    (states : v = .serving ∨ v = .halting ∧ s.lanesInHand ≠ 0 ∨ v = .halted ∧ s.lanesInHand = 0)
    (pending : v ≠ .serving → ∀ l, (s.lane l).state ≠ .pending) : State.Coherent { s with service := v } := by
  obtain ⟨lane, decision, link, clearingRequest, clearing, _, _⟩ := h.accords
  have inService : State.inService { s with service := v } = true := by
    rcases states with rfl | ⟨rfl, _⟩ | ⟨rfl, _⟩ <;> rfl
  refine (State.coherent_iff _).2 ⟨⟨fun l => ?_, decision, link.congr rfl rfl rfl, clearingRequest, ?_, ?_, ?_⟩, h.quiet⟩
  · obtain ⟨coherent, tap, deciding, commit, committing, _, _⟩ := lane l
    exact ⟨coherent, tap, deciding, commit, committing, fun out => pending out l,
      fun out => absurd (inService.symm.trans out) (by simp)⟩
  · have still : s.engine.clearingAt = none := by
      by_contra busy
      exact running (clearing.2 busy)
    rcases states with rfl | ⟨rfl, _⟩ | ⟨rfl, _⟩ <;> simp [still]
  · rcases states with rfl | ⟨rfl, hands⟩ | ⟨rfl, _⟩
    · simp
    · exact fun _ => hands
    · simp
  · rcases states with rfl | ⟨rfl, _⟩ | ⟨rfl, empty⟩
    · simp
    · simp
    · exact fun _ => empty

/-- The halt notice at one lane: it is no longer PENDING, and every other is as it was (R120). -/
theorem State.haltLane_state (s : State) (l k : Lane) :
    ((s.haltLane l).lane k).state = .pending ↔ k ≠ l ∧ (s.lane k).state = .pending := by
  unfold State.haltLane
  by_cases hk : k = l
  · subst hk
    split
    · have alike := (s.setTapPending k false).sent_alike k { s.lane k with tapped := none, state := .idle }
        (.refuse .notInService FareFields.zero)
      simp [show ((s.withdrawTap k .notInService .idle).lane k).state = .idle from alike.state]
    · next other => simpa using other
  · have other := (State.Apart.sent (s.setTapPending l false) l { s.lane l with tapped := none, state := .idle }
      (.refuse .notInService FareFields.zero)).lane k hk
    split
    · simp [hk, show ((s.withdrawTap l .notInService .idle).lane k).state = (s.lane k).state from other.state]
    · simp [hk]

theorem State.Coherent.haltLane {s : State} (h : s.Coherent) (l : Lane) :
    (s.haltLane l).Coherent ∧ (s.haltLane l).service = s.service ∧ (s.haltLane l).link = s.link := by
  unfold State.haltLane
  split
  · next pending => exact ⟨h.withdrawTap pending _ (.inl rfl), by simp, by simp⟩
  · exact ⟨h, rfl, rfl⟩

/-- After the halt notice no lane is PENDING. -/
theorem State.Coherent.haltNotice {s : State} (h : s.Coherent) :
    s.haltNotice.Coherent ∧ s.haltNotice.service = s.service ∧ s.haltNotice.link = s.link
      ∧ ∀ l, (s.haltNotice.lane l).state ≠ .pending := by
  have lanes : ∀ (ls : List Lane) (t : State), t.Coherent →
      (ls.foldl State.haltLane t).Coherent ∧ (ls.foldl State.haltLane t).service = t.service
        ∧ (ls.foldl State.haltLane t).link = t.link
        ∧ ∀ k, ((ls.foldl State.haltLane t).lane k).state = .pending → k ∉ ls ∧ (t.lane k).state = .pending := fun ls => by
    induction ls with
    | nil => exact fun t h => ⟨h, rfl, rfl, fun _ pending => ⟨List.not_mem_nil, pending⟩⟩
    | cons l ls ih =>
      intro s h
      obtain ⟨first, service, link⟩ := h.haltLane l
      obtain ⟨rest, services, links, left⟩ := ih _ first
      refine ⟨rest, services.trans service, links.trans link, fun k pending => ?_⟩
      obtain ⟨after, still⟩ := left k pending
      obtain ⟨other, before⟩ := (s.haltLane_state l k).1 still
      exact ⟨by simp [other, after], before⟩
  have order := State.portOrder_steady s ((List.finRange 12).countP fun l => (s.lane l).faultsAtHalt)
  have every := State.portOrder_perm s ((List.finRange 12).countP fun l => (s.lane l).faultsAtHalt)
  have same := State.portOrder_eq s ((List.finRange 12).countP fun l => (s.lane l).faultsAtHalt)
  obtain ⟨rest, service, link, left⟩ := lanes _ _ (h.steady order)
  refine ⟨rest, service.trans ?_, link.trans ?_, fun k pending => (left k pending).1 (every.mem_iff.2 (List.mem_finRange k))⟩
  · rw [same]
  · rw [same]

end Sys2Proof.Machine
end

section
namespace Sys2Proof.Machine

/-! ### What the owners of DIRECT commands do (R122 to R124, R185) -/

/-- A coherent state whose link has no command in EXECUTING. -/
structure State.Listens (s : State) : Prop where
  coherent : s.Coherent
  free : s.linkFree = true

theorem State.Listens.steady {s t : State} (h : s.Listens) (e : s.Steady t) : t.Listens :=
  ⟨h.coherent.steady e, e.linkFree.trans h.free⟩

/-- A state with the link of one that has no command in EXECUTING. -/
theorem State.Listens.with {s t : State} (h : s.Listens) (coherent : t.Coherent) (link : t.link = s.link) : t.Listens :=
  ⟨coherent, (State.linkFree_congr (by rw [link])).trans h.free⟩

/-- DOWN to IDLE and IDLE to DOWN, with no mark left of what was (R122, R123). -/
theorem LanePort.Coherent.moved {p : LanePort} (h : p.Coherent) (rest : p.state = .idle ∨ p.state = .down) :
    LanePort.Coherent { p with state := .idle, expiredLast := false, closeRequested := false, cancelNoted := false }
    ∧ LanePort.Coherent { p with state := .down } := by
  rcases rest with e | e <;> simp_all [LanePort.Coherent, LanePort.inHand]

/-- A lane at rest moved to IDLE or DOWN, and its gate told (R122, R123). -/
theorem State.Coherent.moveLane {s : State} {l : Lane} {p : LanePort} (h : s.Coherent)
    (before : (s.lane l).state = .idle ∨ (s.lane l).state = .down) (coherent : p.Coherent)
    (after : p.state = .idle ∧ s.inService = true ∨ p.state = .down) (m : Message) :
    ((s.setLane l p).send l m).Coherent := by
  have here := h.accords.lane l
  have alike := s.sent_alike l p m
  have rest : p.state = .idle ∨ p.state = .down := after.imp_left And.left
  have out : (((s.setLane l p).send l m).lane l).inHand = (s.lane l).inHand := by
    rw [alike.inHand, LanePort.inHand_of_rest rest, LanePort.inHand_of_rest before]
  have tap : s.arbiter.tapPending[l] = false := by rcases before with e | e <;> simpa [e] using here.tap
  have commit : s.arbiter.commitPending[l] = false := by rcases before with e | e <;> simpa [e] using here.commit
  refine h.fewer (h.accords.stays (State.Apart.sent s l p m) (.of_rest (alike.coherent coherent) ?_ ?_ ?_ ?_ ?_) ?_
    (.inl out) ?_) ?_ ?_ ?_ ?_
  · rw [alike.state, State.inService, State.send_service]
    exact after
  · simpa using tap
  · simpa using commit
  · rcases before with e | e <;> simpa [e] using here.deciding
  · rcases before with e | e <;> simpa using mt here.committing (by simp [e])
  · simp
  · simpa using h.accords.decision
  all_goals simp

theorem ownLaneOpen_listens {s : State} (h : s.Listens) (service : s.inService = true) (lane : Word) :
    (ownLaneOpen lane s).1.Listens := by
  unfold ownLaneOpen
  split
  · exact h
  · next l _ =>
    simp only
    split
    · exact h
    · next opens =>
      have down : (s.lane l).state = .down := by
        by_contra up
        exact opens (.inr up)
      exact h.with (h.coherent.moveLane (.inr down) ((h.coherent.accords.lane l).coherent.moved (.inr down)).1
        (.inl ⟨rfl, service⟩) _) (by simp [State.ok])

theorem ownLaneClose_listens {s : State} (h : s.Listens) (lane : Word) : (ownLaneClose lane s).1.Listens := by
  unfold ownLaneClose
  split
  · exact h
  · next l _ =>
    have coherent := (h.coherent.accords.lane l).coherent
    simp only
    split
    · exact h
    · next idle =>
      exact h.with (h.coherent.moveLane (.inl idle) (coherent.moved (.inl idle)).2 (.inr rfl) _) (by simp [State.ok])
    · next pending =>
      exact h.with ((h.coherent.withdrawTap pending _ (.inr rfl)).steady (State.send_steady _ l _)) (by simp [State.ok])
    · next down idle pending =>
      have inHand : (s.lane l).inHand = true := by
        cases e : (s.lane l).state <;> simp_all [LanePort.inHand]
      refine h.steady (.setLane s l ⟨rfl, fun c => ?_⟩)
      simp_all [LanePort.Coherent, LanePort.inHand]

theorem ownLaneSet_listens {s : State} (h : s.Listens) (lane b k c t : Word) : (ownLaneSet lane b k c t s).1.Listens := by
  unfold ownLaneSet
  split
  · next l b k c _ _ _ _ =>
    split
    · next timer =>
      simp only
      split
      · next down =>
        refine h.steady (.setLane s l ⟨rfl, fun coherent => ?_⟩)
        simp_all [LanePort.Coherent, LanePort.inHand]
      · exact h
    · exact h
  · exact h

theorem ownStart_listens {s : State} (h : s.Listens) (k p : Word) : (ownStart k p s).1.Listens := by
  have taken (service : s.service = .unstarted ∨ s.service = .resumable ∨ s.service = .halted) :
      (if 10 ≤ k.toNat ∧ k.toNat ≤ 18 ∧ 1 ≤ p.toNat ∧ p.toNat ≤ 8 then
        ((s.started ⟨k.toNat, p.toNat⟩).raiseStartFaults s).settle.ok else s.refuse .badOperand).1.Listens := by
    split
    · refine ⟨h.coherent.started h.free service _, ?_⟩
      have starts := (State.raiseStartFaults_steady (s.started ⟨k.toNat, p.toNat⟩) s).linkFree
      have settled := State.settle_link ((s.started ⟨k.toNat, p.toNat⟩).raiseStartFaults s)
      exact (State.linkFree_congr (by rw [State.ok, settled])).trans (starts.trans h.free)
    · exact h
  cases v : s.service with
  | clearing =>
    simp only [ownStart, v]
    exact h
  | serving =>
    simp only [ownStart, v]
    exact h
  | halting =>
    simp only [ownStart, v]
    exact h
  | unstarted => simpa only [ownStart, v] using taken (.inl v)
  | resumable => simpa only [ownStart, v] using taken (.inr (.inl v))
  | halted => simpa only [ownStart, v] using taken (.inr (.inr v))

theorem ownHalt_listens {s : State} (h : s.Listens) : (ownHalt s).1.Listens := by
  unfold ownHalt
  split
  · exact h
  · exact h
  · exact h
  · exact h
  · exact h
  · next serving =>
    obtain ⟨coherent, service, link, withdrawn⟩ := h.coherent.haltNotice
    refine h.with (coherent.setService (by rw [service, serving]; simp) ?_ fun _ => withdrawn) link
    split
    · next empty => exact .inr (.inr ⟨rfl, empty⟩)
    · next hands => exact .inr (.inl ⟨rfl, hands⟩)

theorem ownResume_listens {s : State} (h : s.Listens) : (ownResume s).1.Listens := by
  unfold ownResume
  split
  · next resumable =>
    have serving := h.coherent.setService (v := .serving) (by simp [resumable]) (.inl rfl) (absurd rfl)
    exact h.with (serving.steady (.of_rest rfl rfl)) rfl
  · exact h
  · exact h

theorem ownContinue_listens {s : State} (h : s.Listens) : (ownContinue s).1.Listens := by
  unfold ownContinue
  split
  · next halted => exact h.with (h.coherent.setService (v := .serving) (by simp [halted]) (.inl rfl) (absurd rfl)) rfl
  · exact h
  · exact h
  · exact h

theorem State.warmReset_listens (s : State) : s.warmReset.Listens := by
  refine ⟨s.warmReset_coherent, ?_⟩
  unfold State.warmReset
  split <;> rfl

theorem ownDepartureDefine_listens {s : State} (h : s.Listens) (d b r t c m f a : Word) :
    (ownDepartureDefine d b r t c m f a s).1.Listens := by
  unfold ownDepartureDefine
  split
  · split
    · split
      · exact h
      · split
        · exact h.steady (s.setDep_steady _ _)
        · exact h
    · exact h
  · exact h

theorem ownDepartureOpen_listens {s : State} (h : s.Listens) (d : Word) : (ownDepartureOpen d s).1.Listens := by
  unfold ownDepartureOpen
  split
  · exact h
  · split
    · exact h.steady (s.setDep_steady _ _)
    · exact h

theorem ownDepartureClose_listens {s : State} (h : s.Listens) (d : Word) : (ownDepartureClose d s).1.Listens := by
  unfold ownDepartureClose
  split
  · exact h
  · simp only
    split
    · split
      · exact h.steady (.of_rest rfl rfl)
      · exact h.steady (s.setDep_steady _ _)
    · exact h

theorem ownDepartureSetCapacity_listens {s : State} (h : s.Listens) (d c m : Word) :
    (ownDepartureSetCapacity d c m s).1.Listens := by
  unfold ownDepartureSetCapacity
  split
  · exact h
  · simp only
    split
    · split
      · split
        · exact h.steady (s.changeDep_steady _ _)
        · exact h
      · exact h
    · exact h

theorem ownDepartureLink_listens {s : State} (h : s.Listens) (d f : Word) : (ownDepartureLink d f s).1.Listens := by
  unfold ownDepartureLink
  split
  · simp only
    split
    · split
      · exact h.steady (s.setDep_steady _ _)
      · exact h
    · exact h
  · exact h

theorem ownDepartureRetire_listens {s : State} (h : s.Listens) (d : Word) : (ownDepartureRetire d s).1.Listens := by
  unfold ownDepartureRetire
  split
  · exact h
  · split
    · exact h.steady (.of_rest rfl rfl)
    · exact h

theorem ownBerthSetCurrent_listens {s : State} (h : s.Listens) (b d : Word) : (ownBerthSetCurrent b d s).1.Listens := by
  unfold ownBerthSetCurrent
  split
  · exact h.steady (.of_rest rfl rfl)
  · split
    · exact h
    · split
      · exact h.steady (.of_rest rfl rfl)
      · exact h
  · exact h

/-- The last grant of a class written, as SET BOTTOM does. -/
theorem State.setLast_steady (s : State) (c : LaneClass) (l : Lane) :
    s.Steady { s with arbiter := s.arbiter.setLast c l } :=
  .of_rest rfl (by simp [State.affairs])

/-- Commands of the group of the lanes and departures are taken in service alone (R165). -/
theorem State.inService_of_judged {s : State} (judged : judgeGroup .service s.service = none) : s.inService = true := by
  cases e : s.service <;> simp_all [judgeGroup, State.inService]

/-- The owner of a DIRECT command that the service state does not refuse. -/
theorem owner_listens (c : Cmd) (ws : List Word) {s : State} (h : s.Listens)
    (judged : judgeGroup c.group s.service = none) : (owner c ws s).1.Listens := by
  cases c with
  | start => exact ownStart_listens h _ _
  | resume => exact ownResume_listens h
  | halt => exact ownHalt_listens h
  | continueService => exact ownContinue_listens h
  | restart => exact s.warmReset_listens
  | laneOpen => exact ownLaneOpen_listens h (State.inService_of_judged judged) _
  | laneClose => exact ownLaneClose_listens h _
  | laneSet => exact ownLaneSet_listens h _ _ _ _ _
  | departureDefine => exact ownDepartureDefine_listens h _ _ _ _ _ _ _ _
  | departureOpen => exact ownDepartureOpen_listens h _
  | departureClose => exact ownDepartureClose_listens h _
  | departureSetCapacity => exact ownDepartureSetCapacity_listens h _ _ _
  | departureLink => exact ownDepartureLink_listens h _ _
  | departureRetire => exact ownDepartureRetire_listens h _
  | berthSetCurrent => exact ownBerthSetCurrent_listens h _ _
  | keep =>
    simp only [owner, ownKeep]
    split <;> exact h.steady (.of_rest rfl rfl)
  | setTime =>
    simp only [owner, ownSetTime]
    split
    · exact h.steady (s.setClock_steady _ _)
    · exact h
  | newDay =>
    simp only [owner, ownNewDay]
    split
    · exact h.steady (s.setClock_steady _ _)
    · exact h
  | setDay =>
    simp only [owner, ownSetDay]
    split
    · exact h.steady (s.setClock_steady _ _)
    · exact h
  | departureRead =>
    simp only [owner, ownDepartureRead]
    repeat' split
    all_goals exact h
  | laneRead =>
    simp only [owner, ownLaneRead]
    split <;> exact h
  | arbiterMode =>
    simp only [owner, ownArbiterMode]
    split <;> exact h.steady (.of_rest rfl rfl)
  | setBottom =>
    simp only [owner, ownSetBottom]
    split
    · exact h
    · exact h.steady (s.setLast_steady _ _)
  | attentionAck =>
    simp only [owner, ownAttentionAck]
    split <;> exact h.steady (.of_rest rfl rfl)
  | attentionMask =>
    simp only [owner, ownAttentionMask]
    split <;> exact h.steady (.of_rest rfl rfl)
  | _ => exact h

end Sys2Proof.Machine
end

section
namespace Sys2Proof.Machine

/-! ### The host's words (R162 to R167) -/

theorem Phase.dropCarried_executed (p : Phase) : p.dropCarried.executed = p.executed := by
  cases p <;> rfl

namespace State

theorem Listens.setPhase {s : State} (h : s.Listens) {p : Phase} (hp : p.executed = none) : (s.setPhase p).Coherent :=
  h.coherent.steady (s.setPhase_steady h.free hp)

theorem Listens.answerLink {s : State} (h : s.Listens) (a : Answer) : (s.answerLink a).Coherent :=
  h.coherent.steady (s.answerLink_steady h.free a)

theorem Listens.direct {s : State} (h : s.Listens) (c : Cmd) (ws : List Word) : (s.direct c (owner c ws)).Coherent := by
  rcases s.direct_cases c (owner c ws) with ⟨code, _, e⟩ | ⟨judged, taken⟩
  · exact e ▸ h.answerLink _
  · have owned := owner_listens c ws h judged
    rcases taken with ⟨t, a, ho, e⟩ | ⟨t, ho, e⟩ <;> rw [ho] at owned <;> rw [e]
    · exact owned.answerLink a
    · exact owned.coherent

/-- A host request raised, and the arbiter's grant (R132, R165). -/
theorem Listens.request {s : State} (h : s.Listens) (c : Cmd) (ws : List Word) : (s.request c ws).Coherent := by
  have accords := h.coherent.accords
  have unserved : s.engine.hostOp = none := by
    by_contra host
    obtain ⟨x, e⟩ := Option.ne_none_iff_exists'.1 host
    have executed := accords.link.host x (Engine.hostOp_eq_some.1 e)
    simpa [State.linkFree, executed] using h.free
  unfold State.request
  split
  · exact h.answerLink _
  · refine State.Accords.settle (accords.engaged rfl rfl rfl rfl rfl rfl rfl rfl
      ⟨fun _ => ⟨rfl, unserved⟩, fun x e => ?_, fun _ => .inl rfl⟩ accords.decision)
    have host : s.engine.hostOp = some x := Engine.hostOp_eq_some.2 e
    simp [unserved] at host

theorem Listens.dispatch {s : State} (h : s.Listens) (c : Cmd) (ws : List Word) : (s.dispatch c ws).Coherent := by
  unfold State.dispatch
  split
  · exact h.request c ws
  · exact h.direct c ws

theorem Listens.beginCommand {s : State} (h : s.Listens) (w : Word) : (s.beginCommand w).Coherent := by
  unfold State.beginCommand
  split
  · exact h.setPhase rfl
  · split
    · exact h.dispatch _ _
    · exact h.setPhase rfl

theorem Listens.wordReady {s : State} (h : s.Listens) (k : Kind) (w : Word) : (s.wordReady k w).Coherent := by
  unfold State.wordReady
  split
  · exact h.beginCommand w
  · exact h.setPhase rfl
  · exact h.setPhase rfl

theorem Listens.wordCollecting {s : State} (h : s.Listens) (c : Cmd) (n : Nat) (ws : List Word) (k : Kind) (w : Word) :
    (s.wordCollecting c n ws k w).Coherent := by
  cases k with
  | operand =>
    simp only [State.wordCollecting]
    split
    · exact h.dispatch _ _
    · exact h.setPhase rfl
  | idle => exact h.coherent
  | command => exact h.setPhase rfl
  | abort => exact h.setPhase rfl
  | other => exact h.setPhase rfl

theorem Listens.wordResults {s : State} (h : s.Listens) (left : List Entry) (k : Kind) (w : Word) :
    (s.wordResults left k w).Coherent := by
  unfold State.wordResults
  split
  · exact h.beginCommand w
  · exact h.setPhase rfl
  · split
    · exact Listens.wordReady ⟨h.setPhase rfl, rfl⟩ _ w
    · exact h.coherent
  · split
    · exact h.setPhase rfl
    · exact h.coherent

/-- ABORT in EXECUTING: a request not yet granted is withdrawn, and one in service is marked (R166). -/
theorem Coherent.wordExecuting {s : State} (h : s.Coherent) {c : Cmd} {ws : List Word} {late : Bool}
    (executing : s.link.phase = .executing c ws late) (k : Kind) : (s.wordExecuting c ws late k).Coherent := by
  unfold State.wordExecuting
  split
  · split
    · next stands =>
      have unserved := (h.accords.link.request stands).2
      refine h.fewer (h.accords.engaged rfl rfl rfl rfl rfl rfl rfl rfl ⟨nofun, fun x e => ?_, nofun⟩ h.accords.decision)
        rfl (fun _ => id) (fun _ => id) nofun
      have host : s.engine.hostOp = some x := Engine.hostOp_eq_some.2 e
      simp [unserved] at host
    · refine h.steady ⟨fun _ => .refl _, ?_⟩
      simp [State.affairs, State.setPhase, executing, Phase.executed]
  · exact h

theorem Coherent.takeWord {s : State} (h : s.Coherent) (k : Kind) (w : Word) : (s.takeWord k w).Coherent := by
  have free (phase : s.link.phase.executed = none) : s.Listens := ⟨h, Option.isNone_iff_eq_none.2 phase⟩
  cases e : s.link.phase with
  | ready =>
    simp only [State.takeWord, e]
    exact (free (by rw [e]; rfl)).wordReady k w
  | collecting c n ws =>
    simp only [State.takeWord, e]
    exact (free (by rw [e]; rfl)).wordCollecting c n ws k w
  | executing c ws late =>
    simp only [State.takeWord, e]
    exact h.wordExecuting e k
  | results left =>
    simp only [State.takeWord, e]
    exact (free (by rw [e]; rfl)).wordResults left k w

/-- The link's transfer is not coherence's, nor which entries of a result queue are left. -/
theorem setLink_steady (s : State) {k : Link} (h : k.phase.executed = s.link.phase.executed) :
    s.Steady { s with link := k } :=
  .of_rest rfl (by simp [State.affairs, h])

/-- The row of a DIRECT command. -/
theorem Coherent.hostDirect {s : State} (h : s.Coherent) (c : Cmd) (ws : List Word) :
    (s.hostDirect c (owner c ws)).Coherent := by
  have free (k : Link) (before : s.link.phase.executed = none) (after : k.phase.executed = none) :
      State.Listens { s with link := k } :=
    ⟨h.steady (s.setLink_steady (after.trans before.symm)), Option.isNone_iff_eq_none.2 after⟩
  rcases s.hostDirect_cases c (owner c ws) with ⟨phase, e⟩ | ⟨⟨_, _, _, phase⟩, e⟩ | ⟨_, e⟩ <;> rw [e]
  · have none : s.link.phase.executed = none := by rcases phase with phase | ⟨q, phase⟩ <;> rw [phase] <;> rfl
    exact (free ⟨s.link.phase, Option.none⟩ none none).direct c ws
  · exact (free _ (by rw [phase]; rfl) rfl).coherent
  · exact h.steady (s.setLink_steady rfl)

end State

/-! ### Every command (R104 to R193) -/

/-- Where a command leaves a state, it is coherent. -/
def KeepsCoherent (r : Result) : Prop := ∀ t, r = .next t → t.Coherent

theorem KeepsCoherent.next {t : State} (h : t.Coherent) : KeepsCoherent (.next t) := fun u e => by
  cases e
  exact h

theorem KeepsCoherent.direct {s : State} (h : s.Coherent) (c : Cmd) (ws : List Word) :
    KeepsCoherent (.next (s.hostDirect c (owner c ws))) := .next (h.hostDirect c ws)

theorem KeepsCoherent.engine {s : State} (h : s.Coherent) (c : Cmd) (p : Progress) :
    KeepsCoherent (.next (s.runHost c (server c) p)) := .next (h.runHost c p)

theorem execPassageTimerExpiry_coherent {s : State} (h : s.Coherent) (l : Lane) :
    KeepsCoherent (execPassageTimerExpiry l s) := by
  unfold execPassageTimerExpiry
  split
  · next awaiting => exact .next (h.ended awaiting (s.endUnpassed_ended l _ _))
  · exact .next h

theorem execFrameDiscard_coherent {s : State} (h : s.Coherent) (l : Lane) (bytes : List RxByte) :
    KeepsCoherent (execFrameDiscard l bytes s) := by
  simp only [execFrameDiscard]
  split
  · exact .next (h.steady ((State.Steady.setLane s l (.received _ _ (hear_legal bytes _))).trans
      (State.raiseLaneFaults_steady _ l _)))
  · exact .next h

theorem execFrameTimeout_coherent {s : State} (h : s.Coherent) (l : Lane) (bytes : List RxByte) :
    KeepsCoherent (execFrameTimeout l bytes s) := by
  simp only [execFrameTimeout]
  split
  · exact .next (h.steady ((s.endFrame_steady l).trans (State.raise_steady _ _ _)))
  · exact .next h

theorem execFrameSent_coherent {s : State} (h : s.Coherent) (l : Lane) : KeepsCoherent (execFrameSent l s) := by
  unfold execFrameSent
  split
  · exact .next h
  · next m rest queue =>
    refine .next (h.steady (.setLane s l (.queued _ _ _ fun room => ?_)))
    rw [queue, List.length_cons] at room
    omega

theorem execTransferBegin_coherent {s : State} (h : s.Coherent) : KeepsCoherent (execTransferBegin s) := by
  unfold execTransferBegin
  split
  · exact .next h
  · exact .next (h.steady (s.setLink_steady rfl))

theorem execTransferComplete_coherent {s : State} (h : s.Coherent) (kind : Byte) (w : Word) :
    KeepsCoherent (execTransferComplete kind w s) := by
  unfold execTransferComplete
  split
  · exact .next h
  · next t _ =>
    refine .next (State.Coherent.takeWord (h.steady (s.setLink_steady ?_)) _ w)
    cases t.carries
    · rfl
    · exact s.link.phase.dropCarried_executed

theorem execTapDecision_coherent {s : State} (h : s.Coherent) (p : Progress) : KeepsCoherent (execTapDecision p s) := by
  unfold execTapDecision
  split
  · next he => exact .next (runDecision_coherent _ he h)
  · exact .next h

theorem execCommit_coherent {s : State} (h : s.Coherent) (p : Progress) : KeepsCoherent (execCommit p s) := by
  unfold execCommit
  split
  · next he => exact .next (runCommit_coherent _ he h)
  · exact .next h

theorem execClearing_coherent {s : State} (h : s.Coherent) (p : Progress) : KeepsCoherent (execClearing p s) := by
  unfold execClearing
  split
  · next n he => exact .next ((h.clears he _).steady (.of_rest rfl rfl))
  · exact .next h

theorem execClearingComplete_coherent {s : State} (h : s.Coherent) : KeepsCoherent (execClearingComplete s) := by
  unfold execClearingComplete
  split
  · next n he =>
    split
    · exact .next (h.cleared he)
    · exact .next h
  · exact .next h

theorem execWarmReset_coherent {s : State} (h : s.Coherent) : KeepsCoherent (execWarmReset s) := by
  unfold execWarmReset
  split
  · exact .next h
  · exact .next (State.warmReset_coherent _)

theorem execSlotDecay_coherent {s : State} (h : s.Coherent) (slot : Nat) (words : Vector Word 16) :
    KeepsCoherent (execSlotDecay slot words s) := by
  unfold execSlotDecay
  split
  · exact .next (h.steady (.of_rest rfl rfl))
  · intro t e
    cases e

theorem exec_coherent (i : Instr) {s : State} (h : s.Coherent) : KeepsCoherent (exec i s) := by
  cases i with
  | coldReset => exact .next (State.coherent_of_reset rfl rfl rfl rfl (.inl rfl))
  | warmReset => exact execWarmReset_coherent h
  | resetLineRelease => exact .next (h.steady (.of_rest rfl rfl))
  | slotDecay slot words => exact execSlotDecay_coherent h slot words
  | secondEvent => exact .next h.secondEvent
  | minuteEvent => exact .next (h.steady s.minuteEvent_steady)
  | passageTimerExpiry l => exact execPassageTimerExpiry_coherent h l
  | tap l card => exact .next (h.takeFrame l _ fun _ t => t.takeTap l card)
  | passed l => exact .next (h.takeFrame l _ fun _ t => t.takePassed l)
  | walkaway l => exact .next (h.takeFrame l _ fun _ t => t.takeWalkaway l)
  | cancel l => exact .next (h.takeFrame l _ fun _ t => t.takeCancel l)
  | frameDiscard l bytes => exact execFrameDiscard_coherent h l bytes
  | frameTimeout l bytes => exact execFrameTimeout_coherent h l bytes
  | frameSent l => exact execFrameSent_coherent h l
  | transferBegin => exact execTransferBegin_coherent h
  | transferComplete kind w => exact execTransferComplete_coherent h kind w
  | transferVoid => exact .next (h.steady (s.setLink_steady rfl))
  | tapDecision p => exact execTapDecision_coherent h p
  | commit p => exact execCommit_coherent h p
  | clearing p => exact execClearing_coherent h p
  | clearingComplete => exact execClearingComplete_coherent h
  | nop => exact .direct h .nop []
  | identify => exact .direct h .identify []
  | start k p => exact .direct h .start [k, p]
  | resume => exact .direct h .resume []
  | halt => exact .direct h .halt []
  | continueService => exact .direct h .continueService []
  | keep => exact .direct h .keep []
  | restart => exact .direct h .restart []
  | clockRead => exact .direct h .clockRead []
  | setTime minute => exact .direct h .setTime [minute]
  | newDay minute => exact .direct h .newDay [minute]
  | setDay day minute => exact .direct h .setDay [day, minute]
  | departureDefine d b r t c m f a => exact .direct h .departureDefine [d, b, r, t, c, m, f, a]
  | departureOpen d => exact .direct h .departureOpen [d]
  | departureClose d => exact .direct h .departureClose [d]
  | departureSetCapacity d c m => exact .direct h .departureSetCapacity [d, c, m]
  | departureLink d f => exact .direct h .departureLink [d, f]
  | departureRead d m => exact .direct h .departureRead [d, m]
  | departureRetire d => exact .direct h .departureRetire [d]
  | berthSetCurrent b d => exact .direct h .berthSetCurrent [b, d]
  | berthRead => exact .direct h .berthRead []
  | laneOpen l => exact .direct h .laneOpen [l]
  | laneClose l => exact .direct h .laneClose [l]
  | laneSet l b k c t => exact .direct h .laneSet [l, b, k, c, t]
  | laneRead l => exact .direct h .laneRead [l]
  | arbiterMode m => exact .direct h .arbiterMode [m]
  | setBottom l => exact .direct h .setBottom [l]
  | pollLanes => exact .direct h .pollLanes []
  | attentionRead => exact .direct h .attentionRead []
  | attentionAck c => exact .direct h .attentionAck [c]
  | attentionMask c => exact .direct h .attentionMask [c]
  | cardAdd p => exact .engine h .cardAdd p
  | cardFind p => exact .engine h .cardFind p
  | addValue p => exact .engine h .addValue p
  | setBalance p => exact .engine h .setBalance p
  | settle p => exact .engine h .settle p
  | setProduct p => exact .engine h .setProduct p
  | deny p => exact .engine h .deny p
  | allow p => exact .engine h .allow p
  | cardRetire p => exact .engine h .cardRetire p
  | enforce p => exact .engine h .enforce p
  | tableSeek p => exact .engine h .tableSeek p
  | tableRead p => exact .engine h .tableRead p
  | tableWrite p => exact .engine h .tableWrite p
  | fareSetBase p => exact .engine h .fareSetBase p
  | fareSetBand p => exact .engine h .fareSetBand p
  | fareSetClass p => exact .engine h .fareSetClass p
  | fareSetPolicy p => exact .engine h .fareSetPolicy p
  | fareRead p => exact .engine h .fareRead p
  | watchSet p => exact .engine h .watchSet p
  | watchClear p => exact .engine h .watchClear p
  | watchRead p => exact .engine h .watchRead p
  | sweepNext p => exact .engine h .sweepNext p

/-- Settles O53, command by command: each changes what coherence does not read (`State.Steady`), one lane and what
serves it (`State.Apart`), or brings every lane DOWN (`State.accords_of_down`). -/
theorem stepKeepsCoherent : Obligations.StepKeepsCoherent := by
  unfold Obligations.StepKeepsCoherent
  intro s t h stepped
  unfold step at stepped
  split at stepped
  · cases stepped
    exact h
  · next c rest _ =>
    have fetched : State.Coherent { s with pending := rest } := h.steady (.of_rest rfl rfl)
    exact exec_coherent c fetched t stepped

end Sys2Proof.Machine
end

section
namespace Sys2Proof.Machine

/-! ### A gate's message at its check byte (R126, R196) -/

/-- Behind the beginning of another frame a message changes nothing. -/
theorem State.takeFrame_other {s : State} {l : Lane} {m : GateMessage} (h : (s.lane l).canComplete m = false)
    (take : State → State) : s.takeFrame l m take = s := by simp [State.takeFrame, h]

theorem State.takeFrame_taken {s : State} {l : Lane} {m : GateMessage} (h : (s.lane l).canComplete m = true)
    (take : State → State) : s.takeFrame l m take = take (s.endFrame l) := by simp [State.takeFrame, h]

/-! ### The open verdict ended without a passage (R110, R111, R113) -/

theorem State.takeWalkaway_awaiting {s : State} {l : Lane} (h : (s.lane l).state = .awaiting) :
    s.takeWalkaway l = s.endUnpassed l .taken false := by simp only [State.takeWalkaway, h]

theorem State.takeWalkaway_other {s : State} {l : Lane} (h : (s.lane l).state ≠ .awaiting) :
    s.takeWalkaway l = s.send l (.passageAnswer .notExpected) := by
  unfold State.takeWalkaway
  split
  · next awaiting => exact absurd awaiting h
  · rfl

theorem State.takeCancel_awaiting {s : State} {l : Lane} (h : (s.lane l).state = .awaiting) :
    s.takeCancel l = s.endUnpassed l .taken false := by simp only [State.takeCancel, h]

theorem State.takeCancel_pending {s : State} {l : Lane} (h : (s.lane l).state = .pending) :
    s.takeCancel l = s.withdrawTap l .cancelled .idle := by simp only [State.takeCancel, h]

theorem State.takeCancel_deciding {s : State} {l : Lane} (h : (s.lane l).state = .deciding) :
    s.takeCancel l = s.setLane l { s.lane l with cancelNoted := true } := by simp only [State.takeCancel, h]

/-- CANCEL has nothing to cancel in DOWN, IDLE and COMMITTING (R111). -/
theorem State.takeCancel_other {s : State} {l : Lane}
    (h : (s.lane l).state = .down ∨ (s.lane l).state = .idle ∨ (s.lane l).state = .committing) : s.takeCancel l = s := by
  rcases h with e | e | e <;> simp only [State.takeCancel, e]

/-- Settles O9, by what ends an open verdict without a passage: one rule for the expiry, WALKAWAY and CANCEL. -/
theorem openVerdictEnds : Obligations.OpenVerdictEnds := by
  unfold Obligations.OpenVerdictEnds
  intro s l
  refine ⟨fun awaiting => ⟨s.expire l, ?_, s.endUnpassed_ended l _ _⟩, fun other => ?_, fun other => ?_, fun other => ?_,
    fun completes => ⟨fun awaiting => ⟨_, ?_, (s.endFrame l).endUnpassed_ended l _ _⟩, fun state => ?_⟩,
    fun completes => ⟨fun awaiting => ⟨_, ?_, (s.endFrame l).endUnpassed_ended l _ _⟩, fun pending => ?_,
      fun deciding => ?_, fun rest => ?_⟩⟩
  · simp only [exec, execPassageTimerExpiry, awaiting]
  · simp only [exec, execPassageTimerExpiry]
  · exact congrArg Host.Outcome.next (State.takeFrame_other other _)
  · exact congrArg Host.Outcome.next (State.takeFrame_other other _)
  · exact congrArg Host.Outcome.next ((State.takeFrame_taken completes _).trans (State.takeWalkaway_awaiting awaiting))
  · exact congrArg Host.Outcome.next ((State.takeFrame_taken completes _).trans (State.takeWalkaway_other state))
  · exact congrArg Host.Outcome.next ((State.takeFrame_taken completes _).trans (State.takeCancel_awaiting awaiting))
  · exact congrArg Host.Outcome.next ((State.takeFrame_taken completes _).trans (State.takeCancel_pending pending))
  · exact congrArg Host.Outcome.next ((State.takeFrame_taken completes _).trans (State.takeCancel_deciding deciding))
  · exact congrArg Host.Outcome.next ((State.takeFrame_taken completes _).trans (State.takeCancel_other rest))

end Sys2Proof.Machine
end

section
namespace Sys2Proof.Machine

/-! ### A request that stands alone (R132) -/

/-- With no request before the arbiter none stands. -/
theorem State.stands_eq_false {s : State} (h : s.arbiter.quiet = true) (g : Grant) : s.stands g = false := by
  obtain ⟨lanes, host, clearing⟩ := s.arbiter.quiet_iff.1 h
  cases g with
  | clearing => exact clearing
  | commit l => exact (lanes l).2
  | host => exact host
  | tap l => exact (lanes l).1

/-- A request that stands alone is the next granted. -/
theorem State.nextGrant_of_only {s : State} {g : Grant} (stands : s.stands g = true)
    (only : ∀ other, s.stands other = true → other = g) : s.nextGrant = some g := by
  cases next : s.nextGrant with
  | none =>
    rw [State.stands_eq_false (State.quiet_of_nextGrant next)] at stands
    cases stands
  | some other => rw [only other (State.stands_of_nextGrant next)]

theorem State.settle_grants {s : State} {g : Grant} (idle : s.engine = .idle) (next : s.nextGrant = some g) :
    s.settle = s.applyGrant g := by
  rcases s.settle_cases with ⟨busy, _⟩ | ⟨_, none, _⟩ | ⟨other, _, some, e⟩
  · exact absurd idle busy
  · simp [none] at next
  · rw [next] at some
    cases some
    exact e

/-- A tap placed before an idle engine and no other request is decided at once. -/
theorem State.settle_tap {s : State} (idle : s.engine = .idle) (quiet : s.arbiter.quiet = true) (l : Lane) :
    (s.setTapPending l true).settle = (s.setTapPending l true).grantTap l := by
  obtain ⟨lanes, host, clearing⟩ := s.arbiter.quiet_iff.1 quiet
  refine State.settle_grants (g := .tap l) idle (State.nextGrant_of_only ?_ fun other stands => ?_)
  · exact (s.setTapPending_get l l true).trans (if_pos rfl)
  · cases other with
    | clearing => exact absurd (clearing.symm.trans stands) (by simp)
    | commit k => exact absurd ((lanes k).2.symm.trans stands) (by simp)
    | host => exact absurd (host.symm.trans stands) (by simp)
    | tap k =>
      rw [State.stands, State.setTapPending_get] at stands
      split at stands
      · next here => rw [here]
      · exact absurd ((lanes k).1.symm.trans stands) (by simp)

theorem State.grantTap_requests {s : State} (quiet : s.arbiter.quiet = true) (l : Lane) :
    ((s.setTapPending l true).grantTap l).arbiter.quiet = true := by
  obtain ⟨lanes, host, clearing⟩ := s.arbiter.quiet_iff.1 quiet
  refine (Arbiter.quiet_iff _).2 ⟨fun k => ⟨?_, ?_⟩, (State.grantTap_hostRequest _ l).trans host,
    (State.grantTap_clearingRequest _ l).trans clearing⟩
  · rw [State.grantTap_tapPending]
    split
    · rfl
    · next other =>
      rw [State.setTapPending_get, if_neg other]
      exact (lanes k).1
  · simpa using (lanes k).2

/-- A commit placed before an idle engine and no other request is begun at once. -/
theorem State.settle_commit {s : State} (idle : s.engine = .idle) (quiet : s.arbiter.quiet = true) (l : Lane) :
    (s.setCommitPending l true).settle = (s.setCommitPending l true).applyGrant (.commit l) := by
  obtain ⟨lanes, host, clearing⟩ := s.arbiter.quiet_iff.1 quiet
  refine State.settle_grants idle (State.nextGrant_of_only ?_ fun other stands => ?_)
  · exact (s.setCommitPending_get l l true).trans (if_pos rfl)
  · cases other with
    | clearing => exact absurd (clearing.symm.trans stands) (by simp)
    | tap k => exact absurd ((lanes k).1.symm.trans stands) (by simp)
    | host => exact absurd (host.symm.trans stands) (by simp)
    | commit k =>
      rw [State.stands, State.setCommitPending_get] at stands
      split at stands
      · next here => rw [here]
      · exact absurd ((lanes k).2.symm.trans stands) (by simp)

theorem State.grantCommit_requests {s : State} (quiet : s.arbiter.quiet = true) (l : Lane) :
    ((s.setCommitPending l true).applyGrant (.commit l)).arbiter.quiet = true := by
  obtain ⟨lanes, host, clearing⟩ := s.arbiter.quiet_iff.1 quiet
  refine (Arbiter.quiet_iff _).2 ⟨fun k => ⟨(lanes k).1, ?_⟩, host, clearing⟩
  change ((s.setCommitPending l true).setCommitPending l false).arbiter.commitPending[k] = false
  rw [State.setCommitPending_get]
  split
  · rfl
  · next other =>
    rw [State.setCommitPending_get, if_neg other]
    exact (lanes k).2

/-! ### TAP and PASSED, lane state by lane state (R108, R109) -/

theorem validCard_iff (card : CardNumber) : validCard card = true ↔ card ≠ 0 ∧ card ≠ 281474976710655#48 := by
  simp [validCard]

section
variable {s : State} {l : Lane} {card : CardNumber}

theorem State.takeTap_down (h : (s.lane l).state = .down) :
    s.takeTap l card = s.send l (.refuse .laneClosed FareFields.zero) := by simp only [State.takeTap, h]

theorem State.takeTap_idle (h : (s.lane l).state = .idle) : s.takeTap l card =
    if s.service ≠ .serving then
      (s.setLane l { s.lane l with expiredLast := false }).send l (.refuse .notInService FareFields.zero)
    else if validCard card then (s.setLane l { s.lane l with expiredLast := false }).placeTap l card
    else (s.setLane l { s.lane l with expiredLast := false }).send l (.refuse .unknownCard FareFields.zero) := by
  simp only [State.takeTap, h]

theorem State.takeTap_busy (down : (s.lane l).state ≠ .down) (idle : (s.lane l).state ≠ .idle) : s.takeTap l card =
    if s.service ≠ .serving then s.send l (.refuse .notInService FareFields.zero)
    else s.send l (.refuse .busy FareFields.zero) := by
  simp only [State.takeTap]

theorem State.placeTap_cleared : (s.setLane l { s.lane l with expiredLast := false }).placeTap l card =
    ((s.setLane l { s.lane l with expiredLast := false, tapped := some card, state := .pending }).setTapPending l
      true).settle := by
  simp [State.placeTap]

theorem State.takePassed_awaiting (h : (s.lane l).state = .awaiting) : s.takePassed l =
    ((s.setLane l { s.lane l with secondsLeft := 0, state := .committing }).setCommitPending l true).settle := by
  simp only [State.takePassed, h]

theorem State.takePassed_late (h : (s.lane l).state = .idle ∨ (s.lane l).state = .down)
    (expired : (s.lane l).expiredLast = true) : s.takePassed l =
    ((s.setLane l { s.lane l with expiredLast := false }).send l (.passageAnswer .late)).raise .latePassage
      (0, word l.val) := by
  rcases h with e | e <;> simp only [State.takePassed, e, expired] <;> rfl

theorem State.takePassed_unexpected (awaiting : (s.lane l).state ≠ .awaiting)
    (late : ¬(((s.lane l).state = .idle ∨ (s.lane l).state = .down) ∧ (s.lane l).expiredLast = true)) :
    s.takePassed l = s.send l (.passageAnswer .notExpected) := by
  cases e : (s.lane l).state with
  | awaiting => exact absurd e awaiting
  | idle => simp_all [State.takePassed]
  | down => simp_all [State.takePassed]
  | pending => simp only [State.takePassed, e]
  | deciding => simp only [State.takePassed, e]
  | committing => simp only [State.takePassed, e]

end

/-- Settles O7, lane state by lane state; the grant is the arbiter's. -/
theorem tapJudged : Obligations.TapJudged := by
  unfold Obligations.TapJudged
  intro s l card
  refine ⟨fun other => congrArg Host.Outcome.next (State.takeFrame_other other _), fun completes => ?_⟩
  have taken : exec (.tap l card) s = .next ((s.endFrame l).takeTap l card) :=
    congrArg Host.Outcome.next (State.takeFrame_taken completes _)
  rw [taken]
  generalize same : s.endFrame l = u
  have service : s.service = u.service := same ▸ rfl
  have engine : s.engine = u.engine := same ▸ rfl
  have arbiter : s.arbiter = u.arbiter := same ▸ rfl
  have clock : s.clock = u.clock := same ▸ rfl
  rw [service, engine, arbiter, clock]
  refine ⟨fun down => ?_, fun idle out => ?_, fun down idle out => ?_, fun down idle serving => ?_,
    fun idle serving card => ?_, fun idle serving low high => ?_⟩
  · rw [State.takeTap_down down]
  · rw [State.takeTap_idle idle, if_pos out]
  · rw [State.takeTap_busy down idle, if_pos out]
  · rw [State.takeTap_busy down idle, if_neg (not_not.2 serving)]
  · have invalid := mt (validCard_iff _).1 fun valid => card.elim valid.1 valid.2
    rw [State.takeTap_idle idle, if_neg (not_not.2 serving), if_neg invalid]
  · rw [State.takeTap_idle idle, if_neg (not_not.2 serving), if_pos ((validCard_iff card).2 ⟨low, high⟩),
      State.placeTap_cleared]
    refine ⟨rfl, fun busy => congrArg Host.Outcome.next (State.settle_busy _ busy), fun free quiet => ?_⟩
    refine ⟨_, State.begun _ l, congrArg Host.Outcome.next (State.settle_tap (by exact free) (by exact quiet) l), rfl,
      State.begun_fresh _ l, rfl, ?_, rfl, rfl, ?_, State.grantTap_requests (by exact quiet) l⟩
    · simp [State.begun]
    · rw [State.grantTap_lane, if_pos rfl]
      simp

/-- Settles O8, lane state by lane state; the grant is the arbiter's. -/
theorem passedJudged : Obligations.PassedJudged := by
  unfold Obligations.PassedJudged
  intro s l
  refine ⟨fun other => congrArg Host.Outcome.next (State.takeFrame_other other _), fun completes => ?_⟩
  have taken : exec (.passed l) s = .next ((s.endFrame l).takePassed l) :=
    congrArg Host.Outcome.next (State.takeFrame_taken completes _)
  rw [taken]
  refine ⟨fun awaiting => ?_, fun rest expired => ?_, fun other late => ?_⟩
  · rw [State.takePassed_awaiting awaiting]
    refine ⟨rfl, fun busy => congrArg Host.Outcome.next (State.settle_busy _ busy), fun free quiet => ?_⟩
    exact ⟨_, congrArg Host.Outcome.next (State.settle_commit (by exact free) (by exact quiet) l), rfl, rfl,
      State.grantCommit_requests (by exact quiet) l⟩
  · rw [State.takePassed_late rest expired]
  · rw [State.takePassed_unexpected other late]

/-! ### Messages and occurrences (R127, R173, R174) -/

/-- Settles O12, by `State.send_cases` and `Attention.occur_cause`. -/
theorem messagesAndOccurrences : Obligations.MessagesAndOccurrences := by
  unfold Obligations.MessagesAndOccurrences
  refine ⟨fun s l m room => ?_, fun s l m full => ?_, fun s l m rest queue => ?_, fun s l queue => ?_,
    fun a k x => ⟨?_, fun n other => ?_, rfl, lineAsserted_iff _ _⟩⟩
  · rcases s.send_cases l m with ⟨_, e⟩ | ⟨full, _⟩
    · exact e
    · omega
  · rcases s.send_cases l m with ⟨room, _⟩ | ⟨_, e⟩
    · omega
    · exact e
  · simp only [exec, execFrameSent, queue]
    rfl
  · simp only [exec, execFrameSent, queue]
  · rw [a.occur_cause, if_pos rfl]
  · rw [a.occur_cause, if_neg other]

end Sys2Proof.Machine
end

section
namespace Sys2Proof.Machine

/-! ### The host's lane commands where they are taken (R121 to R125) -/

/-- A lane index is read back from its word. -/
theorem indexBelow_lane (l : Lane) : indexBelow 12 (word l.val) = some l := indexBelow_word (by decide) l

/-- A message is queued whatever the link holds. -/
theorem State.send_link_with (s : State) (k : Link) (l : Lane) (m : Message) :
    State.send { s with link := k } l m = { s.send l m with link := k } := by
  have queue : State.lane { s with link := k } l = s.lane l := rfl
  simp only [State.send, queue]
  split <;> rfl

/-- LANE OPEN asks for a DOWN lane, and not for HALTING (R122). -/
theorem ownLaneOpen_eq (s : State) (k : Link) (l : Lane) :
    ownLaneOpen (word l.val) { s with link := k } =
      if s.service = .halting ∨ (s.lane l).state ≠ .down then State.refuse { s with link := k } .wrongState
      else State.ok { (s.setLane l { s.lane l with
        state := .idle, expiredLast := false, closeRequested := false, cancelNoted := false }).send l
          (.laneState true) with link := k } := by
  simp only [ownLaneOpen, indexBelow_lane]
  refine if_congr .rfl rfl ?_
  exact congrArg State.ok (State.send_link_with (s.setLane l { s.lane l with
    state := .idle, expiredLast := false, closeRequested := false, cancelNoted := false }) k l _)

theorem ownLaneClose_down {s : State} {l : Lane} (h : (s.lane l).state = .down) :
    ownLaneClose (word l.val) s = s.ok := by
  simp only [ownLaneClose, indexBelow_lane, h]

theorem ownLaneClose_idle {s : State} {l : Lane} (h : (s.lane l).state = .idle) : ownLaneClose (word l.val) s =
    ((s.setLane l { s.lane l with state := .down }).send l (.laneState false)).ok := by
  simp only [ownLaneClose, indexBelow_lane, h]

theorem ownLaneClose_pending {s : State} {l : Lane} (h : (s.lane l).state = .pending) :
    ownLaneClose (word l.val) s = ((s.withdrawTap l .laneClosed .down).send l (.laneState false)).ok := by
  simp only [ownLaneClose, indexBelow_lane, h]

/-- A lane in hand is closed once its business has ended (R123). -/
theorem ownLaneClose_inHand {s : State} {l : Lane}
    (h : (s.lane l).state = .deciding ∨ (s.lane l).state = .awaiting ∨ (s.lane l).state = .committing) :
    ownLaneClose (word l.val) s = (s.setLane l { s.lane l with closeRequested := true }).ok := by
  rcases h with e | e | e <;> simp only [ownLaneClose, indexBelow_lane, e]

/-- Settles O13, lane state by lane state. -/
theorem laneOpenAndClose : Obligations.LaneOpenAndClose := by
  unfold Obligations.LaneOpenAndClose
  intro s takes service
  refine ⟨fun l => ⟨fun down running => ?_, fun refused => ?_, fun down => ?_, fun idle => ?_, fun pending => ?_,
    fun inHand => ?_⟩, fun w out => ⟨?_, ?_⟩⟩
  · exact congrArg _ (State.hostDirect_ok takes service
      ((ownLaneOpen_eq s _ l).trans (if_neg (not_or.2 ⟨running, not_not.2 down⟩))))
  · exact congrArg _ (State.hostDirect_refuses takes service fun k => (ownLaneOpen_eq s k l).trans (if_pos refused))
  · exact congrArg _ (State.hostDirect_ok takes service (ownLaneClose_down (by exact down)))
  · refine congrArg _ (State.hostDirect_ok takes service ((ownLaneClose_idle (by exact idle)).trans ?_))
    exact congrArg State.ok (State.send_link_with (s.setLane l { s.lane l with state := .down }) _ l _)
  · refine congrArg _ (State.hostDirect_ok takes service ((ownLaneClose_pending (by exact pending)).trans ?_))
    have withdrawn := State.send_link_with ((s.setTapPending l false).setLane l
      { s.lane l with tapped := none, state := .down }) ⟨s.link.phase, none⟩ l (.refuse .laneClosed FareFields.zero)
    exact congrArg State.ok ((congrArg (fun t : State => t.send l (.laneState false)) withdrawn).trans
      (State.send_link_with (s.withdrawTap l .laneClosed .down) _ l _))
  · exact congrArg _ (State.hostDirect_ok (t := s.setLane l { s.lane l with closeRequested := true }) takes service
      (ownLaneClose_inHand (by exact inHand)))
  · exact congrArg _ (State.hostDirect_refuses takes service fun k => by
      simp only [ownLaneOpen, indexBelow_none out])
  · exact congrArg _ (State.hostDirect_refuses takes service fun k => by
      simp only [ownLaneClose, indexBelow_none out])

/-! A kind or a class is read back from its word, and nothing from the words above 1. -/

theorem LaneKind.ofWord_code (k : LaneKind) : LaneKind.ofWord (word k.code) = some k := by cases k <;> rfl

theorem LaneKind.toNat_of_ofWord {w : Word} {k : LaneKind} (h : LaneKind.ofWord w = some k) : w.toNat < 2 := by
  unfold LaneKind.ofWord at h
  split at h
  · next zero => simp [zero]
  · split at h
    · next one => simp [one]
    · cases h

theorem LaneClass.ofWord_code (c : LaneClass) : LaneClass.ofWord (word c.code) = some c := by cases c <;> rfl

theorem LaneClass.toNat_of_ofWord {w : Word} {c : LaneClass} (h : LaneClass.ofWord w = some c) : w.toNat < 2 := by
  unfold LaneClass.ofWord at h
  split at h
  · next zero => simp [zero]
  · split at h
    · next one => simp [one]
    · cases h

/-- LANE SET with every operand in range asks for a DOWN lane (R124). -/
theorem ownLaneSet_eq (s : State) (l : Lane) (b : Berth) (k : LaneKind) (g : LaneClass) {timer : Word}
    (range : 1 ≤ timer.toNat ∧ timer.toNat ≤ 60) :
    ownLaneSet (word l.val) (word b.val) (word k.code) (word g.code) timer s =
      if (s.lane l).state = .down then
        (s.setLane l { s.lane l with berth := b, kind := k, cls := g, timer := timer.toNat }).ok
      else s.refuse .wrongState := by
  simp only [ownLaneSet, indexBelow_lane, indexBelow_berth, LaneKind.ofWord_code, LaneClass.ofWord_code, if_pos range]

/-- LANE SET with an operand out of range is refused before the lane's state is looked at (R121, R124). -/
theorem ownLaneSet_out (s : State) (lane berth kind cls timer : Word)
    (out : 12 ≤ lane.toNat ∨ 4 ≤ berth.toNat ∨ 2 ≤ kind.toNat ∨ 2 ≤ cls.toNat ∨ timer.toNat = 0 ∨ 60 < timer.toNat) :
    ownLaneSet lane berth kind cls timer s = s.refuse .badOperand := by
  unfold ownLaneSet
  split
  · next hl hb hk hc =>
    have index := indexBelow_some hl
    have atBerth := indexBelow_some hb
    have ofKind := LaneKind.toNat_of_ofWord hk
    have ofClass := LaneClass.toNat_of_ofWord hc
    exact if_neg (by omega)
  · rfl

/-- Settles O14: the ranges, then the lane's state. -/
theorem laneSetTaken : Obligations.LaneSetTaken := by
  unfold Obligations.LaneSetTaken
  intro s lane berth kind cls timer takes service
  refine ⟨?_, fun out => congrArg _ (State.hostDirect_refuses takes service fun k =>
    ownLaneSet_out _ lane berth kind cls timer out)⟩
  rintro l b k g rfl rfl rfl rfl least most
  refine ⟨fun down => ?_, fun other => ?_⟩
  · exact congrArg _ (State.hostDirect_ok
      (t := s.setLane l { s.lane l with berth := b, kind := k, cls := g, timer := timer.toNat }) takes service
      ((ownLaneSet_eq _ l b k g ⟨least, most⟩).trans (if_pos down)))
  · exact congrArg _ (State.hostDirect_refuses takes service fun _ =>
      (ownLaneSet_eq _ l b k g ⟨least, most⟩).trans (if_neg other))

/-! ### What LANE READ and DEPARTURE READ return (R99, R125) -/

theorem laneWords_length (p : LanePort) : (laneWords p).length = 22 := by
  unfold laneWords
  split <;> rfl

theorem departureTable_getD (r : Departure) (g : Nat) : (departureTable r).getD g [] = departureGroup r g := by
  rcases lt_or_ge g 12 with h | h
  · interval_cases g <;> rfl
  · obtain ⟨n, rfl⟩ := Nat.exists_eq_add_of_le' h
    rfl

/-- The groups that the mask selects from the departure's table. -/
theorem selected_departureTable (r : Departure) (mask : Word) :
    selected (departureTable r) mask = departureWords r mask := by
  rw [selected_eq, funext (departureTable_getD r)]
  rfl

/-- LANE READ answers the 22 words of the lane. -/
theorem exec_laneRead {s : State} (takes : s.takesCommand = true) (service : s.inService = true) (l : Lane) :
    exec (.laneRead (word l.val)) s = .next (s.answering (.done (laneWords (s.lane l)) 22)) := by
  refine congrArg _ (State.hostDirect_answering takes (judgeGroup_inService service _) ?_)
  simp only [ownLaneRead, indexBelow_lane, State.reply, Answer.counted, laneWords_length]
  rfl

/-- Settles O15: the words are `laneWords` and, by `selected_departureTable`, `departureWords`. -/
theorem laneAndDepartureRead : Obligations.LaneAndDepartureRead := by
  unfold Obligations.LaneAndDepartureRead
  intro s takes service
  refine ⟨fun l => ⟨fun absent => ?_, fun v stored => ?_⟩, fun w out => ?_, fun d mask range => ?_, fun w mask out => ?_⟩
  · rw [exec_laneRead takes service l]
    simp [laneWords, laneFlagsWord, absent]
  · rw [exec_laneRead takes service l]
    simp [laneWords, laneFlagsWord, stored]
  · exact congrArg _ (State.hostDirect_refuses takes service fun k => by
      simp only [ownLaneRead, indexBelow_none out])
  · rw [selected_departureTable]
    refine congrArg _ (State.hostDirect_answering takes (judgeGroup_inService service _) ?_)
    simp only [ownDepartureRead, indexBelow_depIx, if_pos (show mask.toNat < 4096 by omega)]
    rfl
  · refine congrArg _ (State.hostDirect_refuses takes service fun k => ?_)
    unfold ownDepartureRead
    split
    · rfl
    · next d hd =>
      have index := indexBelow_some hd
      exact if_neg (by omega)

end Sys2Proof.Machine
end

section
namespace Sys2Proof.Machine

/-! ### The beginning of a gate's frame, and what discards it (R126, R196) -/

theorem GateMessage.afterStart_eq (m : GateMessage) : m.afterStart =
    m.kind :: BitVec.ofNat 8 m.payload.length :: (m.payload ++ [frameCheck m.kind m.payload]) := rfl

theorem GateMessage.afterStart_length (m : GateMessage) : m.afterStart.length = m.payload.length + 3 := by
  simp [m.afterStart_eq]

theorem GateMessage.gateLength_kind (m : GateMessage) : gateLength m.kind = some m.payload.length := by
  cases m <;> rfl

/-- A length judged against its kind's. -/
theorem judgeFrame_length {kind : Byte} {n : Nat} (known : gateLength kind = some n) (length : Byte) :
    judgeFrame [kind, length] = if length = BitVec.ofNat 8 n then .incomplete else .discarded := by
  simp [judgeFrame, known]

/-- A payload that is not all there yet leaves the frame incomplete. -/
theorem judgeFrame_short {kind length : Byte} {rest : List Byte} {n : Nat} (known : gateLength kind = some n)
    (begun : rest ≠ []) (short : rest.length ≤ n) : judgeFrame (kind :: length :: rest) = .incomplete := by
  obtain ⟨v, rest, rfl⟩ := List.exists_cons_of_ne_nil begun
  simp only [judgeFrame, known, Option.getD_some]
  exact if_pos short

/-- A check byte that is not the frame's discards it. -/
theorem judgeFrame_check {kind length check : Byte} {payload : List Byte}
    (known : gateLength kind = some payload.length) (wrong : check ≠ frameCheck kind payload) :
    judgeFrame (kind :: length :: (payload ++ [check])) = .discarded := by
  have last : (payload ++ [check]).getLastD 0 ≠ frameCheck kind ((payload ++ [check]).take payload.length) := by
    simpa using wrong
  have long : ¬(payload ++ [check]).length ≤ payload.length := by simp
  obtain ⟨v, rest, body⟩ := List.exists_cons_of_ne_nil (l := payload ++ [check]) (by simp)
  rw [body] at last long ⊢
  simp only [judgeFrame, known, Option.getD_some]
  exact (if_neg long).trans (if_pos last)

/-- The beginning of a gate's frame is incomplete. -/
theorem GateMessage.judgeFrame_take (m : GateMessage) {n : Nat} (h : n < m.afterStart.length) :
    judgeFrame (m.afterStart.take n) = .incomplete := by
  rw [m.afterStart_length] at h
  rw [m.afterStart_eq]
  match n with
  | 0 => rfl
  | 1 => simp [judgeFrame, m.gateLength_kind]
  | 2 => exact (judgeFrame_length m.gateLength_kind _).trans (if_pos rfl)
  | n + 3 =>
    refine judgeFrame_short (rest := (m.payload ++ [frameCheck m.kind m.payload]).take (n + 1)) m.gateLength_kind
      (by simp) ?_
    have room := List.length_take_le (n + 1) (m.payload ++ [frameCheck m.kind m.payload])
    omega

theorem framed_append (a b : List Byte) : framed (a ++ b) = framed a ++ framed b := List.map_append

/-- A byte that leaves the frame incomplete belongs to it. -/
theorem hear_incomplete {r : Reception} {v : Byte} (h : judgeFrame (r.bytes ++ [v]) = .incomplete) :
    hear (some r) (framed [v]) = ⟨some ⟨r.bytes ++ [v], r.seconds⟩, 0, []⟩ := by
  simp [hear, framed, hearByte, h]

/-- A byte that a frame in reception cannot go on with discards it. -/
theorem hear_discarded {r : Reception} {b : RxByte}
    (h : b.framed = false ∨ judgeFrame (r.bytes ++ [b.value]) = .discarded) : hear (some r) [b] = ⟨none, 1, []⟩ := by
  rcases hearByte_inside r 0 [] b with ⟨stop, incomplete, _⟩ | ⟨_, e⟩ | ⟨m, stop, complete, _⟩
  · simp [stop, incomplete] at h
  · exact e
  · simp [stop, complete] at h

/-- The beginning of a gate's frame stays in reception. -/
theorem GateMessage.hear_take (m : GateMessage) {n : Nat} (h : n < m.afterStart.length) :
    hear none (framed (frameStart :: m.afterStart.take n)) = ⟨some ⟨m.afterStart.take n, 0⟩, 0, []⟩ := by
  refine (hear_start _).trans ?_
  change hear _ (framed (m.afterStart.take n)) = _
  induction n with
  | zero => rfl
  | succ n ih =>
    have next : m.afterStart.take (n + 1) = m.afterStart.take n ++ [m.afterStart[n]] :=
      (List.take_append_getElem (by omega)).symm
    have incomplete := m.judgeFrame_take h
    rw [next] at incomplete
    have goesOn := hear_incomplete (r := ⟨m.afterStart.take n, 0⟩) incomplete
    rw [next, framed_append, hear_append, ih (by omega), goesOn]
    rfl

/-- Behind the beginning of a gate's frame, a byte that discards it. -/
theorem GateMessage.hear_take_snoc (m : GateMessage) {n : Nat} (h : n < m.afterStart.length) {b : RxByte}
    (discards : b.framed = false ∨ judgeFrame (m.afterStart.take n ++ [b.value]) = .discarded) :
    hear none (framed (frameStart :: m.afterStart.take n) ++ [b]) = ⟨none, 1, []⟩ := by
  have last : hear (some ⟨m.afterStart.take n, 0⟩) [b] = ⟨none, 1, []⟩ := hear_discarded discards
  rw [hear_append, m.hear_take h]
  simp [last]

theorem GateMessage.received_take (m : GateMessage) (n : Nat) :
    m.received.take (n + 1) = framed (frameStart :: m.afterStart.take n) := by
  change (framed (frameStart :: m.afterStart)).take (n + 1) = _
  simp [framed, List.map_take]

/-! ### FRAME DISCARD and FRAME TIMEOUT by what is heard (R126) -/

section
variable {s : State} {l : Lane} {bytes : List RxByte}

/-- Bytes that complete no frame leave what is in reception and what they discarded. -/
theorem exec_frameDiscard (h : (hear (s.lane l).reception bytes).messages = []) : exec (.frameDiscard l bytes) s =
    .next ((s.setLane l { s.lane l with reception := (hear (s.lane l).reception bytes).reception }).raiseLaneFaults l
      (hear (s.lane l).reception bytes).faults) := if_pos h

/-- One frame begun and discarded. -/
theorem exec_frameDiscard_discarded (between : (s.lane l).reception = none) (h : hear none bytes = ⟨none, 1, []⟩) :
    exec (.frameDiscard l bytes) s = .next { s with attention := s.attention.occur .laneFault (0, word l.val) } := by
  have heard : hear (s.lane l).reception bytes = ⟨(s.lane l).reception, 1, []⟩ := by
    rw [between]
    exact h
  rw [exec_frameDiscard (by rw [heard]), heard]
  exact congrArg (fun t : State => Host.Outcome.next (t.raiseLaneFaults l 1)) (s.setLane_self l)

theorem runAll_pair {i j : Instr} {t : State} (h : exec i s = .next t) : runAll [i, j] s = exec j t := by
  simp only [runAll, h]
  cases exec j t <;> rfl

/-- Bytes heard in two runs. -/
theorem exec_frameDiscard_append {a b : List RxByte} (h : (hear (s.lane l).reception (a ++ b)).messages = []) :
    exec (.frameDiscard l (a ++ b)) s = runAll [.frameDiscard l a, .frameDiscard l b] s := by
  have whole := hear_append (s.lane l).reception a b
  have none := h
  rw [whole] at none
  obtain ⟨first, second⟩ := List.append_eq_nil_iff.1 none
  rw [exec_frameDiscard h, whole, runAll_pair (exec_frameDiscard first)]
  generalize hear (s.lane l).reception a = before at *
  have left : (((s.setLane l { s.lane l with reception := before.reception }).raiseLaneFaults l before.faults).lane
      l).reception = before.reception := by simp
  rw [exec_frameDiscard (by rwa [left]), left]
  simp [State.raiseLaneFaults_setLane, State.raiseLaneFaults_add]

/-- The timeout needs the frame in reception, with the bytes named, and a second event before this one. -/
theorem exec_frameTimeout_other (h : ∀ r, (s.lane l).reception = some r → 1 ≤ r.seconds → bytes ≠ framed r.bytes) :
    exec (.frameTimeout l bytes) s = .next s := by
  refine if_neg ?_
  rintro ⟨times, same⟩
  cases e : (s.lane l).reception with
  | none => simp [e] at same
  | some r =>
    refine h r e (by simpa [LanePort.timesOut, e] using times) ?_
    simpa [e] using same.symm

end

/-- Settles O10: what a gate's frame is while it begins, by the byte that ends it. -/
theorem framesDiscarded : Obligations.FramesDiscarded := by
  unfold Obligations.FramesDiscarded
  refine ⟨fun s l between => ?_, fun s l a b => exec_frameDiscard_append, fun s l bytes complete => if_neg complete,
    fun s l r held => ⟨fun due => ?_, fun early => ?_, fun bytes other => ?_⟩⟩
  · refine ⟨fun kind tap passed walkaway cancel => ?_, fun m length wrong => ?_, fun m check wrong => ?_,
      fun m n b least within => ?_, fun m n within => ?_, fun b other => ?_, fun bytes => ?_⟩
    · refine exec_frameDiscard_discarded between ((hear_start _).trans (hear_discarded (.inr ?_)))
      have unknown : gateLength kind = none := (if_neg tap).trans (if_neg (by
        rintro (e | e | e)
        exacts [passed e, walkaway e, cancel e]))
      simp [judgeFrame, unknown]
    · refine exec_frameDiscard_discarded between (m.hear_take_snoc (n := 1) (b := ⟨length, true⟩) ?_ (.inr ?_))
      · rw [m.afterStart_length]
        omega
      · exact (judgeFrame_length m.gateLength_kind length).trans (if_neg wrong)
    · have bounded : m.payload.length + 2 < m.afterStart.length := by
        rw [m.afterStart_length]
        omega
      have begun : m.received.dropLast = framed (frameStart :: m.afterStart.take (m.payload.length + 2)) := by
        rw [← m.received_take, List.dropLast_eq_take]
        simp [GateMessage.received, framed, frameBytes]
      rw [begun]
      refine exec_frameDiscard_discarded between (m.hear_take_snoc bounded (.inr ?_))
      simpa [m.afterStart_eq] using judgeFrame_check m.gateLength_kind wrong
    · obtain ⟨n, rfl⟩ := Nat.exists_eq_add_of_le' least
      have bounded : n < m.afterStart.length := by
        rw [m.afterStart_length]
        simp [GateMessage.received, framed, frameBytes] at within
        omega
      rw [m.received_take]
      exact exec_frameDiscard_discarded between (m.hear_take_snoc bounded (.inl rfl))
    · have heard := m.hear_take within
      rw [← m.received_take, ← between] at heard
      rw [exec_frameDiscard (by rw [heard]), heard]
      rfl
    · have heard : hear (s.lane l).reception [b] = ⟨(s.lane l).reception, 0, []⟩ := by
        rw [between]
        exact (hearByte_between 0 [] b).trans (if_neg other)
      rw [exec_frameDiscard (by rw [heard]), heard]
      exact congrArg Host.Outcome.next (s.setLane_self l)
    · exact exec_frameTimeout_other fun r held => absurd (between.symm.trans held) (by simp)
  · exact if_pos ⟨by simp [LanePort.timesOut, held, due], by simp [held]⟩
  · refine exec_frameTimeout_other fun q same due => ?_
    obtain rfl : r = q := Option.some.inj (held.symm.trans same)
    omega
  · refine exec_frameTimeout_other fun q same _ => ?_
    obtain rfl : r = q := Option.some.inj (held.symm.trans same)
    exact other

end Sys2Proof.Machine
end

section
namespace Sys2Proof.Machine

/-! ### The order of grants (R132, R133) -/

/-- What `find?` finds in a list comes before every other element that it could have found. -/
theorem find?_precedes {α : Type} {R : α → α → Prop} {p : α → Bool} {as : List α} {a b : α}
    (ordered : as.Pairwise R) (found : as.find? p = some a) (mem : b ∈ as) (holds : p b = true) (other : b ≠ a) :
    R a b := by
  obtain ⟨_, before, after, rfl, first⟩ := List.find?_eq_some_iff_append.1 found
  have later : b ∈ after := by
    rcases List.mem_append.1 mem with early | late
    · exact absurd holds (by simpa using first b early)
    · exact (List.mem_cons.1 late).resolve_left other
  exact (List.pairwise_cons.1 (List.pairwise_append.1 ordered).2.1).1 b later

/-- The place of a lane among those of a class (R133). -/
def Arbiter.placeIn (a : Arbiter) (c : LaneClass) (l : Lane) : Nat :=
  match a.mode, a.last c with
  | .rotating, some m => (l.val + 11 - m.val) % 12
  | .rotating, none => l.val
  | .fixed, _ => l.val

theorem State.place_eq (s : State) (l : Lane) : s.place l = s.arbiter.placeIn (s.lane l).cls l := rfl

theorem Arbiter.placeIn_lt (a : Arbiter) (c : LaneClass) (l : Lane) : a.placeIn c l < 12 := by
  unfold Arbiter.placeIn
  split <;> omega

/-- The lanes of a class are considered in the order of their places (R133). -/
theorem Arbiter.laneOrder_pairwise (a : Arbiter) (c : LaneClass) :
    (a.laneOrder c).Pairwise fun k l => a.placeIn c k < a.placeIn c l := by
  have rising : (List.finRange 12).Pairwise fun k l => k.val < l.val := List.pairwise_lt_finRange 12
  cases mode : a.mode with
  | fixed => simpa only [Arbiter.laneOrder, Arbiter.placeIn, mode] using rising
  | rotating =>
    cases last : a.last c with
    | none => simpa only [Arbiter.laneOrder, Arbiter.placeIn, mode, last] using rising
    | some m =>
      have place : ∀ i : Lane, ((m + 1 + i).val + 11 - m.val) % 12 = i.val := fun i => by
        simp only [Fin.val_add]
        omega
      simpa only [Arbiter.laneOrder, Arbiter.placeIn, mode, last, List.pairwise_map, place] using rising

/-- The tap granted among those of a class has the least place (R133). -/
theorem State.place_lt_of_nextTap {s : State} {c : LaneClass} {l k : Lane} (next : s.nextTap c = some l)
    (cls : (s.lane k).cls = c) (stands : s.arbiter.tapPending[k] = true) (other : k ≠ l) :
    s.arbiter.placeIn c l < s.arbiter.placeIn c k :=
  find?_precedes (R := fun l k => s.arbiter.placeIn c l < s.arbiter.placeIn c k) (s.arbiter.laneOrder_pairwise c) next
    (s.arbiter.mem_laneOrder c k) (by simpa [cls] using stands) other

theorem State.cls_of_nextTap {s : State} {c : LaneClass} {l : Lane} (next : s.nextTap c = some l) :
    (s.lane l).cls = c := by
  have found := List.find?_some next
  simp only [Bool.and_eq_true, beq_iff_eq] at found
  exact found.2

theorem State.tapPending_of_nextTap_none {s : State} {c : LaneClass} {k : Lane} (next : s.nextTap c = none)
    (cls : (s.lane k).cls = c) : s.arbiter.tapPending[k] = false := by
  simpa [cls] using List.find?_eq_none.1 next k (s.arbiter.mem_laneOrder c k)

/-- The ranks of the taps of a class lie together, ASSISTED before ORDINARY (R132). -/
theorem State.rank_tap (s : State) (l : Lane) :
    (s.lane l).cls = .assisted ∧ s.rank (.tap l) = 14 + s.arbiter.placeIn .assisted l
    ∨ (s.lane l).cls = .ordinary ∧ s.rank (.tap l) = 26 + s.arbiter.placeIn .ordinary l := by
  cases cls : (s.lane l).cls <;> simp [State.rank, State.place_eq, cls]

/-- The tap granted comes before every other that stands. -/
theorem State.rank_tap_lt {s : State} {l k : Lane}
    (next : s.nextTap .assisted = some l ∨ s.nextTap .assisted = none ∧ s.nextTap .ordinary = some l)
    (stands : s.arbiter.tapPending[k] = true) (other : k ≠ l) : s.rank (.tap l) < s.rank (.tap k) := by
  have near := s.arbiter.placeIn_lt .assisted l
  rcases next with assisted | ⟨none, ordinary⟩
  · have cls := State.cls_of_nextTap assisted
    rcases s.rank_tap l with ⟨_, rank⟩ | ⟨wrong, _⟩
    · rcases s.rank_tap k with ⟨same, rank'⟩ | ⟨_, rank'⟩
      · have := State.place_lt_of_nextTap assisted same stands other
        omega
      · omega
    · simp [cls] at wrong
  · have cls := State.cls_of_nextTap ordinary
    rcases s.rank_tap l with ⟨wrong, _⟩ | ⟨_, rank⟩
    · simp [cls] at wrong
    · rcases s.rank_tap k with ⟨class', _⟩ | ⟨same, rank'⟩
      · rw [State.tapPending_of_nextTap_none none class'] at stands
        cases stands
      · have := State.place_lt_of_nextTap ordinary same stands other
        omega

/-- The next grant is a request of which none before it in the order of R132 stands. -/
theorem State.nextGrant_cases {s : State} {g : Grant} (h : s.nextGrant = some g) :
    g = .clearing
    ∨ s.stands .clearing = false ∧
      ((∃ l, g = .commit l ∧ (List.finRange 12).find? (fun k : Lane => s.arbiter.commitPending[k]) = some l)
      ∨ (∀ l, s.stands (.commit l) = false) ∧
        (g = .host
        ∨ s.stands .host = false ∧ ∃ l, g = .tap l
          ∧ (s.nextTap .assisted = some l ∨ s.nextTap .assisted = none ∧ s.nextTap .ordinary = some l))) := by
  unfold State.nextGrant at h
  split at h
  · cases h; exact .inl rfl
  · next clearing =>
    refine .inr ⟨by simpa [State.stands] using clearing, ?_⟩
    split at h
    · next l commit => cases h; exact .inl ⟨l, rfl, commit⟩
    · next commits =>
      refine .inr ⟨fun l => by simpa [State.stands] using List.find?_eq_none.1 commits l (List.mem_finRange l), ?_⟩
      split at h
      · cases h; exact .inl rfl
      · next host =>
        refine .inr ⟨by simpa [State.stands] using host, ?_⟩
        split at h
        · next l assisted => cases h; exact ⟨l, rfl, .inl assisted⟩
        · next assisted =>
          obtain ⟨l, ordinary, rfl⟩ := Option.map_eq_some_iff.1 h
          exact ⟨l, rfl, .inr ⟨assisted, ordinary⟩⟩

/-- The request granted has the least rank of those that stand (R132, R133). -/
theorem State.rank_lt_of_nextGrant {s : State} {g h : Grant} (next : s.nextGrant = some g)
    (stands : s.stands h = true) (other : h ≠ g) : s.rank g < s.rank h := by
  have taps : ∀ k, 14 ≤ s.rank (.tap k) := fun k => by rcases s.rank_tap k with ⟨_, e⟩ | ⟨_, e⟩ <;> omega
  rcases State.nextGrant_cases next with
    rfl | ⟨clearing, ⟨l, rfl, commit⟩ | ⟨commits, rfl | ⟨host, l, rfl, tap⟩⟩⟩
  · cases h with
    | clearing => exact absurd rfl other
    | commit k => simp [State.rank]
    | host => simp [State.rank]
    | tap k => exact Nat.lt_of_lt_of_le (by simp [State.rank]) (taps k)
  · cases h with
    | clearing => simp [clearing] at stands
    | commit k =>
      have before : l < k := find?_precedes (List.pairwise_lt_finRange 12) commit (List.mem_finRange k) stands
        fun e => other (congrArg Grant.commit e)
      simpa [State.rank] using before
    | host => simp only [State.rank]; omega
    | tap k => exact Nat.lt_of_lt_of_le (by simp only [State.rank]; omega) (taps k)
  · cases h with
    | clearing => simp [clearing] at stands
    | commit k => simp [commits k] at stands
    | host => exact absurd rfl other
    | tap k => exact Nat.lt_of_lt_of_le (by simp [State.rank]) (taps k)
  · cases h with
    | clearing => simp [clearing] at stands
    | commit k => simp [commits k] at stands
    | host => simp [host] at stands
    | tap k => exact State.rank_tap_lt tap stands fun e => other (congrArg Grant.tap e)

theorem State.nextGrant_eq_none_iff (s : State) : s.nextGrant = none ↔ ∀ g, s.stands g = false := by
  refine ⟨fun none g => State.stands_eq_false (State.quiet_of_nextGrant none) g, fun idle => ?_⟩
  by_contra some
  obtain ⟨g, next⟩ := Option.ne_none_iff_exists'.1 some
  have stands := State.stands_of_nextGrant next
  rw [idle g] at stands
  cases stands

theorem Arbiter.setLast_eq (a : Arbiter) (c : LaneClass) (l : Lane) : a.setLast c l = { a with
    lastOrdinary := if c = .ordinary then some l else a.lastOrdinary
    lastAssisted := if c = .assisted then some l else a.lastAssisted } := by
  cases c <;> rfl

/-- A tap granted, the whole state (R106, R133, R137). -/
theorem State.grantTap_eq (s : State) (l : Lane) : s.grantTap l = { s with
    lanes := s.lanes.set l.val { s.lane l with state := .deciding }
    arbiter := { s.arbiter with
      tapPending := s.arbiter.tapPending.set l.val false
      lastOrdinary := if (s.lane l).cls = .ordinary then some l else s.arbiter.lastOrdinary
      lastAssisted := if (s.lane l).cls = .assisted then some l else s.arbiter.lastAssisted }
    engine := .deciding (s.begun l) } :=
  congrArg (fun a : Arbiter => { s with
    lanes := s.lanes.set l.val { s.lane l with state := .deciding }, arbiter := a, engine := .deciding (s.begun l) })
    (Arbiter.setLast_eq _ _ l)

/-- Settles O20, by the ranks of the requests in the order in which the arbiter looks for them, and what each grant
does. -/
theorem grantsInOrder : Obligations.GrantsInOrder := by
  unfold Obligations.GrantsInOrder
  refine ⟨fun s g next => ⟨State.stands_of_nextGrant next, fun h => State.rank_lt_of_nextGrant next⟩,
    State.nextGrant_eq_none_iff, State.settle_busy, fun s none => ?_, fun s idle next => State.settle_grants idle next,
    fun s l idle next => State.settle_grants idle next, fun s k ws late idle next phase => ?_,
    fun s l idle next => ⟨s.begun l, ?_, s.begun_fresh l, rfl, fun card tapped => ?_, rfl, rfl⟩⟩
  · rcases s.settle_cases with ⟨_, e⟩ | ⟨_, _, e⟩ | ⟨g, _, some, _⟩
    · exact e
    · exact e
    · simp [none] at some
  · rw [State.settle_grants idle next]
    simp only [State.applyGrant, phase]
    rfl
  · exact (State.settle_grants idle next).trans (s.grantTap_eq l)
  · simp [State.begun, tapped]

end Sys2Proof.Machine
end

section
namespace Sys2Proof.Machine

/-! ### Sets of lanes as words (11.2) -/

/-- A number made of the bits of those that hold is below the next power of two, and has just those bits. -/
theorem foldl_two_pow (k : Nat) (p : Fin k → Bool) :
    (List.finRange k).foldl (fun n i => if p i then n + 2 ^ i.val else n) 0 < 2 ^ k
    ∧ ∀ i, ((List.finRange k).foldl (fun n i => if p i then n + 2 ^ i.val else n) 0).testBit i = true ↔
        ∃ j : Fin k, j.val = i ∧ p j = true := by
  induction k with
  | zero => simp
  | succ k ih =>
    obtain ⟨bound, bits⟩ := ih fun i => p i.castSucc
    rw [List.finRange_succ_last, List.foldl_append, List.foldl_map]
    simp only [Fin.val_castSucc, List.foldl_cons, List.foldl_nil, Fin.val_last]
    generalize (List.finRange k).foldl (fun n i => if p i.castSucc then n + 2 ^ i.val else n) 0 = n at bound bits ⊢
    refine ⟨by split <;> omega, fun i => ?_⟩
    simp only [Fin.exists_fin_succ', Fin.val_castSucc, Fin.val_last, ← bits]
    split
    · next last =>
      rcases Nat.lt_trichotomy i k with below | rfl | above
      · simp [Nat.add_comm n, Nat.testBit_two_pow_add_gt below, below.ne']
      · simp [Nat.add_comm n, Nat.testBit_two_pow_add_eq, Nat.testBit_lt_two_pow bound, last]
      · have small : n + 2 ^ k < 2 ^ i := Nat.lt_of_lt_of_le (by omega) (Nat.pow_le_pow_right (by decide) above)
        have small' : n < 2 ^ i := by omega
        simp [Nat.testBit_lt_two_pow small, Nat.testBit_lt_two_pow small', above.ne]
    · next last => simp [last]

theorem laneSetWord_bit (set : Vector Bool 12) (n : Fin 16) :
    (laneSetWord set).getLsbD n.val = true ↔ ∃ l : Lane, l.val = n.val ∧ set[l] = true := by
  rw [laneSetWord, word, BitVec.getLsbD_ofNat, ← (foldl_two_pow 12 fun l => set[l]).2]
  simp [n.isLt]

/-! ### The arbiter commands where they are taken (R134 to R136) -/

theorem OrderMode.ofWord_none {w : Word} (h : 2 ≤ w.toNat) : OrderMode.ofWord w = none := by
  have zero : w ≠ 0 := by rintro rfl; simp at h
  have one : w ≠ 1 := by rintro rfl; simp at h
  rw [OrderMode.ofWord, if_neg zero, if_neg one]

/-- SET BOTTOM of a lane of the part (R135). -/
theorem exec_setBottom {s : State} (takes : s.takesCommand = true) (service : s.inService = true) (l : Lane) :
    exec (.setBottom (word l.val)) s =
      .next (State.answering { s with arbiter := s.arbiter.setLast (s.lane l).cls l } .ok) :=
  congrArg Host.Outcome.next (State.hostDirect_ok takes service (by simp only [ownSetBottom, indexBelow_lane]; rfl))

/-- The lane that the engine serves is that of its decision or its commit (R136). -/
theorem Engine.lane_eq (e : Engine) :
    e.lane = if e.decision.isSome then e.decision.map (·.lane) else e.commit.map (·.lane) := by
  cases e <;> rfl

/-- Settles O19: each command by its owner's checks; the words of POLL LANES are the owner's, its lane sets bit by
bit. -/
theorem arbiterCommanded : Obligations.ArbiterCommanded := by
  unfold Obligations.ArbiterCommanded
  refine ⟨fun s takes service => ⟨?_, ?_, fun w beyond => ?_, fun l => ⟨fun cls => ?_, fun cls => ?_⟩,
    fun w beyond => ?_⟩, fun s takes => ?_⟩
  · exact congrArg Host.Outcome.next (State.hostDirect_ok takes service rfl)
  · exact congrArg Host.Outcome.next (State.hostDirect_ok takes service rfl)
  · exact congrArg Host.Outcome.next (State.hostDirect_refuses takes service fun k => by
      rw [ownArbiterMode, OrderMode.ofWord_none beyond])
  · rw [exec_setBottom takes service, cls, Arbiter.setLast]
  · rw [exec_setBottom takes service, cls, Arbiter.setLast]
  · exact congrArg Host.Outcome.next (State.hostDirect_refuses takes service fun k => by
      rw [ownSetBottom, indexBelow_none beyond])
  · refine ⟨laneSetWord s.arbiter.tapPending, laneSetWord s.arbiter.commitPending, nextGrantWord s.nextGrant, ?_,
      laneSetWord_bit _, laneSetWord_bit _, ?_⟩
    · rw [← s.engine.lane_eq]
      exact congrArg Host.Outcome.next (State.hostDirect_answering takes rfl rfl)
    · rcases s.nextGrant with _ | (_ | _ | _ | _) <;> rfl

/-! ### The watch commands (R148, R149) -/

theorem WatchMode.ofWord_none {w : Word} (h : w = 0 ∨ 3 ≤ w.toNat) : WatchMode.ofWord w = none := by
  have one : w ≠ 1 := by rintro rfl; simp at h
  have two : w ≠ 2 := by rintro rfl; simp at h
  rw [WatchMode.ofWord, if_neg one, if_neg two]

theorem WatchMode.ofWord_code (m : WatchMode) : WatchMode.ofWord (word m.code) = some m := by cases m <;> rfl

theorem indexBelow_watchIx (e : WatchIx) : indexBelow 4 (word e.val) = some e := indexBelow_word (by decide) e

theorem entryNames_iff (e : Option WatchEntry) (card : CardNumber) :
    entryNames e card = true ↔ ∃ m, e = some ⟨card, m⟩ := by
  rcases e with _ | ⟨c, m⟩ <;> simp [entryNames]

/-- The operands of WATCH SET read back from its words. -/
theorem serveWatchSet_words (n mode : Word) (card : CardNumber) (s : State) :
    serveWatchSet (n :: cardWords card ++ [mode]) s =
      match indexBelow 4 n, WatchMode.ofWord mode with
      | some e, some m =>
        if validCard card then
          if (List.finRange 4).any fun i => i != e && entryNames s.watch[i] card then s.refused .duplicate
          else State.served { s with watch := s.watch.set e.val (some ⟨card, m⟩) }
        else s.refused .badOperand
      | _, _ => s.refused .badOperand := by
  have read : ofCardWords (arg (n :: cardWords card ++ [mode]) 1) (arg (n :: cardWords card ++ [mode]) 2)
      (arg (n :: cardWords card ++ [mode]) 3) = card := ofCardWords_cardWords card [mode]
  unfold serveWatchSet
  rw [read]
  rfl

theorem serveWatchSet_refused {n mode : Word} {card : CardNumber} (s : State)
    (out : 4 ≤ n.toNat ∨ validCard card = false ∨ mode = 0 ∨ 3 ≤ mode.toNat) :
    serveWatchSet (n :: cardWords card ++ [mode]) s = s.refused .badOperand := by
  rw [serveWatchSet_words]
  rcases out with n | card | mode
  · rw [indexBelow_none n]
  · split
    · rw [if_neg (by simp [card])]
    · rfl
  · rw [WatchMode.ofWord_none mode]
    cases indexBelow 4 n <;> rfl

/-- WATCH SET of a valid card to an entry of the list (R148). -/
theorem serveWatchSet_entry {card : CardNumber} (valid : validCard card = true) (e : WatchIx) (mode : WatchMode)
    (s : State) : serveWatchSet (word e.val :: cardWords card ++ [word mode.code]) s =
      if (List.finRange 4).any fun i => i != e && entryNames s.watch[i] card then s.refused .duplicate
      else State.served { s with watch := s.watch.set e.val (some ⟨card, mode⟩) } := by
  rw [serveWatchSet_words, indexBelow_watchIx, WatchMode.ofWord_code]
  exact if_pos valid

/-- The four entries word by word (R149). -/
theorem watch_flatMap (w : Vector (Option WatchEntry) 4) :
    w.toList.flatMap watchWords = (List.finRange 4).flatMap fun e => watchWords w[e] := by
  have entries : w.toList = (List.finRange 4).map fun e => w[e] := List.ext_getElem (by simp) fun i _ _ => by simp
  rw [entries, List.flatMap_map]

theorem watchWords_length (e : Option WatchEntry) : (watchWords e).length = 4 := by cases e <;> rfl

/-- WATCH READ answers sixteen words (R149). -/
theorem serveWatchRead_eq (ws : List Word) (s : State) :
    serveWatchRead ws s = (s, .done ((List.finRange 4).flatMap fun e => watchWords s.watch[e]) 16) := by
  have sixteen : ((List.finRange 4).flatMap fun e => watchWords s.watch[e]).length = 16 := by
    simp [List.length_flatMap, watchWords_length]
  rw [serveWatchRead, watch_flatMap, Answer.counted, sixteen]
  rfl

/-- Settles O43: each command served whole, by its operands. -/
theorem watchListCommanded : Obligations.WatchListCommanded := by
  unfold Obligations.WatchListCommanded
  intro s
  refine ⟨fun e card mode h valid => ?_, fun n mode card h out => exec_whole rfl h (serveWatchSet_refused s out) rfl,
    fun n h => ⟨?_, fun out => ?_⟩, fun h => exec_whole rfl h ?_ rfl⟩
  · have held : ((List.finRange 4).any fun i => i != e && entryNames s.watch[i] card) = true ↔
        ∃ i : WatchIx, i ≠ e ∧ ∃ m, s.watch[i] = some ⟨card, m⟩ := by
      simp [List.any_eq_true, entryNames_iff]
    have served := serveWatchSet_entry valid e mode s
    exact ⟨fun alone => exec_whole rfl h (served.trans (if_neg (mt held.1 alone))) rfl,
      fun elsewhere => exec_whole rfl h (served.trans (if_pos (held.2 elsewhere))) rfl⟩
  · rintro e rfl
    refine exec_whole rfl h ?_ rfl
    simp only [server, serveWatchClear, arg, List.getD_cons_zero, indexBelow_watchIx]
    rfl
  · refine exec_whole rfl h ?_ rfl
    simp only [server, serveWatchClear, arg, List.getD_cons_zero, indexBelow_none out]
    rfl
  · exact serveWatchRead_eq [] s

end Sys2Proof.Machine
end

section
namespace Sys2Proof.Machine

/-! ### The engine serves the host without the link (R153) -/

theorem State.link_of_lookup {s t : State} {card : CardNumber} {result : LookupResult}
    (h : s.lookup card = (result, t)) : t.link = s.link := by
  simpa [h] using s.lookup_link card

theorem State.link_of_portRead {s t : State} {slot : Nat} {v : SlotVerdict} (h : s.portRead slot = (v, t)) :
    t.link = s.link := by
  simpa [h] using s.portRead_link slot

theorem State.onCard_link (s : State) (card : CardNumber) {f : Nat → CardRecord → State → State × Answer}
    (h : ∀ slot r (t : State), (f slot r t).1.link = t.link) : (s.onCard card f).1.link = s.link := by
  unfold State.onCard
  split
  · next e => exact State.link_of_lookup e
  · next e => exact State.link_of_lookup e
  · next e => exact (h _ _ _).trans (State.link_of_lookup e)

theorem onFound_link (k : Cmd) (ws : List Word) (slot : Nat) (r : CardRecord) (s : State) :
    (onFound k ws slot r s).1.link = s.link := by
  simp only [onFound]
  split
  · rfl
  · split
    · rfl
    · exact s.writeRecord_link slot _
  · exact s.writeRecord_link slot _
  · split
    · rfl
    · exact s.writeRecord_link slot _
  · exact s.writeRecord_link slot _
  · exact s.writeRecord_link slot _
  · exact s.writeRecord_link slot _
  · split
    · rfl
    · exact s.portWrite_link slot _
  · rfl

theorem serveCardAdd_link (ws : List Word) (s : State) : (serveCardAdd ws s).1.link = s.link := by
  unfold serveCardAdd
  split
  · rfl
  · split
    · next e => exact State.link_of_lookup e
    · next e => exact State.link_of_lookup e
    · next e => exact (State.raise_link _ _ _).trans (State.link_of_lookup e)
    · next e => exact (State.writeRecord_link _ _ _).trans (State.link_of_lookup e)

theorem State.advanceTable_link (s : State) : s.advanceTable.link = s.link := rfl

theorem State.writeAtCursor_link (s : State) (content : Vector Word 15) :
    (s.writeAtCursor content).1.link = s.link := by
  unfold State.writeAtCursor
  split
  · rfl
  · exact (State.advanceTable_link _).trans (s.portWrite_link _ _)

theorem serveTableWrite_link (ws : List Word) (s : State) : (serveTableWrite ws s).1.link = s.link := by
  simp only [serveTableWrite]
  split
  · exact s.writeAtCursor_link _
  · split
    · split
      · rfl
      · split
        · split
          · rfl
          · exact s.raise_link _ _
          · exact s.writeAtCursor_link _
        · rfl
    · rfl

theorem serveTableRead_link (ws : List Word) (s : State) : (serveTableRead ws s).1.link = s.link := by
  unfold serveTableRead
  split
  · next e => exact (State.advanceTable_link _).trans (State.link_of_portRead e)
  · next e => exact (State.advanceTable_link _).trans (State.link_of_portRead e)

theorem State.setSweepCursor_link (s : State) (n : Nat) : State.link { s with sweepCursor := n } = s.link := rfl

theorem serveSweepNext_link (ws : List Word) (s : State) : (serveSweepNext ws s).1.link = s.link := by
  unfold serveSweepNext
  split
  · next slot r _ => exact (State.setSweepCursor_link _ _).trans (s.writeRecord_link slot _)
  · next slot _ => exact (State.setSweepCursor_link _ _).trans (s.raise_link .memoryFault _)
  · rfl

theorem server_card_link {c : Cmd} (named : c ∈ cardCommands) (ws : List Word) (s : State) :
    (server c ws s).1.link = s.link := by
  rw [server_onCard named]
  split
  · exact s.onCard_link _ fun slot r t => onFound_link c ws slot r t
  · rfl

/-- What the engine serves for the host leaves the link alone; the hand-over reaches it (R153). -/
theorem server_link (c : Cmd) (ws : List Word) (s : State) : (server c ws s).1.link = s.link := by
  by_cases named : c ∈ cardCommands
  · exact server_card_link named ws s
  cases c with
  | cardFind | addValue | setBalance | settle | setProduct | deny | allow | cardRetire =>
    exact absurd (by decide) named
  | cardAdd => exact serveCardAdd_link ws s
  | tableRead => exact serveTableRead_link ws s
  | tableWrite => exact serveTableWrite_link ws s
  | enforce =>
    simp only [server, serveEnforce]
    repeat' split
    all_goals rfl
  | tableSeek =>
    simp only [server, serveTableSeek]
    split <;> rfl
  | fareSetBase =>
    simp only [server, serveFareSetBase]
    repeat' split
    all_goals rfl
  | fareSetBand =>
    simp only [server, serveFareSetBand]
    repeat' split
    all_goals rfl
  | fareSetClass =>
    simp only [server, serveFareSetClass]
    repeat' split
    all_goals rfl
  | fareSetPolicy =>
    simp only [server, serveFareSetPolicy]
    repeat' split
    all_goals rfl
  | fareRead =>
    simp only [server, serveFareRead]
    split <;> rfl
  | watchSet =>
    simp only [server, serveWatchSet]
    repeat' split
    all_goals rfl
  | watchClear =>
    simp only [server, serveWatchClear]
    split <;> rfl
  | sweepNext => exact serveSweepNext_link ws s
  | _ => rfl

/-! ### Operations stage by stage (R129, R137, R150, R153, R156) -/

/-- The hand-over of an outcome, ABORTED LATE in its place where an ABORT met the command (R166). -/
theorem State.handOver_eq {s : State} {c : Cmd} {ws : List Word} {late : Bool}
    (phase : s.link.phase = .executing c ws late) (a : Answer) :
    s.handOver a = s.handed (if late then .reject .abortedLate else a) := by
  simp only [State.handOver, phase]
  rfl

/-- A host request served by its first stage and not handed over. -/
def State.servedHost (s : State) (c : Cmd) (ws : List Word) : State :=
  { (server c ws s).1 with engine := .host ⟨c, ws, some (server c ws s).2⟩ }

theorem State.servedHost_link (s : State) (c : Cmd) (ws : List Word) : (s.servedHost c ws).link = s.link :=
  server_link c ws s

theorem State.runHost_serves {s : State} {c : Cmd} {ws : List Word} (h : s.hosts c ws) :
    s.runHost c (server c) (.stages 1) = s.servedHost c ws := by
  simp only [State.runHost, h.1, if_true, stageCount, State.hostStages]
  rfl

/-- The stage after the service is the hand-over. -/
theorem State.runHost_handsOver {s : State} {c : Cmd} {ws : List Word} {a : Answer}
    (engine : s.engine = .host ⟨c, ws, some a⟩) : s.runHost c (server c) (.stages 1) = s.handOver a := by
  simp only [State.runHost, engine, if_true, stageCount, State.hostStages]

theorem State.runHost_other {s : State} {c : Cmd} (serve : List Word → State → State × Answer) (p : Progress)
    (other : ∀ h, s.engine = .host h → h.cmd ≠ c) : s.runHost c serve p = s := by
  unfold State.runHost
  split
  · next h engine => exact if_neg (other h engine)
  · rfl

theorem execTapDecision_deciding {s : State} {d : Decision} (h : s.engine = .deciding d) (p : Progress) :
    exec (.tapDecision p) s = .next (runDecision (stageCount 11 p) d s) := by
  simp only [exec, execTapDecision, h]

theorem execCommit_committing {s : State} {c : Commit} (h : s.engine = .committing c) (p : Progress) :
    exec (.commit p) s = .next (runCommit (stageCount 5 p) c s) := by
  simp only [exec, execCommit, h]

/-- A decision before its end runs its stage and then the others. -/
theorem runDecision_succ {d : Decision} (going : d.stage ≠ .decisionEnd) (n : Nat) (s : State) :
    runDecision (n + 1) d s = runDecision n (decisionStage d s).1
      { (decisionStage d s).2 with engine := .deciding (decisionStage d s).1 } := by
  conv_lhs => unfold runDecision
  split
  · next ended => exact absurd ended going
  · rfl

/-- A commit before its end runs its stage and then the others. -/
theorem runCommit_succ {c : Commit} (going : c.stage ≠ .commitEnd) (n : Nat) (s : State) :
    runCommit (n + 1) c s = runCommit n (commitStage c s).1
      { (commitStage c s).2 with engine := .committing (commitStage c s).1 } := by
  conv_lhs => unfold runCommit
  split
  · next ended => exact absurd ended going
  · rfl

/-- Settles O31: a stage of a decision or a commit leaves the operation in the engine for the others, and a host
request its outcome for the hand-over, the link as it was. -/
theorem operationsMoveByStages : Obligations.OperationsMoveByStages := by
  unfold Obligations.OperationsMoveByStages
  refine ⟨fun s d n engine going => ⟨_, execTapDecision_deciding engine _, ?_⟩,
    fun s g n engine going => ⟨_, execCommit_committing engine _, ?_⟩,
    fun s k ws one whole h first all => ?_, fun s p => ⟨fun idle => ?_, fun idle => ?_, fun idle => ⟨?_, ?_⟩,
      fun k i row other => ?_⟩⟩
  · simp only [stageCount, runDecision_succ going, runDecision, execTapDecision_deciding engine]
    exact (execTapDecision_deciding rfl (.stages n)).symm
  · simp only [stageCount, runCommit_succ going, runCommit, execCommit_committing engine]
    exact (execCommit_committing rfl (.stages n)).symm
  · have phase : (s.servedHost k ws).link.phase = .executing k ws false := by rw [s.servedHost_link, h.2]
    have handed : exec one (s.servedHost k ws) = .next ((s.servedHost k ws).handed (server k ws s).2) := by
      rw [exec_engineRow first, State.runHost_handsOver rfl, State.handOver_eq phase]
      rfl
    refine ⟨s.servedHost k ws, (server k ws s).2, ?_, rfl, s.servedHost_link k ws, ?_, handed, fun x => ?_⟩
    · rw [exec_engineRow first, State.runHost_serves h]
    · rw [handed]
      exact exec_whole (t := (server k ws s).1) all h rfl (server_link k ws s)
    · rw [exec_engineRow first, State.runHost_handsOver rfl, State.handOver_eq rfl]
      rfl
  · cases engine : s.engine <;> simp_all [exec, execTapDecision, Engine.decision]
  · cases engine : s.engine <;> simp_all [exec, execCommit, Engine.commit]
  · cases engine : s.engine <;> simp_all [exec, execClearing, Engine.clearingAt]
  · cases engine : s.engine <;> simp_all [exec, execClearingComplete, Engine.clearingAt]
  · rw [exec_engineRow row, State.runHost_other _ p other]

end Sys2Proof.Machine
end

section
namespace Sys2Proof.Machine

/-! ### A decision run to its end (R137) -/

/-- How many stages a decision has before it, its end among them, when no stage refuses or is passed over. -/
def DecisionStage.left : DecisionStage → Nat
  | .watch => 11
  | .lookup => 10
  | .unknown => 9
  | .inPassage => 8
  | .deny => 7
  | .latch => 6
  | .passDays => 5
  | .hold => 4
  | .fare => 3
  | .write => 2
  | .decisionEnd => 1

theorem DecisionStage.left_pos (g : DecisionStage) : 1 ≤ g.left := by cases g <;> decide

theorem DecisionStage.left_end_lt {g : DecisionStage} (going : g ≠ .decisionEnd) :
    DecisionStage.left .decisionEnd < g.left := by
  cases g with
  | decisionEnd => exact absurd rfl going
  | _ => decide

/-- A check that refuses or goes on to a later stage brings a decision nearer to its end. -/
theorem Decision.left_of_check {d : Decision} {next : DecisionStage} {reason : Reason} {s : State} (refuse : Prop)
    [Decidable refuse] (going : d.stage ≠ .decisionEnd) (nearer : next.left < d.stage.left) :
    (if refuse then (d.refuse reason, s) else (d.goto next, s)).1.stage.left < d.stage.left := by
  split
  · exact DecisionStage.left_end_lt going
  · exact nearer

/-- Each stage brings a decision nearer to its end. -/
theorem decisionStage_left {d : Decision} (going : d.stage ≠ .decisionEnd) (s : State) :
    (decisionStage d s).1.stage.left < d.stage.left := by
  unfold decisionStage
  split
  · next stage =>
    simp only [stageWatch]
    repeat' split
    all_goals simp [stage, Decision.refuse, Decision.goto, DecisionStage.left]
  · next stage =>
    simp only [stageLookup]
    split
    all_goals simp [stage, Decision.refuse, DecisionStage.left]
  · next stage =>
    simp only [stageUnknown]
    repeat' split
    all_goals simp [stage, Decision.refuse, DecisionStage.left]
  · next stage => exact Decision.left_of_check _ going (by rw [stage]; decide)
  · next stage _ => exact Decision.left_of_check _ going (by rw [stage]; decide)
  · next stage _ => exact Decision.left_of_check _ going (by rw [stage]; decide)
  · next stage _ => exact Decision.left_of_check _ going (by rw [stage]; decide)
  · next stage =>
    unfold stageHold
    split
    all_goals simp [stage, Decision.refuse, DecisionStage.left]
  · next stage _ _ =>
    simp only [stageFare]
    split
    all_goals simp [stage, Decision.refuse, DecisionStage.left]
  · next stage _ =>
    unfold stageWrite
    split
    all_goals simp [stage, Decision.goto, DecisionStage.left]
  · exact DecisionStage.left_end_lt going

theorem runDecision_end {d : Decision} (ended : d.stage = .decisionEnd) (n : Nat) (s : State) :
    runDecision (n + 1) d s = s.endDecision d := by
  rw [runDecision, ended]

/-- Stages beyond the end do nothing. -/
theorem runDecision_enough (n m : Nat) (d : Decision) (s : State) (hn : d.stage.left ≤ n) (hm : d.stage.left ≤ m) :
    runDecision n d s = runDecision m d s := by
  have one := d.stage.left_pos
  induction n generalizing m d s with
  | zero => omega
  | succ n ih =>
    obtain ⟨m, rfl⟩ : ∃ k, m = k + 1 := ⟨m - 1, by omega⟩
    by_cases ended : d.stage = .decisionEnd
    · rw [runDecision_end ended, runDecision_end ended]
    · have nearer := decisionStage_left ended s
      rw [runDecision_succ ended, runDecision_succ ended]
      exact ih m _ _ (by omega) (by omega) (DecisionStage.left_pos _)

/-- What a decision in service leaves when it is run to its end (R137). -/
def State.outcome (s : State) (d : Decision) : State :=
  runDecision d.stage.left d { s with engine := .deciding d }

/-- TAP_DECISION of a decision just begun, run whole. -/
theorem exec_tapDecision_whole {s : State} {d : Decision} (engine : s.engine = .deciding d) (fresh : d.Fresh) :
    exec (.tapDecision .whole) s = .next (s.outcome d) := by
  have same : { s with engine := .deciding d } = s := by rw [← engine]
  rw [execTapDecision_deciding engine, State.outcome, fresh.1, same]
  rfl

/-- A decision goes on from what its stage has made of it and of the state. -/
theorem State.outcome_step {s t : State} {d e : Decision} (going : d.stage ≠ .decisionEnd)
    (h : decisionStage d { s with engine := .deciding d } = (e, { t with engine := .deciding d })) :
    s.outcome d = t.outcome e := by
  have nearer := decisionStage_left going { s with engine := .deciding d }
  have last := e.stage.left_pos
  rw [h] at nearer
  obtain ⟨n, left⟩ : ∃ n, d.stage.left = n + 1 := ⟨d.stage.left - 1, by omega⟩
  rw [State.outcome, left, runDecision_succ going, h]
  exact runDecision_enough _ _ _ _ (by omega) le_rfl

theorem State.outcome_end {s : State} {d : Decision} (ended : d.stage = .decisionEnd) :
    s.outcome d = State.endDecision { s with engine := .deciding d } d := by
  rw [State.outcome, ended]
  exact runDecision_end ended 0 _

/-! The stage that a decision is at. -/

section
variable {d : Decision} {r : CardRecord} (s : State)

theorem decisionStage_watch (stage : d.stage = .watch) : decisionStage d s = stageWatch d s := by
  simp only [decisionStage, stage]

theorem decisionStage_lookup (stage : d.stage = .lookup) : decisionStage d s = stageLookup d s := by
  simp only [decisionStage, stage]

theorem decisionStage_unknown (stage : d.stage = .unknown) : decisionStage d s = stageUnknown d s := by
  simp only [decisionStage, stage]

theorem decisionStage_inPassage (stage : d.stage = .inPassage) : decisionStage d s = stageInPassage d s := by
  simp only [decisionStage, stage]

theorem decisionStage_deny (stage : d.stage = .deny) (record : d.record = some r) :
    decisionStage d s = stageDeny d r s := by
  simp only [decisionStage, stage, record]

theorem decisionStage_latch (stage : d.stage = .latch) (record : d.record = some r) :
    decisionStage d s = stageLatch d r s := by
  simp only [decisionStage, stage, record]

theorem decisionStage_passDays (stage : d.stage = .passDays) (record : d.record = some r) :
    decisionStage d s = stagePassDays d r s := by
  simp only [decisionStage, stage, record]

theorem decisionStage_hold (stage : d.stage = .hold) : decisionStage d s = stageHold d s := by
  simp only [decisionStage, stage]

theorem decisionStage_fare {h : Hold} (stage : d.stage = .fare) (record : d.record = some r) (hold : d.hold = some h) :
    decisionStage d s = stageFare d r h s := by
  simp only [decisionStage, stage, record, hold]

theorem decisionStage_write (stage : d.stage = .write) (record : d.record = some r) :
    decisionStage d s = stageWrite d r s := by
  simp only [decisionStage, stage, record]

end

/-! ### Stages 2 to 4: the watch list, the lookup and the unknown card (R138, R139) -/

/-- A HOLD entry of the watch list names the card of the decision (R138). -/
def State.heldByWatch (s : State) (d : Decision) : Bool :=
  (List.finRange 4).any fun e => s.watch[e] == some ⟨d.card, .hold⟩

theorem State.heldByWatch_iff (s : State) (d : Decision) :
    s.heldByWatch d = true ↔ ∃ e : WatchIx, s.watch[e] = some ⟨d.card, .hold⟩ := by
  simp [State.heldByWatch]

theorem State.watchEvents_eq (s : State) (d : Decision) : s.watchEvents d =
    (s.watchMatch d.card).elim s.attention fun e => s.attention.occur .watchHit (word d.lane.val, word e.val) := by
  unfold State.watchEvents
  split
  · next e found =>
    have named : s.watchMatch d.card = some e := found
    rw [named]
    rfl
  · next none =>
    have unnamed : s.watchMatch d.card = Option.none := none
    rw [unnamed]
    rfl

/-- Stage 2: no entry names the card, or one does, and it alone (R138, R146). -/
theorem stageWatch_eq {s : State} (d : Decision) (legal : WatchLegal s.watch) :
    stageWatch d s = (if s.heldByWatch d then d.refuse .watch else d.goto .lookup,
      { s with attention := s.watchEvents d }) := by
  rw [s.watchEvents_eq, stageWatch]
  cases found : s.watchMatch d.card with
  | none =>
    have free : ¬s.heldByWatch d = true := fun held => by
      obtain ⟨e, held⟩ := (s.heldByWatch_iff d).1 held
      exact List.find?_eq_none.1 found e (List.mem_finRange e) ((entryNames_iff _ _).2 ⟨_, held⟩)
    rw [if_neg free]
    rfl
  | some e =>
    have names := List.find?_some (p := fun i : WatchIx => entryNames s.watch[i] d.card) found
    obtain ⟨mode, entry⟩ := (entryNames_iff _ _).1 names
    cases mode with
    | hold =>
      rw [if_pos ((s.heldByWatch_iff d).2 ⟨e, entry⟩)]
      simp only [entry]
      rfl
    | note =>
      have free : ¬s.heldByWatch d = true := fun held => by
        obtain ⟨f, held⟩ := (s.heldByWatch_iff d).1 held
        obtain rfl := (legal e _ entry).2 f _ held rfl
        rw [entry] at held
        cases held
      rw [if_neg free]
      simp only [entry]
      rfl

theorem State.outcome_watch {s : State} {d : Decision} (legal : WatchLegal s.watch) (stage : d.stage = .watch) :
    s.outcome d = State.outcome { s with attention := s.watchEvents d }
      (if s.heldByWatch d then d.refuse .watch else d.goto .lookup) :=
  State.outcome_step (by simp [stage]) ((decisionStage_watch _ stage).trans (stageWatch_eq d legal))

/-- The lookup of a decision's card (R139). -/
def State.tapLookup (s : State) (d : Decision) : LookupResult :=
  lookupSlots s.mem d.card (windowSlots s.geometry d.card) none none

/-- A decision with the record that it works on, before the in-passage stage, or refused for want of one (R139). -/
def State.recorded (s : State) (d : Decision) : Decision :=
  match s.tapRecord d with
  | .error reason => { d with lookup := some (s.tapLookup d) }.refuse reason
  | .ok (slot, r, built) =>
    { d with lookup := some (s.tapLookup d), slot := slot, record := some r, built := built, stage := .inPassage }

theorem stageLookup_fault {s : State} {d : Decision} {slot : Nat} (h : s.tapLookup d = .fault slot) :
    stageLookup d s = ({ d with lookup := some (.fault slot) }.refuse .fault,
      s.raise .memoryFault (wideSubject slot)) := by
  rw [stageLookup, State.lookup_fault h]

theorem stageLookup_found {s : State} {d : Decision} {slot : Nat} {r : CardRecord} {insert : Option Nat}
    (h : s.tapLookup d = .found slot r insert) :
    stageLookup d s = ({ d with
      lookup := some (.found slot r insert), slot := slot, record := some r, stage := .inPassage }, s) := by
  rw [stageLookup, State.lookup_found h]

theorem stageLookup_notFound {s : State} {d : Decision} {insert : Option Nat}
    (h : s.tapLookup d = .notFound insert) :
    stageLookup d s = ({ d with lookup := some (.notFound insert), stage := .unknown }, s) := by
  rw [stageLookup, State.lookup_notFound h]

/-- Stages 3 and 4 give the decision its record, or refuse it for want of one (R139). -/
theorem State.outcome_lookup {s : State} {d : Decision} (unbuilt : d.built = false) :
    State.outcome { s with attention := s.watchEvents d } (d.goto .lookup) =
      State.outcome { s with attention := s.lookupEvents d } (s.recorded d) := by
  have going : (d.goto .lookup).stage ≠ .decisionEnd := nofun
  cases found : s.tapLookup d with
  | fault slot =>
    have slots : lookupSlots s.mem d.card (windowSlots s.geometry d.card) none none = .fault slot := found
    simp only [State.lookupEvents, State.recorded, State.tapRecord, slots, found]
    exact State.outcome_step going ((decisionStage_lookup _ rfl).trans (stageLookup_fault found))
  | found slot r insert =>
    have slots : lookupSlots s.mem d.card (windowSlots s.geometry d.card) none none = .found slot r insert := found
    simp only [State.lookupEvents, State.recorded, State.tapRecord, slots, found, ← unbuilt]
    exact State.outcome_step going ((decisionStage_lookup _ rfl).trans (stageLookup_found found))
  | notFound insert =>
    have slots : lookupSlots s.mem d.card (windowSlots s.geometry d.card) none none = .notFound insert := found
    have unknown : State.outcome { s with attention := s.watchEvents d } (d.goto .lookup) =
        State.outcome { s with attention := s.watchEvents d }
          { d with lookup := some (.notFound insert), stage := .unknown } :=
      State.outcome_step going ((decisionStage_lookup _ rfl).trans (stageLookup_notFound found))
    rw [unknown]
    refine State.outcome_step nofun ((decisionStage_unknown _ rfl).trans ?_)
    simp only [State.lookupEvents, State.recorded, State.tapRecord, slots, found, stageUnknown]
    cases insert <;> cases s.fares.policy <;> rfl

/-! ### Stages 5 to 8: the checks of the record (R140, R141) -/

/-- Why a record that a decision works on is refused before a place is held for it (R140, R141). -/
def State.recordReason (s : State) (slot : Nat) (r : CardRecord) (day : Nat) : Option Reason :=
  if s.inPassage slot then some .inPassage
  else if r.deny && s.enforce then some .denied
  else if r.product = .purse ∧ r.latch = true then some .overdrawn
  else if r.product = .pass ∧ (day < r.passFirst ∨ r.passLast < day) then some .passNotValid
  else none

/-- A check sends a decision to its end or on to the next stage. -/
theorem State.outcome_check {s : State} {d e f : Decision} (going : d.stage ≠ .decisionEnd) {refuse : Prop}
    [Decidable refuse] (h : decisionStage d { s with engine := .deciding d } =
      if refuse then (e, { s with engine := .deciding d }) else (f, { s with engine := .deciding d })) :
    s.outcome d = s.outcome (if refuse then e else f) :=
  State.outcome_step going (h.trans (apply_ite (·, { s with engine := .deciding d }) _ _ _).symm)

/-- Stages 5 to 8 bring a decision to the hold stage, or refuse it for the first reason there is. -/
theorem State.outcome_checks {s : State} {d : Decision} {r : CardRecord} (stage : d.stage = .inPassage)
    (record : d.record = some r) :
    s.outcome d = s.outcome ((s.recordReason d.slot r d.day).elim (d.goto .hold) d.refuse) := by
  have recorded : ∀ g, (d.goto g).record = some r := fun _ => record
  have passage : s.outcome d = s.outcome (if s.inPassage d.slot then d.refuse .inPassage else d.goto .deny) :=
    State.outcome_check (by simp [stage]) (decisionStage_inPassage _ stage)
  have deny : s.outcome (d.goto .deny) = s.outcome (if r.deny && s.enforce then d.refuse .denied else d.goto .latch) :=
    State.outcome_check (by simp [Decision.goto]) (decisionStage_deny _ rfl (recorded _))
  have latch : s.outcome (d.goto .latch) =
      s.outcome (if r.product = .purse ∧ r.latch = true then d.refuse .overdrawn else d.goto .passDays) :=
    State.outcome_check (by simp [Decision.goto]) (decisionStage_latch _ rfl (recorded _))
  have passDays : s.outcome (d.goto .passDays) =
      s.outcome (if r.product = .pass ∧ ¬(r.passFirst ≤ d.day ∧ d.day ≤ r.passLast) then d.refuse .passNotValid
        else d.goto .hold) :=
    State.outcome_check (by simp [Decision.goto]) (decisionStage_passDays _ rfl (recorded _))
  have invalid : ¬(r.passFirst ≤ d.day ∧ d.day ≤ r.passLast) ↔ d.day < r.passFirst ∨ r.passLast < d.day := by
    omega
  simp only [invalid] at passDays
  rw [passage, State.recordReason]
  split
  · rfl
  · rw [deny]
    split
    · rfl
    · rw [latch]
      split
      · rfl
      · rw [passDays]
        split <;> rfl

/-! ### Stages 9 to 11: the hold, the fare and the provisional write (R142 to R144) -/

theorem stageHold_lands {s : State} {d : Decision} {x : DepIx} (target : s.holdTarget (s.lane d.lane).berth = .ok x) :
    stageHold d s = ({ d with hold := some (s.particulars x), stage := .fare }, s.landed x) := by
  rw [stageHold, State.holdRequest_eq, target]

/-- A hold that lands nowhere is answered with the reason of its target (R85, R86). -/
theorem stageHold_unheld {s : State} {d : Decision} {reason : Reason}
    (target : s.holdTarget (s.lane d.lane).berth = .error reason) : stageHold d s = (d.refuse reason, s) := by
  rw [stageHold, State.holdRequest_eq, target]
  rcases s.holdTarget_cases (s.lane d.lane).berth with e | e | ⟨x, e⟩ <;> cases e.symm.trans target <;> rfl

/-- Stage 9: a hold lands on a departure (R142). -/
theorem State.outcome_lands {s : State} {d : Decision} {x : DepIx} (stage : d.stage = .hold)
    (target : s.holdTarget (s.lane d.lane).berth = .ok x) :
    s.outcome d = (s.landed x).outcome { d with hold := some (s.particulars x), stage := .fare } :=
  State.outcome_step (by simp [stage]) ((decisionStage_hold _ stage).trans
    (stageHold_lands (s := { s with engine := .deciding d }) target))

/-- Stage 9: no hold lands (R142). -/
theorem State.outcome_unheld {s : State} {d : Decision} {reason : Reason} (stage : d.stage = .hold)
    (target : s.holdTarget (s.lane d.lane).berth = .error reason) : s.outcome d = s.outcome (d.refuse reason) :=
  State.outcome_step (by simp [stage]) ((decisionStage_hold _ stage).trans
    (stageHold_unheld (s := { s with engine := .deciding d }) target))

section
variable {s : State} {d : Decision} {r : CardRecord} {h : Hold} (stage : d.stage = .fare)
  (record : d.record = some r) (hold : d.hold = some h)
include stage record hold

/-- Stage 10: the charge can be met (R143). -/
theorem State.outcome_sufficient
    (enough : fareSufficient s.fares r (fareCharge s.fares r h.route d.day d.minute).1 = true) :
    s.outcome d = s.outcome { d with
      fare := openFareFields s.fares r (fareCharge s.fares r h.route d.day d.minute).1
      transfer := (fareCharge s.fares r h.route d.day d.minute).2
      stage := .write } :=
  State.outcome_step (by simp [stage]) ((decisionStage_fare _ stage record hold).trans (if_pos enough))

/-- Stage 10: the charge cannot be met, and the hold is given back (R143). -/
theorem State.outcome_insufficient
    (short : ¬fareSufficient s.fares r (fareCharge s.fares r h.route d.day d.minute).1 = true) :
    s.outcome d = State.outcome { s with
        departures := s.departures.set h.departure.val (s.dep h.departure).released }
      (Decision.refuse { d with
        fare := insufficientFields s.fares r (fareCharge s.fares r h.route d.day d.minute).1 } .insufficient) := by
  refine State.outcome_step (by simp [stage]) ((decisionStage_fare _ stage record hold).trans ((if_neg short).trans ?_))
  rw [State.release_eq]
  rfl

end

theorem stageWrite_eq {d : Decision} (unwritten : d.wrote = false) (r : CardRecord) (s : State) :
    stageWrite d r s = ({ d with wrote := d.built, stage := .decisionEnd },
      { s with mem := if d.built then Memory.writeSlot s.mem d.slot (encodeRecord r) else s.mem }) := by
  unfold stageWrite
  split
  · next built =>
    simp only [built]
    rfl
  · next built =>
    cases d
    simp_all [Decision.goto]

/-- Stage 11: the record is written that the decision built (R144). -/
theorem State.outcome_written {s : State} {d : Decision} {r : CardRecord} (stage : d.stage = .write)
    (record : d.record = some r) (unwritten : d.wrote = false) :
    s.outcome d = State.outcome { s with
        mem := if d.built then Memory.writeSlot s.mem d.slot (encodeRecord r) else s.mem }
      { d with wrote := d.built, stage := .decisionEnd } :=
  State.outcome_step (by simp [stage]) ((decisionStage_write _ stage record).trans (stageWrite_eq unwritten r _))

/-! ### A decision as the manual states it (R138 to R144) -/

/-- Why a decision on a record is refused where it asks for a place (R142, R143). -/
def State.placeReason (s : State) (d : Decision) (r : CardRecord) : Option Reason :=
  match s.holdTarget (s.lane d.lane).berth with
  | .error reason => some reason
  | .ok x => if fareSufficient s.fares r (s.tapCharge d r x).1 then none else some .insufficient

theorem State.tapReason_watch {s : State} {d : Decision} (held : s.heldByWatch d = true) :
    s.tapReason d = some .watch := if_pos held

theorem State.tapReason_unrecorded {s : State} {d : Decision} {reason : Reason} (free : ¬s.heldByWatch d = true)
    (record : s.tapRecord d = .error reason) : s.tapReason d = some reason := by
  unfold State.tapReason
  rw [record]
  exact if_neg free

theorem State.tapReason_recorded {s : State} {d : Decision} {slot : Nat} {r : CardRecord} {built : Bool}
    (free : ¬s.heldByWatch d = true) (record : s.tapRecord d = .ok (slot, r, built)) :
    s.tapReason d = (s.recordReason slot r d.day).elim (s.placeReason d r) some := by
  unfold State.tapReason State.recordReason
  rw [record]
  refine (if_neg free).trans ?_
  dsimp only
  split
  · rfl
  · split
    · rfl
    · split
      · rfl
      · split <;> rfl

/-- The refusals before a hold can have landed, and after the watch list, leave nothing but the events of the lookup
(R139 to R142). -/
def Reason.Early (reason : Reason) : Prop := reason ≠ .watch ∧ reason ≠ .insufficient

theorem State.tapRecord_early {s : State} {d : Decision} {reason : Reason} (h : s.tapRecord d = .error reason) :
    reason.Early := by
  unfold State.tapRecord at h
  repeat' split at h
  all_goals cases h
  all_goals exact ⟨nofun, nofun⟩

theorem State.recordReason_early {s : State} {slot day : Nat} {r : CardRecord} {reason : Reason}
    (h : s.recordReason slot r day = some reason) : reason.Early := by
  unfold State.recordReason at h
  repeat' split at h
  all_goals cases h
  all_goals exact ⟨nofun, nofun⟩

theorem State.holdTarget_early {s : State} {b : Berth} {reason : Reason} (h : s.holdTarget b = .error reason) :
    reason.Early := by
  rcases s.holdTarget_cases b with e | e | ⟨x, e⟩ <;> cases e.symm.trans h <;> exact ⟨nofun, nofun⟩

section
variable {s : State} {d : Decision} {reason : Reason} (refused : s.tapReason d = some reason)
include refused

theorem State.tapEvents_early (early : reason.Early) : s.tapEvents d = s.lookupEvents d := by
  obtain ⟨watch, insufficient⟩ := early
  cases reason <;> simp_all [State.tapEvents]

theorem State.heldAndReleased_of_ne (h : reason ≠ .insufficient) : s.heldAndReleased d = s.departures := by
  cases reason <;> simp_all [State.heldAndReleased]

theorem State.tapMemory_refused : s.tapMemory d = s.mem := by
  simp [State.tapMemory, refused]

end

theorem State.refusalFields_of_ne {s : State} {d : Decision} {reason : Reason} (h : reason ≠ .insufficient) :
    s.refusalFields d reason = FareFields.zero := by
  cases reason <;> simp_all [State.refusalFields]

/-! ### A decision brought to its end (R137 to R144) -/

/-- A decision at its end, refused for a reason with the fare fields to be shown (R145). -/
structure Decision.RefusedWith (e : Decision) (lane : Lane) (reason : Reason) (fare : FareFields) : Prop where
  stage : e.stage = .decisionEnd
  lane : e.lane = lane
  refusal : e.refusal = some reason
  fare : e.fare = fare

theorem Decision.refusedWith (d : Decision) (reason : Reason) : (d.refuse reason).RefusedWith d.lane reason d.fare :=
  ⟨rfl, rfl, rfl, rfl⟩

/-- A decision at the in-passage stage with the record that it works on. -/
def State.working (s : State) (d : Decision) (slot : Nat) (r : CardRecord) (built : Bool) : Decision :=
  { d with lookup := some (s.tapLookup d), slot := slot, record := some r, built := built, stage := .inPassage }

/-- The decision at the fare stage, with the hold that has landed. -/
def State.holding (s : State) (d : Decision) (slot : Nat) (r : CardRecord) (built : Bool) (x : DepIx) : Decision :=
  { s.working d slot r built with hold := some (s.particulars x), stage := .fare }

section
variable {s : State} {d : Decision} (legal : WatchLegal s.watch) (fresh : d.Fresh)
  (free : ¬s.heldByWatch d = true)
include legal fresh free

theorem State.outcome_free :
    s.outcome d = State.outcome { s with attention := s.lookupEvents d } (s.recorded d) := by
  obtain ⟨stage, _, _, _, unbuilt, _⟩ := fresh
  rw [State.outcome_watch legal stage, if_neg free]
  exact State.outcome_lookup unbuilt

variable {slot : Nat} {r : CardRecord} {built : Bool} (record : s.tapRecord d = .ok (slot, r, built))
include record

theorem State.outcome_recorded : s.outcome d = State.outcome { s with attention := s.lookupEvents d }
    ((s.recordReason slot r d.day).elim ((s.working d slot r built).goto .hold) (s.working d slot r built).refuse) := by
  have working : s.recorded d = s.working d slot r built := by
    rw [State.recorded, record]
    rfl
  rw [State.outcome_free legal fresh free, working]
  exact State.outcome_checks rfl rfl

/-- The hold has landed, and the fare is to be judged. -/
theorem State.outcome_placed {x : DepIx} (passed : s.recordReason slot r d.day = none)
    (target : s.holdTarget (s.lane d.lane).berth = .ok x) :
    s.outcome d = State.outcome { s with
        departures := s.departures.set x.val (s.dep x).withHold, attention := s.holdEvents x (s.lookupEvents d) }
      (s.holding d slot r built x) := by
  rw [State.outcome_recorded legal fresh free record, passed]
  exact State.outcome_lands (s := { s with attention := s.lookupEvents d }) rfl target

end

/-- A decision refused for INSUFFICIENT has its hold given back and shows the charge (R67, R143). -/
theorem State.outcome_short {s : State} {d : Decision} {slot : Nat} {r : CardRecord} {built : Bool} {x : DepIx}
    (legal : WatchLegal s.watch) (fresh : d.Fresh) (free : ¬s.heldByWatch d = true)
    (record : s.tapRecord d = .ok (slot, r, built)) (passed : s.recordReason slot r d.day = none)
    (target : s.holdTarget (s.lane d.lane).berth = .ok x)
    (short : ¬fareSufficient s.fares r (s.tapCharge d r x).1 = true) :
    ∃ e : Decision, e.RefusedWith d.lane .insufficient (insufficientFields s.fares r (s.tapCharge d r x).1)
      ∧ s.outcome d = State.outcome { s with
          departures := s.departures.set x.val (s.dep x).withHold.released
          attention := s.holdEvents x (s.lookupEvents d) } e := by
  rw [State.outcome_placed legal fresh free record passed target]
  have given := State.outcome_insufficient
    (s := { s with
      departures := s.departures.set x.val (s.dep x).withHold, attention := s.holdEvents x (s.lookupEvents d) })
    (d := s.holding d slot r built x) rfl rfl rfl short
  refine ⟨_, Decision.refusedWith { s.holding d slot r built x with
    fare := insufficientFields s.fares r (s.tapCharge d r x).1 } .insufficient, given.trans ?_⟩
  simp only [State.particulars, State.dep, Fin.getElem_fin, Vector.getElem_set_self, Vector.set_set]
  rfl

/-- What a decision leaves that is refused, before its end is taken (R138 to R143). -/
theorem State.outcome_refused {s : State} {d : Decision} {reason : Reason} (legal : WatchLegal s.watch)
    (fresh : d.Fresh) (refused : s.tapReason d = some reason) :
    ∃ e : Decision, e.RefusedWith d.lane reason (s.refusalFields d reason)
      ∧ s.outcome d = State.outcome { s with
          departures := s.heldAndReleased d, attention := s.tapEvents d } e := by
  have zero : ∀ e : Decision, e.RefusedWith d.lane reason d.fare → reason.Early →
      s.outcome d = State.outcome { s with attention := s.lookupEvents d } e →
      ∃ e : Decision, e.RefusedWith d.lane reason (s.refusalFields d reason)
        ∧ s.outcome d = State.outcome { s with
            departures := s.heldAndReleased d, attention := s.tapEvents d } e := by
    intro e ended early h
    obtain ⟨_, _, _, _, _, _, _, fare⟩ := fresh
    rw [State.refusalFields_of_ne early.2, State.heldAndReleased_of_ne refused early.2,
      State.tapEvents_early refused early, ← fare]
    exact ⟨e, ended, h⟩
  by_cases free : s.heldByWatch d = true
  · obtain rfl : .watch = reason := Option.some.inj ((State.tapReason_watch free).symm.trans refused)
    obtain ⟨stage, _, _, _, _, _, _, fare⟩ := fresh
    have events : s.tapEvents d = s.watchEvents d := by simp [State.tapEvents, refused]
    have other : Reason.watch ≠ .insufficient := nofun
    rw [State.refusalFields_of_ne other, State.heldAndReleased_of_ne refused other, events, ← fare,
      State.outcome_watch legal stage, if_pos free]
    exact ⟨_, d.refusedWith .watch, rfl⟩
  cases record : s.tapRecord d with
  | error other =>
    obtain rfl : other = reason := Option.some.inj ((State.tapReason_unrecorded free record).symm.trans refused)
    refine zero _ (Decision.refusedWith { d with lookup := some (s.tapLookup d) } other)
      (State.tapRecord_early record) ?_
    rw [State.outcome_free legal fresh free, State.recorded, record]
  | ok work =>
    obtain ⟨slot, r, built⟩ := work
    have reasons := (State.tapReason_recorded free record).symm.trans refused
    cases passed : s.recordReason slot r d.day with
    | some other =>
      rw [passed] at reasons
      obtain rfl : other = reason := Option.some.inj reasons
      refine zero _ (Decision.refusedWith (s.working d slot r built) other) (State.recordReason_early passed) ?_
      rw [State.outcome_recorded legal fresh free record, passed]
      rfl
    | none =>
      rw [passed, Option.elim_none, State.placeReason] at reasons
      cases target : s.holdTarget (s.lane d.lane).berth with
      | error other =>
        rw [target] at reasons
        obtain rfl : other = reason := Option.some.inj reasons
        refine zero _ (Decision.refusedWith ((s.working d slot r built).goto .hold) other)
          (State.holdTarget_early target) ?_
        rw [State.outcome_recorded legal fresh free record, passed]
        exact State.outcome_unheld (s := { s with attention := s.lookupEvents d }) rfl target
      | ok x =>
        simp only [target] at reasons
        split at reasons
        · cases reasons
        · next short =>
          cases reasons
          have fields : s.refusalFields d .insufficient = insufficientFields s.fares r (s.tapCharge d r x).1 := by
            simp only [State.refusalFields, record, target]
            rfl
          have events : s.tapEvents d = s.holdEvents x (s.lookupEvents d) := by
            simp only [State.tapEvents, refused, target]
          have departures : s.heldAndReleased d = s.departures.set x.val (s.dep x).withHold.released := by
            simp only [State.heldAndReleased, refused, target]
          rw [fields, events, departures]
          exact State.outcome_short legal fresh free record passed target short

/-- A decision whose result is OPEN has found a record and a place (R138 to R143). -/
theorem State.tapReason_none {s : State} {d : Decision} (opens : s.tapReason d = none) :
    ¬s.heldByWatch d = true ∧ ∃ slot r built x, s.tapRecord d = .ok (slot, r, built)
      ∧ s.recordReason slot r d.day = none ∧ s.holdTarget (s.lane d.lane).berth = .ok x
      ∧ fareSufficient s.fares r (s.tapCharge d r x).1 = true := by
  have free : ¬s.heldByWatch d = true := fun held => by
    rw [State.tapReason_watch held] at opens
    cases opens
  refine ⟨free, ?_⟩
  cases record : s.tapRecord d with
  | error reason =>
    rw [State.tapReason_unrecorded free record] at opens
    cases opens
  | ok work =>
    obtain ⟨slot, r, built⟩ := work
    rw [State.tapReason_recorded free record] at opens
    cases passed : s.recordReason slot r d.day with
    | some reason =>
      rw [passed] at opens
      cases opens
    | none =>
      rw [passed, Option.elim_none, State.placeReason] at opens
      cases target : s.holdTarget (s.lane d.lane).berth with
      | error reason =>
        rw [target] at opens
        cases opens
      | ok x =>
        refine ⟨slot, r, built, x, rfl, passed, rfl, ?_⟩
        by_contra short
        simp only [target, if_neg short] at opens
        cases opens

/-- The decision at its end with an OPEN result (R143, R144). -/
def State.opening (s : State) (d : Decision) (slot : Nat) (r : CardRecord) (built : Bool) (x : DepIx) : Decision :=
  { s.holding d slot r built x with
    fare := openFareFields s.fares r (s.tapCharge d r x).1
    transfer := (s.tapCharge d r x).2
    wrote := built
    stage := .decisionEnd }

/-- The state with what an OPEN result has earned: the hold, the provisional record and the events of the stages. -/
def State.opened (s : State) (d : Decision) (slot : Nat) (r : CardRecord) (built : Bool) (x : DepIx) : State :=
  { s with
    departures := s.departures.set x.val (s.dep x).withHold
    mem := if built then Memory.writeSlot s.mem slot (encodeRecord r) else s.mem
    attention := s.tapEvents d }

/-- What a decision with an OPEN result leaves, before its end is taken (R138 to R144). -/
theorem State.outcome_opens {s : State} {d : Decision} {slot : Nat} {r : CardRecord} {built : Bool} {x : DepIx}
    (legal : WatchLegal s.watch) (fresh : d.Fresh) (opens : s.tapReason d = none)
    (record : s.tapRecord d = .ok (slot, r, built)) (target : s.holdTarget (s.lane d.lane).berth = .ok x) :
    s.outcome d = (s.opened d slot r built x).outcome (s.opening d slot r built x) := by
  obtain ⟨free, slot', r', built', x', record', passed, target', enough⟩ := State.tapReason_none opens
  cases record.symm.trans record'
  cases target.symm.trans target'
  obtain ⟨_, _, _, _, _, unwritten, _⟩ := id fresh
  have events : s.tapEvents d = s.holdEvents x (s.lookupEvents d) := by
    simp only [State.tapEvents, opens, target]
  rw [State.outcome_placed legal fresh free record passed target, State.opened, events]
  refine (State.outcome_sufficient (d := s.holding d slot r built x) rfl rfl rfl ?_).trans
    (State.outcome_written rfl rfl unwritten)
  exact enough

/-! ### The end of an operation at its lane (R115, R118, R129, R184) -/

/-- The engine is no part of a lane. -/
theorem State.setEngine_lane (s : State) (e : Engine) (l : Lane) : State.lane { s with engine := e } l = s.lane l := rfl

/-- A message sent by a lane that then comes to rest. -/
theorem State.sent_laneRest (s : State) (l : Lane) (p : LanePort) (m : Message) :
    ((s.setLane l p).send l m).laneRest l =
      ((s.setLane l (LanePort.rested { p with queue := offered p.queue [m] })).raiseLaneFaults l
        (dropped p.queue (1 + p.closing.length))).checkHalted := by
  rw [State.laneRest_eq, State.send_eq,
    show dropped p.queue (1 + p.closing.length) = _ from dropped_add p.queue [m] p.closing.length]
  simp only [State.raiseLaneFaults_setLane, State.raiseLaneFaults_add, State.raiseLaneFaults_lane, State.setLane_lane,
    State.setLane_setLane, if_true]
  rfl

/-- The engine free of an operation whose lane has come to rest: what follows is the arbiter's next grant. -/
theorem State.engineDone_rested (s : State) (l : Lane) (p : LanePort) (n : Nat) :
    ((s.setLane l p).raiseLaneFaults l n).checkHalted.engineDone =
      State.settle (State.engineEnds { s with
        attention := s.attention.occurs .laneFault (numberSubject l.val) n } l p) := by
  rw [State.engineDone, State.checkHalted_eq, State.raiseLaneFaults_eq]
  rfl

theorem LanePort.turnedAway_eq_rested (p : LanePort) (reason : Reason) (f : FareFields) :
    p.turnedAway reason f = LanePort.rested { p with
      tapped := none, cancelNoted := false, queue := offered p.queue [.refuse reason f] } := by
  have queued : offered p.queue (.refuse reason f :: p.closing)
      = offered (offered p.queue [.refuse reason f]) p.closing := offered_append p.queue [_] p.closing
  rw [LanePort.turnedAway, queued]
  rfl

/-- A lane turned away with a verdict, and what found no room in its queue (R115). -/
theorem State.endRefused_eq (s : State) (l : Lane) (p : LanePort) (reason : Reason) (f : FareFields) :
    (s.setLane l { p with tapped := none, cancelNoted := false }).endRefused l reason f =
      ((s.setLane l (p.turnedAway reason f)).raiseLaneFaults l
        (dropped p.queue (1 + p.closing.length))).checkHalted := by
  rw [State.endRefused, State.sent_laneRest, LanePort.turnedAway_eq_rested]
  rfl

/-- A decision end that refuses: with the decision's reason, or CANCELLED where a cancel was noted (R115). -/
theorem State.outcome_refusedWith {s : State} {e : Decision} {l : Lane} {reason : Reason} {f : FareFields}
    (ended : e.RefusedWith l reason f) :
    s.outcome e = State.settle (State.engineEnds { s with
        attention := s.attention.occurs .laneFault (numberSubject l.val)
          (dropped (s.lane l).queue (1 + (s.lane l).closing.length)) } l
      (if (s.lane l).cancelNoted then (s.lane l).turnedAway .cancelled FareFields.zero
        else (s.lane l).turnedAway reason f)) := by
  obtain ⟨stage, rfl, refusal, rfl⟩ := ended
  rw [State.outcome_end stage, State.endDecision, refusal]
  simp only [State.setEngine_lane]
  cases (s.lane e.lane).cancelNoted with
  | false =>
    simp only [State.endRefused_eq, State.engineDone_rested]
    rfl
  | true =>
    simp only [State.endRefused_eq, State.engineDone_rested]
    rfl

/-- A decision end with an OPEN result and a cancel noted: CANCELLED, and the hold given back (R115, log 10). -/
theorem State.outcome_cancelled {s : State} {e : Decision} {h : Hold} (stage : e.stage = .decisionEnd)
    (refusal : e.refusal = none) (hold : e.hold = some h) (noted : (s.lane e.lane).cancelNoted = true) :
    s.outcome e = State.settle (State.engineEnds { s with
        departures := s.departures.set h.departure.val (s.dep h.departure).released
        attention := s.attention.occurs .laneFault (numberSubject e.lane.val)
          (dropped (s.lane e.lane).queue (1 + (s.lane e.lane).closing.length)) } e.lane
      ((s.lane e.lane).turnedAway .cancelled FareFields.zero)) := by
  rw [State.outcome_end stage, State.endDecision, refusal, hold]
  simp only [State.setEngine_lane, noted,
    State.endRefused_eq, State.release_eq, State.checkHalted_eq, State.raiseLaneFaults_eq]
  rfl

/-- A decision end with an OPEN result: the open verdict stored, its message queued, and the lane AWAITING or
COMMITTING (R116, R119). -/
theorem State.outcome_accepted {s : State} {e : Decision} {h : Hold} (stage : e.stage = .decisionEnd)
    (refusal : e.refusal = none) (hold : e.hold = some h) (unnoted : (s.lane e.lane).cancelNoted = false) :
    s.outcome e = State.settle { s with
      lanes := s.lanes.set e.lane.val { s.lane e.lane with
        tapped := none
        openVerdict := some (e.openVerdict h)
        state := if (s.lane e.lane).kind = .sensed then .awaiting else .committing
        secondsLeft := if (s.lane e.lane).kind = .sensed then (s.lane e.lane).timer else (s.lane e.lane).secondsLeft
        queue := offered (s.lane e.lane).queue [.verdict ⟨none, e.fare, h.tag, h.remaining⟩] }
      attention := s.attention.occurs .laneFault (numberSubject e.lane.val) (dropped (s.lane e.lane).queue 1)
      arbiter :=
        if (s.lane e.lane).kind = .sensed then s.arbiter
        else { s.arbiter with commitPending := s.arbiter.commitPending.set e.lane.val true }
      engine := .idle } := by
  rw [State.outcome_end stage, State.endDecision, refusal, hold]
  simp only [State.setEngine_lane, unnoted,
    State.acceptOpen, State.setLane_lane, if_true, State.setLane_setLane, State.send_eq, State.raiseLaneFaults_eq]
  cases kind : (s.lane e.lane).kind with
  | sensed =>
    simp only [if_true]
    rfl
  | unsensed =>
    simp only [reduceCtorEq, if_false]
    rfl

/-! ### The statements on a decision run whole -/

/-- Settles O32: the stages bring the decision to its end refused, or OPEN with a cancel noted, and the end turns its
lane away. -/
theorem decisionRefuses : Obligations.DecisionRefuses := by
  unfold Obligations.DecisionRefuses
  intro s d engine fresh legal
  dsimp only
  rw [exec_tapDecision_whole engine fresh]
  refine ⟨fun reason refused => ?_, fun opens noted => ?_⟩
  · obtain ⟨e, ended, brought⟩ := State.outcome_refused legal fresh refused
    have left : s.outcome d = State.settle (State.engineEnds { s with
        departures := s.heldAndReleased d
        mem := s.tapMemory d
        attention := (s.tapEvents d).occurs .laneFault (numberSubject d.lane.val)
          (dropped (s.lane d.lane).queue (1 + (s.lane d.lane).closing.length)) } d.lane
        (if (s.lane d.lane).cancelNoted then (s.lane d.lane).turnedAway .cancelled FareFields.zero
          else (s.lane d.lane).turnedAway reason (s.refusalFields d reason))) := by
      rw [brought, State.tapMemory_refused refused]
      exact State.outcome_refusedWith ended
    rw [left]
    cases (s.lane d.lane).cancelNoted <;> rfl
  · obtain ⟨_, slot, r, built, x, record, _, target, _⟩ := State.tapReason_none opens
    have memory : s.tapMemory d = if built then Memory.writeSlot s.mem slot (encodeRecord r) else s.mem := by
      cases built <;> simp [State.tapMemory, opens, record]
    have departures : s.heldAndReleased d = s.departures.set x.val (s.dep x).withHold.released := by
      simp only [State.heldAndReleased, opens, target]
    obtain ⟨_, refusal, _⟩ := id fresh
    rw [State.outcome_opens legal fresh opens record target,
      State.outcome_cancelled (e := s.opening d slot r built x) (s := s.opened d slot r built x) rfl refusal rfl noted,
      memory, departures]
    simp only [State.opened, State.opening, State.holding, State.particulars, State.dep, Fin.getElem_fin,
      Vector.getElem_set_self, Vector.set_set]
    rfl

/-- Settles O33: the stages bring the decision to its end with an OPEN result, and its lane takes it. -/
theorem decisionOpens : Obligations.DecisionOpens := by
  unfold Obligations.DecisionOpens
  intro s d slot r built x engine fresh legal opens record target unnoted
  dsimp only
  obtain ⟨_, refusal, _⟩ := id fresh
  have shown : openFareFields s.fares r (s.tapCharge d r x).1 =
      if r.product = .purse then
        ⟨(s.tapCharge d r x).1, saturateDisplay (r.balance - (s.tapCharge d r x).1),
          displayClamped (r.balance - (s.tapCharge d r x).1),
          displayLow s.fares.lowThreshold (r.balance - (s.tapCharge d r x).1)⟩
      else FareFields.zero := by
    cases product : r.product <;> simp [openFareFields, fareFields, product]
  have charge : (openFareFields s.fares r (s.tapCharge d r x).1).charge = (s.tapCharge d r x).1 := by
    cases product : r.product <;>
      simp [openFareFields, fareFields, product, State.tapCharge, fareCharge, FareFields.zero]
  have remaining : (s.particulars x).remaining = (s.dep x).remaining - 1 := by
    simp only [State.particulars, Departure.remaining]
    omega
  rw [exec_tapDecision_whole engine fresh, State.outcome_opens legal fresh opens record target,
    State.outcome_accepted (e := s.opening d slot r built x) (s := s.opened d slot r built x) rfl refusal rfl unnoted,
    ← shown]
  simp only [Decision.openVerdict, State.opening, charge, remaining]
  rfl

end Sys2Proof.Machine
end

section
namespace Sys2Proof.Machine

/-! ### The charge of a commit (R33, R47, R48) -/

/-- The journey after a commit, by its cases (R47 step 4). -/
theorem journeyAfter_eq (v : OpenVerdict) (old : Option Journey) : journeyAfter v old =
    match v.transfer, old with
    | true, some j => { j with paid := min (j.paid + v.charge) 16777215, route := v.route }
    | _, _ => ⟨v.day, v.minute, v.route, v.charge⟩ := by
  cases transfer : v.transfer <;> cases old <;> simp [journeyAfter, transfer]

/-- A record charged is the manual's, and clamped where the charge would take it below minus the allowance (R47). -/
theorem chargeRecord_eq (t : FareTables) (day : Nat) (v : OpenVerdict) (r : CardRecord) :
    chargeRecord t day v r = (chargedRecord r v t.allowances[r.fareClass] day,
      decide (r.product = .purse ∧ r.balance - v.charge < -(t.allowances[r.fareClass] : Int))) := by
  cases product : r.product with
  | purse =>
    simp only [chargeRecord, product, chargePurse, chargedRecord, if_true, true_and, journeyAfter_eq, latchAfter,
      max_def_lt, decide_eq_true_eq, CardRecord.effectiveSpend, Bool.or_comm]
      <;> rfl
  | pass => simp [chargeRecord, product, chargedRecord]
  | staff => simp [chargeRecord, product, chargedRecord]

/-! ### The stages of a commit (R150 to R152) -/

/-- What a commit in service leaves after some of its stages. -/
def State.commits (n : Nat) (s : State) (c : Commit) : State := runCommit n c { s with engine := .committing c }

theorem State.commits_step {s t : State} {c e : Commit} (n : Nat) (going : c.stage ≠ .commitEnd)
    (h : commitStage c { s with engine := .committing c } = (e, { t with engine := .committing c })) :
    s.commits (n + 1) c = t.commits n e := by
  rw [State.commits, runCommit_succ going, h]
  rfl

section
variable {s : State} {l : Lane} {v : OpenVerdict} (verdict : (s.lane l).openVerdict = some v)
include verdict

/-- Stage 1: the passenger is counted (R90, R150). -/
theorem commitStage_count (used : (s.dep v.departure).state ≠ .empty) :
    commitStage ⟨l, .count, none⟩ s = (⟨l, .read, none⟩, { s with
      departures := s.departures.set v.departure.val ((s.dep v.departure).boardedOne v.charge) }) := by
  simp only [commitStage, verdict, stageCountPassage]
  exact congrArg (_, ·) (State.commitOfCount_eq used _)

/-- Stage 2: the slot reads LIVE with the card of the passage (R151). -/
theorem commitStage_live {r : CardRecord} (live : Memory.verdict s.mem v.slot = .live r) (card : r.card = v.card) :
    commitStage ⟨l, .read, none⟩ s = (⟨l, .charge, some r⟩, s) := by
  simp only [commitStage, verdict, stageRead, State.portRead, live, card, if_true]

/-- Stage 2: an uncharged passage (R5, R151). -/
theorem commitStage_uncharged (other : ∀ r, Memory.verdict s.mem v.slot = .live r → r.card ≠ v.card) :
    commitStage ⟨l, .read, none⟩ s = (⟨l, .commitEnd, none⟩, { s with
      attention := (s.attention.occurs .memoryFault (wideSubject v.slot)
        (if Memory.verdict s.mem v.slot = .fault then 1 else 0)).occurs
        .unchargedPassage (numberSubject l.val) 1 }) := by
  simp only [commitStage, verdict, stageRead, State.portRead]
  cases read : Memory.verdict s.mem v.slot with
  | free => rfl
  | fault => rfl
  | live r =>
    simp only [if_neg (other r read)]
    rfl

/-- Stage 3: the record is charged for the day of the commit (R80, R152). -/
theorem commitStage_charge (r : CardRecord) :
    commitStage ⟨l, .charge, some r⟩ s =
      (⟨l, .write, some (chargedRecord r v s.fares.allowances[r.fareClass] s.clock.day)⟩, { s with
        attention := s.attention.occurs .balanceClamped (wideSubject v.slot)
          (if r.product = .purse ∧ r.balance - v.charge < -(s.fares.allowances[r.fareClass] : Int) then 1
            else 0) }) := by
  simp only [commitStage, verdict, stageCharge, chargeRecord_eq, decide_eq_true_eq]
  split <;> rfl

/-- Stage 4: the record is written back (R152). -/
theorem commitStage_write {r : CardRecord} {m : List Host.Cell}
    (stored : Memory.writeSlot s.mem v.slot (encodeRecord r) = m) :
    commitStage ⟨l, .write, some r⟩ s = (⟨l, .commitEnd, some r⟩, { s with mem := m }) := by
  subst stored
  simp only [commitStage, verdict, stageCommitWrite]
  rfl

end

/-! ### A commit run to its end (R150 to R152) -/

/-- What a commit in service leaves after some of its stages. -/
def State.afterStages (s : State) (n : Nat) (c : Commit) : State := runCommit n c { s with engine := .committing c }

theorem State.afterStages_step {s t : State} {c e : Commit} {n : Nat} (going : c.stage ≠ .commitEnd)
    (h : commitStage c { s with engine := .committing c } = (e, { t with engine := .committing c })) :
    s.afterStages (n + 1) c = t.afterStages n e := by
  rw [State.afterStages, runCommit_succ going, h]
  rfl

/-- The passenger of an open verdict counted on its departure (R90). -/
def State.passengerCounted (s : State) (v : OpenVerdict) : State :=
  { s with departures := s.departures.set v.departure.val ((s.dep v.departure).boardedOne v.charge) }

/-- What a sensed lane sends when its passage is taken (R118). -/
def LanePort.answers (p : LanePort) : List Message := if p.kind = .sensed then [.passageAnswer .taken] else []

theorem LanePort.finished_eq_rested (p : LanePort) :
    p.finished = LanePort.rested { p with openVerdict := none, queue := offered p.queue p.answers } := by
  have queued : offered p.queue (p.answers ++ p.closing) = offered (offered p.queue p.answers) p.closing :=
    offered_append p.queue p.answers p.closing
  have finished : p.finished = { p with
      state := if p.closeRequested then .down else .idle
      closeRequested := false
      openVerdict := none
      queue := offered p.queue (p.answers ++ p.closing) } := by
    unfold LanePort.finished LanePort.answers
    cases p.kind <;> rfl
  rw [finished, queued]
  rfl

/-- The commit end: the lane at rest with its messages offered, and the engine free for the next grant (R118). -/
theorem State.endCommit_eq (s : State) (c : Commit) :
    s.endCommit c = State.settle (State.engineEnds { s with
      attention := s.attention.occurs .laneFault (numberSubject c.lane.val)
        (dropped (s.lane c.lane).queue
          ((if (s.lane c.lane).kind = .sensed then 1 else 0) + (s.lane c.lane).closing.length)) }
      c.lane (s.lane c.lane).finished) := by
  rw [← State.engineDone_rested, LanePort.finished_eq_rested, LanePort.answers, State.endCommit]
  cases kind : (s.lane c.lane).kind with
  | sensed =>
    simp only [if_true, State.sent_laneRest]
    rfl
  | unsensed =>
    simp only [reduceCtorEq, if_false, offered_nil, Nat.zero_add, State.laneRest_eq, State.setLane_lane, if_true,
      State.setLane_setLane]
    rfl

theorem State.afterStages_end (s : State) (l : Lane) (r : Option CardRecord) (n : Nat) :
    s.afterStages (n + 1) ⟨l, .commitEnd, r⟩ = State.settle (State.engineEnds { s with
      attention := s.attention.occurs .laneFault (numberSubject l.val)
        (dropped (s.lane l).queue ((if (s.lane l).kind = .sensed then 1 else 0) + (s.lane l).closing.length)) }
      l (s.lane l).finished) :=
  State.endCommit_eq { s with engine := .committing ⟨l, .commitEnd, r⟩ } ⟨l, .commitEnd, r⟩

section
variable {s : State} {l : Lane} {v : OpenVerdict} (verdict : (s.lane l).openVerdict = some v)
include verdict

theorem State.afterStages_count (used : (s.dep v.departure).state ≠ .empty) (n : Nat) :
    s.afterStages (n + 1) ⟨l, .count, none⟩ = (s.passengerCounted v).afterStages n ⟨l, .read, none⟩ :=
  State.afterStages_step (by simp)
    (commitStage_count (s := { s with engine := .committing ⟨l, .count, none⟩ }) verdict used)

/-- An uncharged passage goes from the slot read to the commit end (R151). -/
theorem State.afterStages_uncharged (other : ∀ r, Memory.verdict s.mem v.slot = .live r → r.card ≠ v.card)
    (n : Nat) :
    s.afterStages (n + 1) ⟨l, .read, none⟩ = State.afterStages { s with
      attention := (s.attention.occurs .memoryFault (wideSubject v.slot)
        (if Memory.verdict s.mem v.slot = .fault then 1 else 0)).occurs
        .unchargedPassage (numberSubject l.val) 1 } n ⟨l, .commitEnd, none⟩ :=
  State.afterStages_step (by simp)
    (commitStage_uncharged (s := { s with engine := .committing ⟨l, .read, none⟩ }) verdict other)

theorem State.afterStages_live {r : CardRecord} (live : Memory.verdict s.mem v.slot = .live r)
    (card : r.card = v.card) (n : Nat) :
    s.afterStages (n + 1) ⟨l, .read, none⟩ = s.afterStages n ⟨l, .charge, some r⟩ :=
  State.afterStages_step (by simp)
    (commitStage_live (s := { s with engine := .committing ⟨l, .read, none⟩ }) verdict live card)

theorem State.afterStages_charge (r : CardRecord) (n : Nat) :
    s.afterStages (n + 1) ⟨l, .charge, some r⟩ = State.afterStages { s with
      attention := s.attention.occurs .balanceClamped (wideSubject v.slot)
        (if r.product = .purse ∧ r.balance - v.charge < -(s.fares.allowances[r.fareClass] : Int) then 1 else 0) }
      n ⟨l, .write, some (chargedRecord r v s.fares.allowances[r.fareClass] s.clock.day)⟩ :=
  State.afterStages_step (by simp)
    (commitStage_charge (s := { s with engine := .committing ⟨l, .charge, some r⟩ }) verdict r)

theorem State.afterStages_write {r : CardRecord} {m : List Host.Cell}
    (stored : Memory.writeSlot s.mem v.slot (encodeRecord r) = m) (n : Nat) :
    s.afterStages (n + 1) ⟨l, .write, some r⟩ =
      State.afterStages { s with mem := m } n ⟨l, .commitEnd, some r⟩ :=
  State.afterStages_step (by simp)
    (commitStage_write (s := { s with engine := .committing ⟨l, .write, some r⟩ }) verdict stored)

/-- A card whose slot reads LIVE with it is charged and its record written back (R151, R152). -/
theorem State.afterStages_charged {r : CardRecord} {m : List Host.Cell}
    (live : Memory.verdict s.mem v.slot = .live r) (card : r.card = v.card)
    (stored : Memory.writeSlot s.mem v.slot
      (encodeRecord (chargedRecord r v s.fares.allowances[r.fareClass] s.clock.day)) = m) (n : Nat) :
    s.afterStages (n + 3) ⟨l, .read, none⟩ = State.afterStages { s with
      mem := m
      attention := s.attention.occurs .balanceClamped (wideSubject v.slot)
        (if r.product = .purse ∧ r.balance - v.charge < -(s.fares.allowances[r.fareClass] : Int) then 1 else 0) }
      n ⟨l, .commitEnd, some (chargedRecord r v s.fares.allowances[r.fareClass] s.clock.day)⟩ := by
  rw [State.afterStages_live verdict live card, State.afterStages_charge verdict,
    State.afterStages_write (by exact verdict) (by exact stored)]

end

/-- Settles O35: the stages of the commit one after the other, with the charge and without it. -/
theorem commitTaken : Obligations.CommitTaken := by
  unfold Obligations.CommitTaken
  intro s l v engine verdict used wf
  dsimp only
  have whole : exec (.commit .whole) s = .next ((s.passengerCounted v).afterStages 4 ⟨l, .read, none⟩) := by
    have same : { s with engine := .committing ⟨l, .count, none⟩ } = s := by rw [← engine]
    rw [← State.afterStages_count verdict used, execCommit_committing engine, State.afterStages, same]
    rfl
  rw [whole]
  refine ⟨fun r live card => ⟨_, Memory.writeSlot_stores s.mem v.slot _ wf, ?_⟩, fun other => ?_⟩
  · generalize stored : Memory.writeSlot s.mem v.slot _ = m
    rw [State.afterStages_charged (s := s.passengerCounted v) verdict live card stored, State.afterStages_end]
    rfl
  · rw [State.afterStages_uncharged (s := s.passengerCounted v) verdict other, State.afterStages_end]
    rfl

end Sys2Proof.Machine
end

section
namespace Sys2Proof.Machine

/-! ### The link beside the other blocks (R158, R165) -/

/-- The state with another link. -/
def State.withLink (s : State) (k : Link) : State := { s with link := k }

/-- What an owner makes of a command, with another link. -/
def Taken.withLink (x : Taken) (k : Link) : Taken := (x.1.withLink k, x.2)

theorem Taken.withLink_ite (c : Prop) [Decidable c] (x y : Taken) (k : Link) :
    Taken.withLink (if c then x else y) k = if c then x.withLink k else y.withLink k :=
  apply_ite (Taken.withLink · k) c x y

namespace State
section
variable (s : State) (k : Link)

@[simp] theorem withLink_service : (s.withLink k).service = s.service := rfl
@[simp] theorem withLink_clock : (s.withLink k).clock = s.clock := rfl
@[simp] theorem withLink_arbiter : (s.withLink k).arbiter = s.arbiter := rfl
@[simp] theorem withLink_engine : (s.withLink k).engine = s.engine := rfl
@[simp] theorem withLink_freeCount : (s.withLink k).freeCount = s.freeCount := rfl
@[simp] theorem withLink_lane (l : Lane) : (s.withLink k).lane l = s.lane l := rfl
@[simp] theorem withLink_dep (d : DepIx) : (s.withLink k).dep d = s.dep d := rfl
@[simp] theorem withLink_nextGrant : (s.withLink k).nextGrant = s.nextGrant := rfl
@[simp] theorem withLink_lanesInHand : (s.withLink k).lanesInHand = s.lanesInHand := rfl
@[simp] theorem withLink_followOnOk (b : Berth) (f : Option DepIx) :
    (s.withLink k).followOnOk b f = s.followOnOk b f := by cases f <;> rfl
@[simp] theorem withLink_nextCurrent (f : Option DepIx) : (s.withLink k).nextCurrent f = s.nextCurrent f := by
  cases f <;> rfl

@[simp] theorem withLink_setLane (l : Lane) (p : LanePort) :
    (s.withLink k).setLane l p = (s.setLane l p).withLink k := rfl
@[simp] theorem withLink_setDep (d : DepIx) (r : Departure) :
    (s.withLink k).setDep d r = (s.setDep d r).withLink k := rfl
@[simp] theorem withLink_raise (c : Cause) (x : Subject) : (s.withLink k).raise c x = (s.raise c x).withLink k := rfl
@[simp] theorem withLink_setTapPending (l : Lane) (b : Bool) :
    (s.withLink k).setTapPending l b = (s.setTapPending l b).withLink k := rfl

@[simp] theorem withLink_send (l : Lane) (m : Message) : (s.withLink k).send l m = (s.send l m).withLink k := by
  simp only [State.send, apply_ite (State.withLink · k)]
  rfl

@[simp] theorem withLink_withdrawTap (l : Lane) (r : Reason) (n : LaneState) :
    (s.withLink k).withdrawTap l r n = (s.withdrawTap l r n).withLink k := by
  simp only [State.withdrawTap, withLink_setTapPending, withLink_setLane, withLink_lane, withLink_send]

@[simp] theorem withLink_changeDep (d : DepIx) (r : Departure) :
    (s.withLink k).changeDep d r = (s.changeDep d r).withLink k := by
  rw [changeDep_eq, changeDep_eq]
  rfl

@[simp] theorem withLink_setClock (day minute : Nat) :
    (s.withLink k).setClock day minute = (s.setClock day minute).withLink k := by
  rw [setClock_eq, setClock_eq]
  rfl

@[simp] theorem withLink_haltLane (l : Lane) : (s.withLink k).haltLane l = (s.haltLane l).withLink k := by
  simp only [State.haltLane, withLink_lane, withLink_withdrawTap]
  split <;> rfl

@[simp] theorem withLink_haltNotice : (s.withLink k).haltNotice = s.haltNotice.withLink k := by
  have order (n : Nat) : (s.withLink k).portOrder n = ((s.portOrder n).1, (s.portOrder n).2.withLink k) := by
    simp only [State.portOrder, withLink_freeCount]
    split <;> rfl
  simp only [State.haltNotice, withLink_lane, order]
  exact List.foldl_hom (·.withLink k) fun t l => withLink_haltLane t k l

/-- START before its grant: the occurrences of its own messages (R127, R172). -/
theorem withLink_raiseStartFaults (before : State) (j : Link) :
    (s.withLink k).raiseStartFaults (before.withLink j) = (s.raiseStartFaults before).withLink k := by
  have raised (ls : List Lane) (t : State) :
      ls.foldl (fun t l => t.raise .laneFault (numberSubject l.val)) (t.withLink k) =
        (ls.foldl (fun t l => t.raise .laneFault (numberSubject l.val)) t).withLink k :=
    List.foldl_hom (·.withLink k) fun t l => withLink_raise t k .laneFault (numberSubject l.val)
  simp only [State.raiseStartFaults, apply_ite (State.withLink · k), ← raised]
  rfl

/-- Before an engine at work no grant is made, and a grant of the clearing request does not look at the link. -/
theorem withLink_settle (clearing : s.arbiter.clearingRequest = true) :
    (s.withLink k).settle = s.settle.withLink k := by
  have next : s.nextGrant = some .clearing := if_pos clearing
  simp only [State.settle, withLink_engine, withLink_nextGrant, next]
  split <;> rfl

end
end State

theorem ownStart_withLink (a b : Word) (s : State) (k : Link) :
    ownStart a b (s.withLink k) = (ownStart a b s).withLink k := by
  have settled (g : Geometry) : (((s.withLink k).started g).raiseStartFaults (s.withLink k)).settle =
      ((s.started g).raiseStartFaults s).settle.withLink k := by
    have clearing : ((s.started g).raiseStartFaults s).arbiter.clearingRequest = true := by
      obtain ⟨_, _, _, request, _⟩ := (State.raiseStartFaults_steady (s.started g) s).affairs_eq
      exact request
    have same : (s.withLink k).started g = (s.started g).withLink k := rfl
    rw [same, State.withLink_raiseStartFaults, State.withLink_settle _ _ clearing]
  simp only [ownStart, State.withLink_service, settled]
  split
  · rfl
  · rfl
  · rfl
  · rw [Taken.withLink_ite]
    rfl

theorem ownHalt_withLink (s : State) (k : Link) : ownHalt (s.withLink k) = (ownHalt s).withLink k := by
  simp only [ownHalt, State.withLink_service, State.withLink_haltNotice, State.withLink_lanesInHand]
  split <;> rfl

theorem ownDepartureDefine_withLink (d b r t c m f a : Word) (s : State) (k : Link) :
    ownDepartureDefine d b r t c m f a (s.withLink k) = (ownDepartureDefine d b r t c m f a s).withLink k := by
  simp only [ownDepartureDefine, State.withLink_followOnOk]
  split
  · simp only [Taken.withLink_ite]
    rfl
  · rfl

theorem ownDepartureClose_withLink (d : Word) (s : State) (k : Link) :
    ownDepartureClose d (s.withLink k) = (ownDepartureClose d s).withLink k := by
  simp only [ownDepartureClose, State.withLink_dep, State.withLink_setDep, State.withLink_nextCurrent]
  split
  · rfl
  · simp only [Taken.withLink_ite]
    rfl

theorem ownDepartureSetCapacity_withLink (d c m : Word) (s : State) (k : Link) :
    ownDepartureSetCapacity d c m (s.withLink k) = (ownDepartureSetCapacity d c m s).withLink k := by
  simp only [ownDepartureSetCapacity, State.withLink_dep, State.withLink_changeDep]
  split
  · rfl
  · simp only [Taken.withLink_ite]
    rfl

theorem ownDepartureLink_withLink (d f : Word) (s : State) (k : Link) :
    ownDepartureLink d f (s.withLink k) = (ownDepartureLink d f s).withLink k := by
  simp only [ownDepartureLink, State.withLink_dep, State.withLink_followOnOk]
  split
  · simp only [Taken.withLink_ite]
    rfl
  · rfl

theorem ownBerthSetCurrent_withLink (b d : Word) (s : State) (k : Link) :
    ownBerthSetCurrent b d (s.withLink k) = (ownBerthSetCurrent b d s).withLink k := by
  simp only [ownBerthSetCurrent]
  split
  · rfl
  · simp only [Taken.withLink_ite]
    rfl
  · rfl

theorem ownLaneOpen_withLink (l : Word) (s : State) (k : Link) :
    ownLaneOpen l (s.withLink k) = (ownLaneOpen l s).withLink k := by
  simp only [ownLaneOpen, State.withLink_lane, State.withLink_setLane, State.withLink_send]
  split
  · rfl
  · simp only [Taken.withLink_ite]
    rfl

theorem ownLaneClose_withLink (l : Word) (s : State) (k : Link) :
    ownLaneClose l (s.withLink k) = (ownLaneClose l s).withLink k := by
  simp only [ownLaneClose, State.withLink_lane, State.withLink_setLane, State.withLink_withdrawTap,
    State.withLink_send]
  split
  · rfl
  · split <;> rfl

theorem ownLaneSet_withLink (l b g c t : Word) (s : State) (k : Link) :
    ownLaneSet l b g c t (s.withLink k) = (ownLaneSet l b g c t s).withLink k := by
  simp only [ownLaneSet]
  split
  · simp only [Taken.withLink_ite]
    rfl
  · rfl

/-- What the owner of a DIRECT command makes of it does not depend on the link, which stays as it is: only RESTART
resets it (R165, R187). -/
theorem owner_withLink {c : Cmd} (started : c ≠ .restart) (ws : List Word) (s : State) (k : Link) :
    owner c ws (s.withLink k) = (owner c ws s).withLink k := by
  cases c with
  | restart => exact absurd rfl started
  | start => exact ownStart_withLink _ _ s k
  | halt => exact ownHalt_withLink s k
  | departureDefine => exact ownDepartureDefine_withLink _ _ _ _ _ _ _ _ s k
  | departureClose => exact ownDepartureClose_withLink _ s k
  | departureSetCapacity => exact ownDepartureSetCapacity_withLink _ _ _ s k
  | laneOpen => exact ownLaneOpen_withLink _ s k
  | laneClose => exact ownLaneClose_withLink _ s k
  | departureLink => exact ownDepartureLink_withLink _ _ s k
  | berthSetCurrent => exact ownBerthSetCurrent_withLink _ _ s k
  | laneSet => exact ownLaneSet_withLink _ _ _ _ _ s k
  | resume | continueService | keep =>
    simp only [owner, ownResume, ownContinue, ownKeep, State.withLink_service]
    split <;> rfl
  | setTime | newDay | setDay =>
    simp only [owner, ownSetTime, ownNewDay, ownSetDay, State.withLink_clock, State.withLink_setClock,
      Taken.withLink_ite]
    rfl
  | attentionAck | attentionMask =>
    simp only [owner, ownAttentionAck, ownAttentionMask, Taken.withLink_ite]
    rfl
  | departureOpen | departureRead | departureRetire =>
    simp only [owner, ownDepartureOpen, ownDepartureRead, ownDepartureRetire]
    split
    · rfl
    · rw [Taken.withLink_ite]
      rfl
  | arbiterMode | setBottom | laneRead =>
    simp only [owner, ownArbiterMode, ownSetBottom, ownLaneRead]
    split <;> rfl
  | _ => rfl

end Sys2Proof.Machine
end

section
namespace Sys2Proof.Machine

/-! ### What leaves the link, and the outcome that waits for it, alone (R153, R158) -/

/-- The outcome of the host request in service, once it has been served. -/
def Engine.answered (e : Engine) : Option Answer := e.hostOp.bind HostOp.answer

/-- The outcome that waits to be handed over fits the result queue (R158). -/
def State.OutcomeFits (s : State) : Prop := ∀ a, s.engine.answered = some a → a.Legal

theorem State.linkLegal_iff (s : State) : s.LinkLegal ↔ s.link.Legal ∧ s.OutcomeFits := by
  refine and_congr_right fun _ => ⟨fun h a answered => ?_, fun h op a engine answered => h a ?_⟩
  · obtain ⟨op, engine, answered⟩ := Option.bind_eq_some_iff.1 answered
    exact h op a (Engine.hostOp_eq_some.1 engine) answered
  · simp [Engine.answered, Engine.hostOp_eq_some.2 engine, answered]

/-- The link stays, and so does the outcome that a served host request will hand it, unless no such outcome waits any
more. -/
structure State.LinkStays (s t : State) : Prop where
  link : t.link = s.link
  answered : t.engine = s.engine ∨ t.engine.answered = none

namespace State.LinkStays

@[refl] theorem refl (s : State) : s.LinkStays s := ⟨rfl, .inl rfl⟩

@[trans] theorem trans {s t u : State} (a : s.LinkStays t) (b : t.LinkStays u) : s.LinkStays u :=
  ⟨b.link.trans a.link, b.answered.elim (fun e => e ▸ a.answered) .inr⟩

/-- A change of other blocks alone. -/
theorem of_rest {s t : State} (link : t.link = s.link := by simp) (engine : t.engine = s.engine := by simp) :
    s.LinkStays t := ⟨link, .inl engine⟩

/-- The engine takes up something that has no outcome yet. -/
theorem of_engine {s t : State} (link : t.link = s.link) (answered : t.engine.answered = none) : s.LinkStays t :=
  ⟨link, .inr answered⟩

theorem foldl {α : Type} (f : State → α → State) (hf : ∀ (s : State) a, s.LinkStays (f s a)) (as : List α)
    (s : State) : s.LinkStays (as.foldl f s) := by
  induction as generalizing s with
  | nil => exact .refl s
  | cons a as ih => exact (hf s a).trans (ih _)

theorem outcomeFits {s t : State} (h : s.LinkStays t) (fits : s.OutcomeFits) : t.OutcomeFits := fun a answered => by
  rcases h.answered with same | none
  · exact fits a (same ▸ answered)
  · simp [none] at answered

theorem linkLegal {s t : State} (h : s.LinkStays t) (legal : s.LinkLegal) : t.LinkLegal := by
  obtain ⟨link, fits⟩ := s.linkLegal_iff.1 legal
  exact t.linkLegal_iff.2 ⟨h.link ▸ link, h.outcomeFits fits⟩

end State.LinkStays

namespace State

/-- A grant gives the engine something not yet served (R132). -/
theorem applyGrant_answered (s : State) (g : Grant) (idle : s.engine = .idle) :
    (s.applyGrant g).engine.answered = none := by
  cases g with
  | host =>
    simp only [State.applyGrant]
    split
    · rfl
    · rw [State.setHostRequest_engine, idle]
      rfl
  | _ => rfl

theorem settle_stays (s : State) : s.LinkStays s.settle := by
  rcases s.settle_cases with ⟨_, e⟩ | ⟨_, _, e⟩ | ⟨g, idle, _, e⟩ <;> rw [e]
  exact .of_engine (s.applyGrant_link g) (s.applyGrant_answered g idle)

/-- With the engine at IDLE again no outcome waits (R129). -/
theorem engineDone_stays (s : State) : s.LinkStays s.engineDone :=
  LinkStays.trans (t := { s with engine := .idle }) (.of_engine rfl rfl) (settle_stays _)

theorem haltNotice_stays (s : State) : s.LinkStays s.haltNotice := by
  refine LinkStays.trans (t := (s.portOrder _).2) .of_rest (.foldl State.haltLane (fun t l => ?_) _ _)
  unfold State.haltLane
  split
  · exact .of_rest
  · exact .refl t

theorem raiseStartFaults_stays (s before : State) : s.LinkStays (s.raiseStartFaults before) := by
  unfold State.raiseStartFaults
  split
  · exact LinkStays.trans (t := { s with freeCount := s.freeCount + 1 }) (.of_rest rfl rfl)
      (.foldl _ (fun t l => .of_rest) _ _)
  · exact .refl s

theorem setClock_stays (s : State) (day minute : Nat) : s.LinkStays (s.setClock day minute) := by
  rw [s.setClock_eq]
  exact .of_rest rfl rfl

end State

/-! ### The outcomes of DIRECT commands (R158, R165) -/

/-- An owner leaves the link alone and puts an outcome on it that the result queue holds. -/
structure Taken.Fits (s : State) (x : Taken) : Prop where
  stays : s.LinkStays x.1
  answer : ∃ a, x.2 = some a ∧ a.Legal

namespace Taken.Fits
variable {s t : State}

theorem refuse (s : State) (c : RejectCode) : Taken.Fits s (s.refuse c) := ⟨.refl s, _, rfl, trivial⟩

theorem ok (h : s.LinkStays t) : Taken.Fits s t.ok := ⟨h, _, rfl, Nat.zero_le _⟩

theorem reply {data : List Word} (h : data.length ≤ 63) : Taken.Fits s (s.reply data) := ⟨.refl s, _, rfl, h⟩

theorem haltCount (h : s.LinkStays t) : Taken.Fits s t.haltCount := ⟨h, _, rfl, Nat.zero_le _⟩

end Taken.Fits

/-- The words of the groups that a mask selects are no more than the groups times the longest. -/
theorem length_maskGroups_flatMap_le {n m : Nat} (mask : Word) {f : Nat → List Word} (h : ∀ g, (f g).length ≤ m) :
    ((maskGroups n mask).flatMap f).length ≤ n * m := by
  have groups : (maskGroups n mask).length ≤ n := (List.length_filter_le _ _).trans_eq List.length_range
  calc ((maskGroups n mask).flatMap f).length
      = ((maskGroups n mask).map fun g => (f g).length).sum := List.length_flatMap
    _ ≤ ((maskGroups n mask).map fun g => (f g).length).length * m :=
      List.sum_le_card_nsmul _ _ (by simpa using fun g _ => h g)
    _ ≤ n * m := Nat.mul_le_mul_right m (by simpa using groups)

theorem departureWords_length_le (d : Departure) (mask : Word) : (departureWords d mask).length ≤ 63 :=
  (length_maskGroups_flatMap_le (m := 2) mask fun g => by unfold departureGroup; split <;> simp [twoWords]).trans
    (by decide)

theorem recordWords_length_le (r : CardRecord) (slot : Nat) (mask : Word) : (recordWords r slot mask).length ≤ 63 := by
  have group (g : Nat) : (recordGroup r slot g).length ≤ 5 := by
    unfold recordGroup
    split
    case h_8 => split <;> simp [twoWords]
    all_goals simp [cardWords, twoWords, twoWordsSigned]
  exact (length_maskGroups_flatMap_le mask group).trans (by decide)

theorem ownStart_fits (k p : Word) (s : State) : Taken.Fits s (ownStart k p s) := by
  unfold ownStart
  split
  · exact .refuse s _
  · exact .refuse s _
  · exact .refuse s _
  · split
    · have started (g : Geometry) : s.LinkStays (s.started g) := .of_rest rfl rfl
      exact .ok ((started _).trans ((State.raiseStartFaults_stays _ s).trans (State.settle_stays _)))
    · exact .refuse s _

theorem ownHalt_fits (s : State) : Taken.Fits s (ownHalt s) := by
  unfold ownHalt
  split
  · exact .refuse s _
  · exact .refuse s _
  · exact .refuse s _
  · exact .haltCount (.refl s)
  · exact .haltCount (.refl s)
  · exact .haltCount (s.haltNotice_stays.trans (.of_rest rfl rfl))

theorem ownDepartureDefine_fits (d b r t c m f a : Word) (s : State) :
    Taken.Fits s (ownDepartureDefine d b r t c m f a s) := by
  unfold ownDepartureDefine
  split
  · split
    · split
      · exact .refuse s _
      · split
        · exact .ok .of_rest
        · exact .refuse s _
    · exact .refuse s _
  · exact .refuse s _

theorem ownDepartureClose_fits (d : Word) (s : State) : Taken.Fits s (ownDepartureClose d s) := by
  unfold ownDepartureClose
  split
  · exact .refuse s _
  · simp only
    split
    · split <;> exact .ok .of_rest
    · exact .refuse s _

theorem ownDepartureSetCapacity_fits (d c m : Word) (s : State) : Taken.Fits s (ownDepartureSetCapacity d c m s) := by
  unfold ownDepartureSetCapacity
  split
  · exact .refuse s _
  · simp only
    split
    · split
      · split
        · exact .ok .of_rest
        · exact .refuse s _
      · exact .refuse s _
    · exact .refuse s _

theorem ownDepartureLink_fits (d f : Word) (s : State) : Taken.Fits s (ownDepartureLink d f s) := by
  unfold ownDepartureLink
  split
  · simp only
    split
    · split
      · exact .ok .of_rest
      · exact .refuse s _
    · exact .refuse s _
  · exact .refuse s _

theorem ownDepartureRead_fits (d m : Word) (s : State) : Taken.Fits s (ownDepartureRead d m s) := by
  unfold ownDepartureRead
  split
  · exact .refuse s _
  · split
    · exact .reply (departureWords_length_le _ m)
    · exact .refuse s _

theorem ownBerthSetCurrent_fits (b d : Word) (s : State) : Taken.Fits s (ownBerthSetCurrent b d s) := by
  unfold ownBerthSetCurrent
  split
  · exact .ok .of_rest
  · split
    · exact .refuse s _
    · split
      · exact .ok .of_rest
      · exact .refuse s _
  · exact .refuse s _

theorem ownLaneOpen_fits (l : Word) (s : State) : Taken.Fits s (ownLaneOpen l s) := by
  unfold ownLaneOpen
  split
  · exact .refuse s _
  · simp only
    split
    · exact .refuse s _
    · exact .ok .of_rest

theorem ownLaneClose_fits (l : Word) (s : State) : Taken.Fits s (ownLaneClose l s) := by
  unfold ownLaneClose
  split
  · exact .refuse s _
  · simp only
    split <;> exact .ok .of_rest

theorem ownLaneSet_fits (l b k c t : Word) (s : State) : Taken.Fits s (ownLaneSet l b k c t s) := by
  unfold ownLaneSet
  split
  · split
    · simp only
      split
      · exact .ok .of_rest
      · exact .refuse s _
    · exact .refuse s _
  · exact .refuse s _

/-- Every owner but RESTART's, which resets the link (R187). -/
theorem owner_fits {c : Cmd} (started : c ≠ .restart) (ws : List Word) (s : State) :
    Taken.Fits s (owner c ws s) := by
  cases c with
  | restart => exact absurd rfl started
  | nop => exact .ok (.refl s)
  | identify => exact .reply (by decide)
  | start => exact ownStart_fits _ _ s
  | halt => exact ownHalt_fits s
  | departureDefine => exact ownDepartureDefine_fits _ _ _ _ _ _ _ _ s
  | departureClose => exact ownDepartureClose_fits _ s
  | departureSetCapacity => exact ownDepartureSetCapacity_fits _ _ _ s
  | departureLink => exact ownDepartureLink_fits _ _ s
  | departureRead => exact ownDepartureRead_fits _ _ s
  | berthSetCurrent => exact ownBerthSetCurrent_fits _ _ s
  | laneOpen => exact ownLaneOpen_fits _ s
  | laneClose => exact ownLaneClose_fits _ s
  | laneSet => exact ownLaneSet_fits _ _ _ _ _ s
  | resume =>
    simp only [owner, ownResume]
    split
    · exact .ok (.of_rest rfl rfl)
    · exact .refuse s _
    · exact .refuse s _
  | continueService =>
    simp only [owner, ownContinue]
    split
    · exact .ok (.of_rest rfl rfl)
    · exact .refuse s _
    · exact .refuse s _
    · exact .refuse s _
  | keep =>
    simp only [owner, ownKeep]
    split
    · exact .ok (.of_rest rfl rfl)
    · exact .ok (.of_rest rfl rfl)
    · exact .refuse s _
    · exact .refuse s _
    · exact .refuse s _
  | clockRead => exact .reply (by simp)
  | setTime | newDay | setDay =>
    simp only [owner, ownSetTime, ownNewDay, ownSetDay]
    split
    · exact .ok (s.setClock_stays _ _)
    · exact .refuse s _
  | departureOpen =>
    simp only [owner, ownDepartureOpen]
    split
    · exact .refuse s _
    · split
      · exact .ok .of_rest
      · exact .refuse s _
  | departureRetire =>
    simp only [owner, ownDepartureRetire]
    split
    · exact .refuse s _
    · split
      · exact .ok (.of_rest rfl rfl)
      · exact .refuse s _
  | berthRead => exact .reply (by simp)
  | laneRead =>
    simp only [owner, ownLaneRead]
    split
    · exact .refuse s _
    · exact .reply (by rw [laneWords_length]; decide)
  | arbiterMode | setBottom =>
    simp only [owner, ownArbiterMode, ownSetBottom]
    split
    · exact .refuse s _
    · exact .ok (.of_rest rfl rfl)
  | pollLanes => exact .reply (by simp)
  | attentionRead => exact .reply (by simp [causeWords, List.length_flatMap])
  | attentionAck | attentionMask =>
    simp only [owner, ownAttentionAck, ownAttentionMask]
    split
    · exact .ok (.of_rest rfl rfl)
    · exact .refuse s _
  | _ => exact .refuse s _

end Sys2Proof.Machine
end

section
namespace Sys2Proof.Machine

/-! ### DIRECT commands by their rows (R162 to R166) -/

theorem exec_directRow {k : Cmd} {ws : List Word} {i : Instr} (row : directRow k ws = some i) (s : State) :
    exec i s = .next (s.hostDirect k (owner k ws)) := by
  cases k <;> cases row <;> rfl

/-- A DIRECT command is no ENGINE command (8.8). -/
theorem isEngine_of_directRow {k : Cmd} {ws : List Word} {i : Instr} (row : directRow k ws = some i) :
    k.isEngine = false := by
  revert row
  cases k <;> simp [directRow, Cmd.isEngine, Cmd.group]

/-- The phase in which a DIRECT command is taken does not show in what it leaves (R165). -/
theorem State.direct_phase (s : State) (c : Cmd) (ws : List Word) (p q : Phase) (x : Option Transfer) :
    (s.withLink ⟨p, x⟩).direct c (owner c ws) = (s.withLink ⟨q, x⟩).direct c (owner c ws) := by
  by_cases restart : c = .restart
  · subst restart
    rfl
  · obtain ⟨a, answered, _⟩ := (owner_fits restart ws s).answer
    simp only [State.direct, owner_withLink restart, withLink_service, Taken.withLink, answered]
    split <;> rfl

/-- Where a COMMAND word begins a command, the row of a DIRECT command is its owner's, whatever the phase was. -/
theorem State.hostDirect_takes {s : State} (takes : s.takesCommand = true) (c : Cmd) (ws : List Word) (p : Phase) :
    s.hostDirect c (owner c ws) = (s.withLink ⟨p, none⟩).direct c (owner c ws) := by
  rcases s.hostDirect_cases c (owner c ws) with ⟨_, e⟩ | ⟨⟨k, n, words, phase⟩, _⟩ | ⟨⟨k, words, late, phase⟩, _⟩
  · exact e.trans (s.direct_phase c ws _ p none)
  · simp [State.takesCommand, phase] at takes
  · simp [State.takesCommand, phase] at takes

theorem State.takesCommand_iff (s : State) :
    s.takesCommand = true ↔ s.link.phase = .ready ∨ ∃ q, s.link.phase = .results q := by
  cases h : s.link.phase <;> simp [State.takesCommand, h]

/-- A command that the service state refuses is not taken (R165). -/
theorem State.direct_judged {s : State} {c : Cmd} {code : RejectCode}
    (judged : judgeGroup c.group s.service = some code) (own : State → Taken) : s.direct c own = s.answerLink (.reject code) := by
  simp only [State.direct, judged]

/-- Settles O30: the row is its owner's in READY and RESULTS alone, and there behind the service state. -/
theorem directJudged : Obligations.DirectJudged := by
  unfold Obligations.DirectJudged
  intro s k ws i row
  have refused {code : RejectCode} (takes : s.takesCommand = true)
      (judged : judgeGroup k.group s.service = some code) : exec i s = .next (s.answering (.reject code)) := by
    rw [exec_directRow row, State.hostDirect_takes takes k ws .ready,
      State.direct_judged (s := s.withLink ⟨.ready, none⟩) judged]
    rfl
  refine ⟨fun takes group service => refused takes ?_, fun takes group service => refused takes ?_,
    fun c n words phase => ?_, fun executing => ?_⟩
  · rcases service with service | service <;> rw [group, service] <;> rfl
  · rw [group, service]
    rfl
  · rw [exec_directRow row, State.hostDirect, phase]
    rfl
  · rw [exec_directRow row]
    rcases s.hostDirect_cases k (owner k ws) with ⟨phase, _⟩ | ⟨⟨c, n, words, phase⟩, _⟩ | ⟨_, e⟩
    · rcases phase with phase | ⟨q, phase⟩ <;> simp [State.linkFree, phase, Phase.executed] at executing
    · simp [State.linkFree, phase, Phase.executed] at executing
    · rw [e]

/-! ### Transfers (R159, R160) -/

theorem exec_transferBegin {s : State} (idle : s.link.transfer = none) :
    exec .transferBegin s = .next (s.withLink
      ⟨s.link.phase, some ⟨transferBits s.link.phase.sends.1 s.link.phase.sends.2.1, s.link.phase.sends.2.2⟩⟩) := by
  simp only [exec, execTransferBegin, idle]
  rfl

theorem exec_transferBegin_during {s : State} {x : Transfer} (during : s.link.transfer = some x) :
    exec .transferBegin s = .next s := by
  simp only [exec, execTransferBegin, during]

/-- Settles O25: a transfer's beginning carries out what its phase sends. -/
theorem transferBegins : Obligations.TransferBegins := by
  unfold Obligations.TransferBegins
  intro s
  dsimp only
  refine ⟨fun idle => ?_, fun during => ?_, rfl⟩
  · have begun {p : Phase} (phase : s.link.phase = p) : exec .transferBegin s =
        .next (s.withLink ⟨s.link.phase, some ⟨transferBits p.sends.1 p.sends.2.1, p.sends.2.2⟩⟩) :=
      phase ▸ exec_transferBegin idle
    exact ⟨begun, fun _ _ _ => begun, fun _ _ _ => begun, fun _ _ => begun, fun _ _ => begun, fun _ _ => begun⟩
  · obtain ⟨x, during⟩ := Option.ne_none_iff_exists'.1 during
    exact exec_transferBegin_during during

/-- The completion of a transfer: the entry it carried leaves the queue, then the phase takes the word (R159). -/
theorem exec_transferComplete {s : State} {x : Transfer} (during : s.link.transfer = some x) (kind : Byte) (w : Word) :
    exec (.transferComplete kind w) s = .next ((s.withLink
      ⟨if x.carries then s.link.phase.dropCarried else s.link.phase, none⟩).takeWord (Kind.ofByte kind) w) := by
  simp only [exec, execTransferComplete, during]
  rfl

end Sys2Proof.Machine
end

section
namespace Sys2Proof.Machine

/-! ### The host's kinds (R161) -/

theorem Kind.ofByte_eq_idle_iff (b : Byte) : Kind.ofByte b = .idle ↔ b = 0 := by
  unfold Kind.ofByte
  grind

theorem Kind.ofByte_eq_command_iff (b : Byte) : Kind.ofByte b = .command ↔ b = 90 := by
  unfold Kind.ofByte
  grind

theorem Kind.ofByte_eq_operand_iff (b : Byte) : Kind.ofByte b = .operand ↔ b = 165 := by
  unfold Kind.ofByte
  grind

theorem Kind.ofByte_eq_abort_iff (b : Byte) : Kind.ofByte b = .abort ↔ b = 60 := by
  unfold Kind.ofByte
  grind

/-! ### A command begun and completed (R163 to R165) -/

/-- Every command is found by its code (8.8). -/
theorem Cmd.ofCode_code (k : Cmd) : Cmd.ofCode (word k.code) = some k := by
  cases k <;> rfl

namespace State
variable {s : State} {p : Phase}

theorem beginCommand_unknown {w : Word} (unknown : Cmd.ofCode w = none) :
    (s.withLink ⟨p, none⟩).beginCommand w = s.answering (.reject .unknownCommand) := by
  simp only [State.beginCommand, unknown]
  rfl

theorem beginCommand_collects {k : Cmd} (operands : 0 < k.operands) :
    (s.withLink ⟨p, none⟩).beginCommand (word k.code) = s.withLink ⟨.collecting k k.operands [], none⟩ := by
  simp only [State.beginCommand, k.ofCode_code, if_neg operands.ne']
  rfl

theorem beginCommand_complete {k : Cmd} (operands : k.operands = 0) :
    (s.withLink ⟨p, none⟩).beginCommand (word k.code) = (s.withLink ⟨p, none⟩).dispatch k [] := by
  simp only [State.beginCommand, k.ofCode_code, if_pos operands]

/-- A complete DIRECT command does what its row does in READY (R165). -/
theorem dispatch_direct {k : Cmd} {ws : List Word} {i : Instr} (row : directRow k ws = some i) :
    .next ((s.withLink ⟨p, none⟩).dispatch k ws) = exec i (s.withLink ⟨.ready, none⟩) := by
  rw [exec_directRow row, State.dispatch, isEngine_of_directRow row]
  exact congrArg _ (s.direct_phase k ws p .ready none)

/-- A complete ENGINE command becomes a request, whatever the phase was (R165). -/
theorem dispatch_engine {k : Cmd} (engine : k.isEngine = true) (ws : List Word) :
    (s.withLink ⟨p, none⟩).dispatch k ws = (s.withLink ⟨.ready, none⟩).request k ws := by
  rw [State.dispatch, if_pos engine]
  rfl

/-! ### The host's word in each phase (R162 to R167) -/

theorem wordReady_other {k : Kind} (command : k ≠ .command) (operand : k ≠ .operand) (w : Word) :
    s.wordReady k w = s.setPhase .ready := by
  cases k <;> simp_all [State.wordReady]

theorem wordResults_other {k : Kind} (command : k ≠ .command) (operand : k ≠ .operand) (abort : k ≠ .abort)
    (left : List Entry) (w : Word) :
    s.wordResults left k w = if left.isEmpty then s.setPhase .ready else s := by
  cases k <;> simp_all [State.wordResults]

theorem wordCollecting_other {k : Kind} (idle : k ≠ .idle) (operand : k ≠ .operand) (abort : k ≠ .abort)
    (c : Cmd) (n : Nat) (ws : List Word) (w : Word) :
    s.wordCollecting c n ws k w = s.linkReject .unknownCommand := by
  cases k <;> simp_all [State.wordCollecting]

/-- An operand before the last is collected (R164). -/
theorem wordCollecting_more {c : Cmd} {n : Nat} (more : 2 ≤ n) (ws : List Word) (w : Word) :
    (s.withLink ⟨p, none⟩).wordCollecting c n ws .operand w =
      s.withLink ⟨.collecting c (n - 1) (ws ++ [w]), none⟩ := by
  rw [State.wordCollecting, if_neg (by omega)]
  rfl

/-- The last operand completes the command (R164, R165). -/
theorem wordCollecting_last (c : Cmd) {n : Nat} (last : n ≤ 1) (ws : List Word) (w : Word) :
    s.wordCollecting c n ws .operand w = s.dispatch c (ws ++ [w]) := by
  rw [State.wordCollecting, if_pos last]

theorem wordExecuting_other {k : Kind} (abort : k ≠ .abort) (c : Cmd) (ws : List Word) (late : Bool) :
    s.wordExecuting c ws late k = s := by
  cases k <;> simp_all [State.wordExecuting]

theorem wordExecuting_late (c : Cmd) (ws : List Word) (k : Kind) : s.wordExecuting c ws true k = s := by
  cases k <;> rfl

theorem wordExecuting_abort (c : Cmd) (ws : List Word) :
    s.wordExecuting c ws false .abort =
      if s.arbiter.hostRequest then (s.setHostRequest false).linkReject .aborted
      else s.setPhase (.executing c ws true) := rfl

end State

section
variable {s : State} {x : Transfer} (during : s.link.transfer = some x)
include during

/-- In READY, and in COLLECTING and EXECUTING, no transfer carries an entry away (R159). -/
theorem exec_transferComplete_kept (kept : s.link.phase.dropCarried = s.link.phase) (kind : Byte) (w : Word) :
    exec (.transferComplete kind w) s =
      .next ((s.withLink ⟨s.link.phase, none⟩).takeWord (Kind.ofByte kind) w) := by
  rw [exec_transferComplete during, kept, ite_self]

theorem exec_transferComplete_results {q : List Entry} (phase : s.link.phase = .results q) (kind : Byte) (w : Word) :
    exec (.transferComplete kind w) s = .next (State.wordResults
      (s.withLink ⟨.results (if x.carries then q.tail else q), none⟩) (if x.carries then q.tail else q)
      (Kind.ofByte kind) w) := by
  have left : (if x.carries then s.link.phase.dropCarried else s.link.phase) =
      .results (if x.carries then q.tail else q) := by
    rw [phase]
    split <;> rfl
  rw [exec_transferComplete during, left]
  rfl

/-- A COMMAND begins a command in READY and in RESULTS (R162, R167). -/
theorem exec_transferComplete_begins (takes : s.takesCommand = true) (w : Word) :
    ∃ p, exec (.transferComplete 90 w) s = .next ((s.withLink ⟨p, none⟩).beginCommand w) := by
  rcases s.takesCommand_iff.1 takes with phase | ⟨q, phase⟩
  · refine ⟨.ready, ?_⟩
    rw [exec_transferComplete_kept during (by rw [phase]; rfl), phase]
    rfl
  · exact ⟨_, exec_transferComplete_results during phase 90 w⟩

theorem exec_transferComplete_ready (phase : s.link.phase = .ready) (w : Word) :
    (∀ kind : Byte, kind ≠ 90 → kind ≠ 165 →
      exec (.transferComplete kind w) s = .next (s.withLink ⟨.ready, none⟩))
    ∧ exec (.transferComplete 165 w) s = .next (s.answering (.reject .unknownCommand)) := by
  have taken := exec_transferComplete_kept during (by rw [phase]; rfl)
  rw [phase] at taken
  refine ⟨fun kind command operand => (taken kind w).trans (congrArg _ ?_), taken 165 w⟩
  exact State.wordReady_other (mt (Kind.ofByte_eq_command_iff kind).1 command)
    (mt (Kind.ofByte_eq_operand_iff kind).1 operand) w

theorem exec_transferComplete_command (takes : s.takesCommand = true) (w : Word) :
    (Cmd.ofCode w = none → exec (.transferComplete 90 w) s = .next (s.answering (.reject .unknownCommand)))
    ∧ ∀ k : Cmd, w = word k.code →
      (0 < k.operands →
        exec (.transferComplete 90 w) s = .next (s.withLink ⟨.collecting k k.operands [], none⟩))
      ∧ (∀ i, k.operands = 0 → directRow k [] = some i →
        exec (.transferComplete 90 w) s = exec i (s.withLink ⟨.ready, none⟩))
      ∧ (k.operands = 0 → k.isEngine = true →
        exec (.transferComplete 90 w) s = .next ((s.withLink ⟨.ready, none⟩).request k [])) := by
  obtain ⟨p, begun⟩ := exec_transferComplete_begins during takes w
  rw [begun]
  refine ⟨fun unknown => congrArg _ (State.beginCommand_unknown unknown), ?_⟩
  rintro k rfl
  refine ⟨fun operands => congrArg _ (State.beginCommand_collects operands), fun i operands row => ?_,
    fun operands engine => ?_⟩
  · rw [State.beginCommand_complete operands]
    exact State.dispatch_direct row
  · rw [State.beginCommand_complete operands, State.dispatch_engine engine]

theorem exec_transferComplete_collecting {k : Cmd} {n : Nat} {ws : List Word}
    (phase : s.link.phase = .collecting k n ws) (w : Word) :
    exec (.transferComplete 0 w) s = .next (s.withLink ⟨.collecting k n ws, none⟩)
    ∧ exec (.transferComplete 60 w) s = .next (s.answering (.reject .aborted))
    ∧ (∀ kind : Byte, kind ≠ 0 → kind ≠ 165 → kind ≠ 60 →
      exec (.transferComplete kind w) s = .next (s.answering (.reject .unknownCommand)))
    ∧ (2 ≤ n → exec (.transferComplete 165 w) s =
      .next (s.withLink ⟨.collecting k (n - 1) (ws ++ [w]), none⟩))
    ∧ (∀ i, n = 1 → directRow k (ws ++ [w]) = some i →
      exec (.transferComplete 165 w) s = exec i (s.withLink ⟨.ready, none⟩))
    ∧ (n = 1 → k.isEngine = true →
      exec (.transferComplete 165 w) s = .next ((s.withLink ⟨.ready, none⟩).request k (ws ++ [w]))) := by
  have taken := exec_transferComplete_kept during (by rw [phase]; rfl)
  rw [phase] at taken
  refine ⟨taken 0 w, taken 60 w, fun kind idle operand abort => (taken kind w).trans (congrArg _ ?_),
    fun more => (taken 165 w).trans (congrArg _ ?_), fun i last row => (taken 165 w).trans ?_,
    fun last engine => (taken 165 w).trans (congrArg _ ?_)⟩
  · exact State.wordCollecting_other (mt (Kind.ofByte_eq_idle_iff kind).1 idle)
      (mt (Kind.ofByte_eq_operand_iff kind).1 operand) (mt (Kind.ofByte_eq_abort_iff kind).1 abort) k n ws w
  · exact State.wordCollecting_more more ws w
  · exact (congrArg _ (State.wordCollecting_last k last.le ws w)).trans (State.dispatch_direct row)
  · exact (State.wordCollecting_last k last.le ws w).trans (State.dispatch_engine engine _)

theorem exec_transferComplete_executing {k : Cmd} {ws : List Word} {late : Bool}
    (phase : s.link.phase = .executing k ws late) (w : Word) :
    (∀ kind : Byte, kind ≠ 60 →
      exec (.transferComplete kind w) s = .next (s.withLink ⟨.executing k ws late, none⟩))
    ∧ (late = true → exec (.transferComplete 60 w) s = .next (s.withLink ⟨.executing k ws late, none⟩))
    ∧ (late = false → s.arbiter.hostRequest = true → exec (.transferComplete 60 w) s =
      .next (State.answering { s with arbiter := { s.arbiter with hostRequest := false } } (.reject .aborted)))
    ∧ (late = false → s.arbiter.hostRequest = false →
      exec (.transferComplete 60 w) s = .next (s.withLink ⟨.executing k ws true, none⟩)) := by
  have taken := exec_transferComplete_kept during (by rw [phase]; rfl)
  rw [phase] at taken
  refine ⟨fun kind abort => (taken kind w).trans (congrArg _ ?_), ?_, ?_, ?_⟩
  · exact State.wordExecuting_other (mt (Kind.ofByte_eq_abort_iff kind).1 abort) k ws late
  · rintro rfl
    exact (taken 60 w).trans (congrArg _ (State.wordExecuting_late k ws .abort))
  · rintro rfl waits
    exact (taken 60 w).trans (congrArg _ ((State.wordExecuting_abort k ws).trans (if_pos waits)))
  · rintro rfl served
    exact (taken 60 w).trans (congrArg _ ((State.wordExecuting_abort k ws).trans (if_neg (by simp [served]))))

theorem exec_transferComplete_queue {q left : List Entry} (phase : s.link.phase = .results q)
    (removed : (if x.carries then q.tail else q) = left) (w : Word) :
    (∀ kind : Byte, kind ≠ 90 → kind ≠ 165 → kind ≠ 60 → exec (.transferComplete kind w) s =
      .next (if left = [] then s.withLink ⟨.ready, none⟩ else s.withLink ⟨.results left, none⟩))
    ∧ (left = [] → exec (.transferComplete 165 w) s = .next (s.answering (.reject .unknownCommand)))
    ∧ (left ≠ [] → exec (.transferComplete 165 w) s = .next (s.withLink ⟨.results left, none⟩))
    ∧ exec (.transferComplete 60 w) s = .next (s.withLink ⟨.ready, none⟩) := by
  have taken := exec_transferComplete_results during phase
  rw [removed] at taken
  refine ⟨fun kind command operand abort => (taken kind w).trans (congrArg _ ?_),
    fun empty => (taken 165 w).trans (congrArg _ ?_), fun more => (taken 165 w).trans (congrArg _ ?_), taken 60 w⟩
  · rw [State.wordResults_other (mt (Kind.ofByte_eq_command_iff kind).1 command)
      (mt (Kind.ofByte_eq_operand_iff kind).1 operand) (mt (Kind.ofByte_eq_abort_iff kind).1 abort)]
    exact if_congr List.isEmpty_iff rfl rfl
  · exact if_pos (List.isEmpty_iff.2 empty)
  · exact if_neg (mt List.isEmpty_iff.1 more)

end

/-- Settles O26, phase by phase. -/
theorem wordsTaken : Obligations.WordsTaken := by
  unfold Obligations.WordsTaken
  intro s x w
  dsimp only
  exact fun during => ⟨fun phase => exec_transferComplete_ready during phase w,
    fun phase => exec_transferComplete_command during (s.takesCommand_iff.2 phase) w,
    fun q phase => exec_transferComplete_queue during phase rfl w,
    fun k n ws phase => exec_transferComplete_collecting during phase w,
    fun k ws late phase => exec_transferComplete_executing during phase w⟩

end Sys2Proof.Machine
end

section
namespace Sys2Proof.Machine

/-! ### Commands one after the other -/

theorem runAll_cons {i : Instr} {s t : State} (h : exec i s = .next t) (is : List Instr) :
    runAll (i :: is) s = runAll is t := by
  rw [runAll, h]

theorem runAll_append {as : List Instr} {s t : State} (h : runAll as s = .next t) (bs : List Instr) :
    runAll (as ++ bs) s = runAll bs t := by
  induction as generalizing s with
  | nil =>
    cases h
    rfl
  | cons a as ih =>
    rw [runAll] at h
    rw [List.cons_append, runAll]
    cases e : exec a s with
    | next u =>
      rw [e] at h
      exact ih h
    | fault | refused =>
      rw [e] at h
      cases h

/-! ### Whole transfers (R159) -/

/-- A transfer, or the completion of one in progress, hands its word to the phase, which may have lost the entry that
the transfer carried. -/
theorem runAll_transferOf (s : State) (kind : Byte) (w : Word) :
    ∃ p, (p = s.link.phase ∨ p = s.link.phase.dropCarried)
      ∧ runAll (transferOf kind w) s = .next ((s.withLink ⟨p, none⟩).takeWord (Kind.ofByte kind) w) := by
  obtain ⟨t, x, begun, during, phase, same⟩ : ∃ (t : State) (x : Transfer), exec .transferBegin s = .next t
      ∧ t.link.transfer = some x ∧ t.link.phase = s.link.phase ∧ ∀ k, t.withLink k = s.withLink k := by
    cases transfer : s.link.transfer with
    | none => exact ⟨_, _, exec_transferBegin transfer, rfl, rfl, fun k => rfl⟩
    | some x => exact ⟨s, x, exec_transferBegin_during transfer, transfer, rfl, fun k => rfl⟩
  refine ⟨if x.carries then s.link.phase.dropCarried else s.link.phase, (ite_eq_or_eq _ _ _).symm, ?_⟩
  rw [transferOf, runAll_cons begun, runAll_cons (exec_transferComplete during kind w), phase, same]
  rfl

/-- In a phase without a result queue the word is taken in the phase as it is. -/
theorem runAll_transferOf_kept {s : State} (kept : s.link.phase.dropCarried = s.link.phase) (kind : Byte) (w : Word) :
    runAll (transferOf kind w) s = .next ((s.withLink ⟨s.link.phase, none⟩).takeWord (Kind.ofByte kind) w) := by
  obtain ⟨p, phase, run⟩ := runAll_transferOf s kind w
  rw [kept, or_self] at phase
  rwa [phase] at run

/-! ### A command's words over the link (R162 to R166) -/

/-- The COMMAND word of a command, in READY or RESULTS. -/
theorem runAll_command {s : State} (takes : s.takesCommand = true) (w : Word) :
    ∃ p, runAll (transferOf 90#8 w) s = .next ((s.withLink ⟨p, none⟩).beginCommand w) := by
  obtain ⟨p, phase, run⟩ := runAll_transferOf s 90 w
  refine ⟨p, run.trans (congrArg _ ?_)⟩
  rcases s.takesCommand_iff.1 takes with e | ⟨q, e⟩ <;> rw [e] at phase <;> rcases phase with rfl | rfl <;> rfl

/-- The OPERAND words of a command being collected complete it. -/
theorem runAll_operands (s : State) (k : Cmd) (operands : List Word) (some : operands ≠ []) (words : List Word) :
    ∃ p, runAll (operands.flatMap (transferOf 165#8))
        (s.withLink ⟨.collecting k operands.length words, none⟩) =
      .next ((s.withLink ⟨p, none⟩).dispatch k (words ++ operands)) := by
  induction operands generalizing words with
  | nil => exact absurd rfl some
  | cons w rest ih =>
    have first : runAll (transferOf 165#8 w) (s.withLink ⟨.collecting k (rest.length + 1) words, none⟩) =
        .next (State.wordCollecting (s.withLink ⟨.collecting k (rest.length + 1) words, none⟩) k (rest.length + 1)
          words .operand w) := runAll_transferOf_kept rfl 165 w
    rw [List.flatMap_cons, List.length_cons, runAll_append first]
    cases rest with
    | nil => exact ⟨_, rfl⟩
    | cons v rest =>
      rw [State.wordCollecting_more (by simp), List.append_cons words w (v :: rest)]
      exact ih (by simp) _

/-- A command sent in READY or RESULTS is dispatched with its operands, once its last word has arrived. -/
theorem runAll_hostSends {s : State} (takes : s.takesCommand = true) {k : Cmd} {ws : List Word}
    (length : ws.length = k.operands) :
    ∃ p, runAll (hostSends k ws) s = .next ((s.withLink ⟨p, none⟩).dispatch k ws) := by
  obtain ⟨p, begun⟩ := runAll_command takes (word k.code)
  rw [hostSends, runAll_append begun]
  cases ws with
  | nil => exact ⟨p, congrArg _ (State.beginCommand_complete length.symm)⟩
  | cons w rest =>
    rw [State.beginCommand_collects (length ▸ Nat.succ_pos _), ← length]
    exact runAll_operands s k (w :: rest) (by simp) []

/-- A command sent in COLLECTING ends the command being collected, and its OPERAND words meet the REJECT (R164). -/
theorem runAll_hostSends_collecting {s : State} {c : Cmd} {n : Nat} {words : List Word}
    (phase : s.link.phase = .collecting c n words) (k : Cmd) (ws : List Word) :
    runAll (hostSends k ws) s = .next (s.answering (.reject .unknownCommand)) := by
  have command : runAll (transferOf 90#8 (word k.code)) s = .next (s.answering (.reject .unknownCommand)) := by
    rw [runAll_transferOf_kept (by rw [phase]; rfl), phase]
    rfl
  have operand (w : Word) : runAll (transferOf 165#8 w) (s.answering (.reject .unknownCommand)) =
      .next (s.answering (.reject .unknownCommand)) := by
    obtain ⟨p, rfl | rfl, run⟩ := runAll_transferOf (s.answering (.reject .unknownCommand)) 165 w
    · exact run
    · exact run
  rw [hostSends, runAll_append command]
  induction ws with
  | nil => rfl
  | cons w rest ih => rw [List.flatMap_cons, runAll_append (operand w), ih]

/-- The words of a command sent in EXECUTING are discarded (R166). -/
theorem runAll_hostSends_executing {s : State} (executing : s.linkFree = false) (k : Cmd) (ws : List Word) :
    runAll (hostSends k ws) s = .next (s.withLink ⟨s.link.phase, none⟩) := by
  obtain ⟨c, words, late, phase⟩ : ∃ c words late, s.link.phase = .executing c words late := by
    cases e : s.link.phase <;> simp_all [State.linkFree, Phase.executed]
  have discarded {t : State} (same : t.link.phase = .executing c words late) {kind : Byte} (w : Word)
      (abort : Kind.ofByte kind ≠ .abort) :
      runAll (transferOf kind w) t = .next (t.withLink ⟨.executing c words late, none⟩) := by
    rw [runAll_transferOf_kept (by rw [same]; rfl), same]
    exact congrArg _ (State.wordExecuting_other abort c words late)
  rw [hostSends, runAll_append (discarded phase _ (by decide)), phase]
  induction ws with
  | nil => rfl
  | cons w rest ih =>
    rw [List.flatMap_cons, runAll_append (discarded rfl w (by decide))]
    exact ih

/-- Settles O27: the command is dispatched in READY and RESULTS, with nothing of the phase in its outcome; in COLLECTING
and EXECUTING it is not. -/
theorem linkDeliversDirect : Obligations.LinkDeliversDirect := by
  unfold Obligations.LinkDeliversDirect
  intro s k ws i row length
  rw [exec_directRow row]
  rcases s.hostDirect_cases k (owner k ws) with ⟨phase, _⟩ | ⟨⟨c, n, words, phase⟩, e⟩ | ⟨⟨c, words, late, phase⟩, e⟩
  · have takes := s.takesCommand_iff.2 phase
    obtain ⟨p, run⟩ := runAll_hostSends takes length
    rw [run, State.hostDirect_takes takes k ws p, State.dispatch, isEngine_of_directRow row]
    rfl
  · rw [runAll_hostSends_collecting phase, e]
    rfl
  · rw [runAll_hostSends_executing (by simp [State.linkFree, phase, Phase.executed]), e]
    rfl

/-! ### ENGINE commands over the link (R131, R132, R165) -/

/-- The state with an ENGINE command of the host before the arbiter. -/
def State.placed (s : State) (k : Cmd) (ws : List Word) : State :=
  { s with link := ⟨.executing k ws false, none⟩, arbiter := { s.arbiter with hostRequest := true } }

/-- An ENGINE command that the service state passes stands before the arbiter, which makes its grant. -/
theorem State.request_placed {s : State} {k : Cmd} (judged : judgeGroup k.group s.service = none) (ws : List Word) :
    (s.withLink ⟨.ready, none⟩).request k ws = (s.placed k ws).settle := by
  simp only [State.request, withLink_service, judged]
  rfl

theorem State.request_refused {s : State} {k : Cmd} {code : RejectCode}
    (judged : judgeGroup k.group s.service = some code) (ws : List Word) :
    (s.withLink ⟨.ready, none⟩).request k ws = s.answering (.reject code) := by
  simp only [State.request, withLink_service, judged]
  rfl

/-- CLEARING alone refuses the fare commands (R165). -/
theorem judgeGroup_fare {v : Service} (h : v ≠ .clearing) : judgeGroup .fare v = none := by
  cases v <;> simp_all [judgeGroup]

theorem group_of_isEngine {k : Cmd} (engine : k.isEngine = true) : k.group = .record ∨ k.group = .fare := by
  simpa [Cmd.isEngine] using engine

/-- The host request alone before an idle engine is granted at once (R132). -/
theorem State.settle_host {s : State} {k : Cmd} {ws : List Word} (idle : s.engine = .idle)
    (quiet : s.arbiter.quiet = true) :
    (s.placed k ws).settle = { s with link := ⟨.executing k ws false, none⟩, engine := .host ⟨k, ws, none⟩ } := by
  obtain ⟨lanes, host, clearing⟩ := s.arbiter.quiet_iff.1 quiet
  have arbiter : { s.arbiter with hostRequest := false } = s.arbiter := by rw [← host]
  have next : (s.placed k ws).nextGrant = some .host := by
    refine State.nextGrant_of_only rfl fun other stands => ?_
    cases other with
    | host => rfl
    | clearing => exact absurd (clearing.symm.trans stands) (by simp)
    | commit l => exact absurd ((lanes l).2.symm.trans stands) (by simp)
    | tap l => exact absurd ((lanes l).1.symm.trans stands) (by simp)
  rw [State.settle_grants (s := s.placed k ws) idle next]
  simp only [State.applyGrant, State.placed, State.setHostRequest, arbiter]

/-- Settles O28: the request judged by the service state, and the arbiter's grant behind it. -/
theorem linkDeliversEngine : Obligations.LinkDeliversEngine := by
  unfold Obligations.LinkDeliversEngine
  intro s k ws engine length
  dsimp only
  have sent (takes : s.takesCommand = true) :
      runAll (hostSends k ws) s = .next ((s.withLink ⟨.ready, none⟩).request k ws) := by
    obtain ⟨p, run⟩ := runAll_hostSends takes length
    exact run.trans (congrArg _ (State.dispatch_engine engine ws))
  have group := group_of_isEngine engine
  refine ⟨fun takes service => ?_, fun takes service record => ?_, fun takes service => ?_,
    fun c n words phase => runAll_hostSends_collecting phase k ws,
    fun executing => runAll_hostSends_executing executing k ws⟩
  · rw [sent takes, State.request_refused (code := .wrongState)]
    rcases group with group | group <;> rw [group, service] <;> rfl
  · rw [sent takes, State.request_refused (code := .notStarted)]
    rcases service with service | service <;> rw [record, service] <;> rfl
  · have judged : judgeGroup k.group s.service = none := by
      rcases service with service | ⟨fare, clearing⟩
      · exact judgeGroup_inService service _
      · rw [fare]
        exact judgeGroup_fare clearing
    rw [sent takes, State.request_placed judged]
    exact ⟨rfl, fun busy => congrArg _ (State.settle_busy _ busy),
      fun idle quiet => congrArg _ (State.settle_host idle quiet)⟩

/-! ### NOP and IDENTIFY (R169, R170) -/

/-- A COMMAND 1 where a COMMAND word begins a command is answered DONE 0 (R169). -/
theorem State.beginCommand_nop (s : State) (p : Phase) : (s.withLink ⟨p, none⟩).beginCommand 1 = s.answering .ok := rfl

/-- Settles O29. -/
theorem nopAndIdentify : Obligations.NopAndIdentify := by
  unfold Obligations.NopAndIdentify
  refine ⟨fun s takes => ⟨?_, ?_⟩, fun s idle => ?_⟩
  · rw [exec_directRow (k := .nop) (ws := []) rfl, State.hostDirect_takes takes .nop [] .ready]
    rfl
  · rw [exec_directRow (k := .identify) (ws := []) rfl, State.hostDirect_takes takes .identify [] .ready]
    rfl
  · have shown {u : State} (run : runAll (transferOf 90#8 1) s = .next u) (ended : u.link.transfer = none) :
        runAll [.transferBegin, .transferComplete 90 1, .transferBegin] s = .next (u.withLink ⟨u.link.phase,
          some ⟨transferBits u.link.phase.sends.1 u.link.phase.sends.2.1, u.link.phase.sends.2.2⟩⟩) :=
      (runAll_append run [.transferBegin]).trans (runAll_cons (exec_transferBegin ended) [])
    have answered (takes : s.takesCommand = true) : runAll (transferOf 90#8 1) s = .next (s.answering .ok) := by
      obtain ⟨p, run⟩ := runAll_command takes 1
      rw [run, State.beginCommand_nop]
    have kept := runAll_transferOf_kept (s := s) (kind := 90#8) (w := 1)
    cases phase : s.link.phase with
    | ready => exact ⟨_, shown (answered (s.takesCommand_iff.2 (.inl phase))) rfl, fun _ => rfl, nofun, nofun⟩
    | results q => exact ⟨_, shown (answered (s.takesCommand_iff.2 (.inr ⟨q, phase⟩))) rfl, fun _ => rfl, nofun, nofun⟩
    | collecting k n ws =>
      rw [phase] at kept
      exact ⟨_, shown (kept rfl) rfl, nofun, fun _ _ _ _ => rfl, nofun⟩
    | executing k ws late =>
      rw [phase] at kept
      exact ⟨_, shown (kept rfl) rfl, nofun, nofun, fun _ _ _ _ => rfl⟩

end Sys2Proof.Machine
end

section
namespace Sys2Proof.Machine

/-! ### The outcomes of ENGINE commands (R153, R158) -/

@[simp] theorem State.served_legal (s : State) : s.served.2.Legal := Nat.zero_le _

@[simp] theorem State.refused_legal (s : State) (c : RejectCode) : (s.refused c).2.Legal := trivial

theorem State.onCard_legal (s : State) (card : CardNumber) {f : Nat → CardRecord → State → State × Answer}
    (h : ∀ slot r (t : State), (f slot r t).2.Legal) : (s.onCard card f).2.Legal := by
  unfold State.onCard
  split
  · trivial
  · trivial
  · exact h _ _ _

theorem onFound_legal (k : Cmd) (ws : List Word) (slot : Nat) (r : CardRecord) (s : State) :
    (onFound k ws slot r s).2.Legal := by
  simp only [onFound]
  split
  · exact recordWords_length_le r slot _
  · split
    · exact s.refused_legal _
    · exact show (twoWordsSigned _).length ≤ 63 by simp [twoWordsSigned]
  · exact State.served_legal _
  · split <;> simp
  · exact State.served_legal _
  · exact State.served_legal _
  · exact State.served_legal _
  · split <;> simp
  · exact s.refused_legal _

theorem serveCardAdd_legal (ws : List Word) (s : State) : (serveCardAdd ws s).2.Legal := by
  unfold serveCardAdd
  split
  · exact s.refused_legal _
  · split <;> simp

theorem serveTableWrite_legal (ws : List Word) (s : State) : (serveTableWrite ws s).2.Legal := by
  have written (content : Vector Word 15) : (s.writeAtCursor content).2.Legal := by
    unfold State.writeAtCursor
    split <;> simp
  simp only [serveTableWrite]
  split
  · exact written _
  · split
    · split
      · trivial
      · split
        · split
          · trivial
          · trivial
          · exact written _
        · trivial
    · trivial

theorem serveTableRead_legal (ws : List Word) (s : State) : (serveTableRead ws s).2.Legal := by
  unfold serveTableRead
  split
  · trivial
  · exact show (Vector.toList _).length ≤ 63 by simp

theorem serveSweepNext_legal (ws : List Word) (s : State) : (serveSweepNext ws s).2.Legal := by
  unfold serveSweepNext
  split
  · exact recordWords_length_le _ _ _
  · trivial
  · exact Nat.zero_le _

theorem fareWords_length_le {t : FareTables} {part : Nat} {data : List Word} (h : fareWords t part = some data) :
    data.length ≤ 63 := by
  unfold fareWords at h
  split at h <;> cases h <;> simp [List.length_flatMap]

theorem serveWatchRead_legal (ws : List Word) (s : State) : (serveWatchRead ws s).2.Legal :=
  show (s.watch.toList.flatMap watchWords).length ≤ 63 by simp [List.length_flatMap, watchWords_length]

/-- The outcome of every ENGINE command fits the result queue. -/
theorem server_legal (c : Cmd) (ws : List Word) (s : State) : (server c ws s).2.Legal := by
  by_cases named : c ∈ cardCommands
  · rw [server_onCard named]
    split
    · exact s.onCard_legal _ fun slot r t => onFound_legal c ws slot r t
    · trivial
  cases c with
  | cardFind | addValue | setBalance | settle | setProduct | deny | allow | cardRetire => exact absurd (by decide) named
  | cardAdd => exact serveCardAdd_legal ws s
  | tableRead => exact serveTableRead_legal ws s
  | tableWrite => exact serveTableWrite_legal ws s
  | sweepNext => exact serveSweepNext_legal ws s
  | watchRead => exact serveWatchRead_legal ws s
  | fareRead =>
    simp only [server, serveFareRead]
    split
    · next data h => exact fareWords_length_le h
    · exact s.refused_legal _
  | enforce | tableSeek | watchSet | watchClear | fareSetBase | fareSetBand | fareSetClass | fareSetPolicy =>
    simp only [server, serveEnforce, serveTableSeek, serveWatchSet, serveWatchClear, serveFareSetBase,
      serveFareSetBand, serveFareSetClass, serveFareSetPolicy]
    repeat' split
    all_goals simp
  | _ => exact s.refused_legal _

end Sys2Proof.Machine
end

section
namespace Sys2Proof.Machine

/-! ### What a result queue holds (R158) -/

/-- An outcome that fits makes a result queue: its DATA words and one closing entry. -/
theorem Answer.Legal.link {a : Answer} (h : a.Legal) (x : Option Transfer) : Link.Legal ⟨.results a.entries, x⟩ := by
  cases a with
  | done data w =>
    have length : data.length ≤ 63 := h
    exact ⟨data.map .data, .done w, rfl, by simp [Entry.isData], rfl, by simpa using length⟩
  | reject c => exact ⟨[], .reject c, rfl, rfl, rfl, by simp⟩

/-- The entry that a transfer carried leaves an empty queue, or one that holds a command's outcome still (R159). -/
theorem Link.Legal.dropCarried {k : Link} (h : k.Legal) (x : Option Transfer) :
    Link.Legal ⟨k.phase.dropCarried, x⟩ ∨ k.phase.dropCarried = .results [] := by
  obtain ⟨phase, y⟩ := k
  cases phase with
  | ready | collecting | executing => exact .inl h
  | results q =>
    obtain ⟨data, closing, rfl, words, ends, length⟩ := h
    cases data with
    | nil => exact .inr rfl
    | cons e rest =>
      simp only [List.all_cons, Bool.and_eq_true] at words
      exact .inl ⟨rest, closing, rfl, words.2, ends, by simp at length; omega⟩

/-! ### Commands taken over the link (R162 to R167) -/

namespace State

theorem OutcomeFits.answerLink {s : State} (h : s.OutcomeFits) {a : Answer} (fits : a.Legal) :
    (s.answerLink a).LinkLegal := (State.linkLegal_iff _).2 ⟨fits.link _, h⟩

theorem OutcomeFits.linkReject {s : State} (h : s.OutcomeFits) (c : RejectCode) : (s.linkReject c).LinkLegal :=
  h.answerLink (a := .reject c) trivial

theorem OutcomeFits.setPhase {s : State} (h : s.OutcomeFits) {p : Phase} (legal : Link.Legal ⟨p, s.link.transfer⟩) :
    (s.setPhase p).LinkLegal := (State.linkLegal_iff _).2 ⟨legal, h⟩

/-- Right after a reset nothing waits for the host (R186, R187). -/
theorem linkLegal_of_reset {s : State} (link : s.link = Link.reset) (engine : s.engine = .idle) : s.LinkLegal :=
  s.linkLegal_iff.2 ⟨by rw [link]; trivial, fun a answered => by rw [engine] at answered; cases answered⟩

theorem warmReset_linkLegal (s : State) : s.warmReset.LinkLegal := by
  have reset : s.warmReset.link = Link.reset ∧ s.warmReset.engine = .idle := by
    unfold State.warmReset
    split <;> exact ⟨rfl, rfl⟩
  exact linkLegal_of_reset reset.1 reset.2

theorem OutcomeFits.direct {s : State} (h : s.OutcomeFits) (c : Cmd) (ws : List Word) :
    (s.direct c (owner c ws)).LinkLegal := by
  by_cases restart : c = .restart
  · subst restart
    exact s.warmReset_linkLegal
  · obtain ⟨stays, a, answered, fits⟩ := owner_fits restart ws s
    rcases s.direct_cases c (owner c ws) with ⟨code, _, e⟩ | ⟨_, ⟨t, b, owned, e⟩ | ⟨t, owned, _⟩⟩
    · exact e ▸ h.linkReject code
    · rw [owned] at stays answered
      cases answered
      exact e ▸ (stays.outcomeFits h).answerLink fits
    · rw [owned] at answered
      cases answered

/-- An ENGINE command in EXECUTING has all its operands, also while the engine serves it (R158, R165). -/
theorem OutcomeFits.request {s : State} (h : s.OutcomeFits) {c : Cmd} (engine : c.isEngine = true) {ws : List Word}
    (length : ws.length = c.operands) : (s.request c ws).LinkLegal := by
  unfold State.request
  split
  · exact h.linkReject _
  · exact (settle_stays _).linkLegal ((State.linkLegal_iff _).2 ⟨⟨engine, length⟩, h⟩)

theorem OutcomeFits.dispatch {s : State} (h : s.OutcomeFits) {c : Cmd} {ws : List Word}
    (length : ws.length = c.operands) : (s.dispatch c ws).LinkLegal := by
  unfold State.dispatch
  split
  · next engine => exact h.request engine length
  · exact h.direct c ws

theorem OutcomeFits.beginCommand {s : State} (h : s.OutcomeFits) (w : Word) : (s.beginCommand w).LinkLegal := by
  unfold State.beginCommand
  split
  · exact h.linkReject _
  · split
    · next none => exact h.dispatch none.symm
    · next some => exact h.setPhase ⟨Nat.one_le_iff_ne_zero.2 some, rfl⟩

theorem OutcomeFits.wordReady {s : State} (h : s.OutcomeFits) (k : Kind) (w : Word) : (s.wordReady k w).LinkLegal := by
  unfold State.wordReady
  split
  · exact h.beginCommand w
  · exact h.linkReject _
  · exact h.setPhase trivial

/-- The operands still expected and those received make the command's number (R164). -/
theorem LinkLegal.wordCollecting {s : State} (h : s.LinkLegal) {c : Cmd} {n : Nat} {ws : List Word}
    (phase : s.link.phase = .collecting c n ws) (k : Kind) (w : Word) : (s.wordCollecting c n ws k w).LinkLegal := by
  obtain ⟨link, fits⟩ := s.linkLegal_iff.1 h
  obtain ⟨expected, all⟩ : 1 ≤ n ∧ n + ws.length = c.operands := by simpa [Link.Legal, phase] using link
  cases k with
  | operand =>
    have received : (ws ++ [w]).length = ws.length + 1 := by simp
    rw [State.wordCollecting]
    split
    · exact fits.dispatch (by omega)
    · exact fits.setPhase ⟨by omega, by omega⟩
  | idle => exact h
  | command => exact fits.linkReject _
  | abort => exact fits.linkReject _
  | other => exact fits.linkReject _

theorem LinkLegal.wordExecuting {s : State} (h : s.LinkLegal) {c : Cmd} {ws : List Word} {late : Bool}
    (phase : s.link.phase = .executing c ws late) (k : Kind) : (s.wordExecuting c ws late k).LinkLegal := by
  obtain ⟨link, fits⟩ := s.linkLegal_iff.1 h
  have executed : c.isEngine = true ∧ ws.length = c.operands := by simpa [Link.Legal, phase] using link
  unfold State.wordExecuting
  split
  · split
    · exact OutcomeFits.linkReject (s := s.setHostRequest false) fits _
    · exact fits.setPhase executed
  · exact h

/-- In RESULTS the queue is left as a whole outcome's rest, or is not left empty (R167). -/
theorem OutcomeFits.wordResults {s : State} (h : s.OutcomeFits) {left : List Entry}
    (rest : left = [] ∨ s.link.Legal) (k : Kind) (w : Word) : (s.wordResults left k w).LinkLegal := by
  have stays (more : ¬left.isEmpty = true) : s.LinkLegal :=
    s.linkLegal_iff.2 ⟨rest.resolve_left fun e => more (by simp [e]), h⟩
  unfold State.wordResults
  split
  · exact h.beginCommand w
  · exact h.setPhase trivial
  · split
    · exact OutcomeFits.wordReady (s := s.setPhase .ready) h _ w
    · next more => exact stays more
  · split
    · exact h.setPhase trivial
    · next more => exact stays more

theorem OutcomeFits.takeWord {s : State} (h : s.OutcomeFits) (legal : s.link.Legal ∨ s.link.phase = .results [])
    (k : Kind) (w : Word) : (s.takeWord k w).LinkLegal := by
  have whole (phase : s.link.phase ≠ .results []) : s.LinkLegal :=
    s.linkLegal_iff.2 ⟨legal.resolve_right phase, h⟩
  unfold State.takeWord
  split
  · exact h.wordReady k w
  · next phase => exact (whole (by simp [phase])).wordCollecting phase k w
  · next phase => exact (whole (by simp [phase])).wordExecuting phase k
  · next left phase =>
    refine h.wordResults (legal.symm.imp_left fun e => ?_) k w
    rw [phase] at e
    cases e
    rfl

/-- The row of a DIRECT command. -/
theorem LinkLegal.hostDirect {s : State} (h : s.LinkLegal) (c : Cmd) (ws : List Word) :
    (s.hostDirect c (owner c ws)).LinkLegal := by
  obtain ⟨link, fits⟩ := s.linkLegal_iff.1 h
  have free : State.OutcomeFits { s with link := ⟨s.link.phase, none⟩ } := fits
  rcases s.hostDirect_cases c (owner c ws) with ⟨_, e⟩ | ⟨_, e⟩ | ⟨_, e⟩ <;> rw [e]
  · exact free.direct c ws
  · exact free.linkReject _
  · exact (State.linkLegal_iff _).2 ⟨link, free⟩

/-! ### The rows of the ENGINE commands (R153, R166) -/

/-- An outcome handed over becomes the result queue, and the engine is free of it. -/
theorem handOver_linkLegal {s : State} (link : s.link.Legal) {a : Answer} (fits : a.Legal) :
    (s.handOver a).LinkLegal := by
  have done (t : State) (legal : t.link.Legal) : t.engineDone.LinkLegal :=
    (settle_stays _).linkLegal ((State.linkLegal_iff { t with engine := .idle }).2 ⟨legal, nofun⟩)
  unfold State.handOver
  refine done _ ?_
  split
  · refine Answer.Legal.link ?_ _
    split
    · trivial
    · exact fits
  · exact link

theorem LinkLegal.runHost {s : State} (h : s.LinkLegal) (c : Cmd) (p : Progress) :
    (s.runHost c (server c) p).LinkLegal := by
  unfold State.runHost
  split
  · next x host =>
    split
    · have link : (server c x.words s).1.link.Legal := server_link c x.words s ▸ h.1
      have fits := server_legal c x.words s
      rcases s.hostStages_cases x (server c) (stageCount 2 p) with
        ⟨_, e⟩ | ⟨a, _, served, e⟩ | ⟨_, _, e⟩ | ⟨_, _, e⟩ <;> rw [e]
      · exact h
      · exact handOver_linkLegal h.1 (h.2 x a host served)
      · refine ⟨link, fun y a engine answered => ?_⟩
        cases engine
        cases answered
        exact fits
      · exact handOver_linkLegal link fits
    · exact h
  · exact h

/-! ### Gate events, the clock and the engine's own operations -/

theorem takeTap_stays (s : State) (l : Lane) (card : CardNumber) : s.LinkStays (s.takeTap l card) := by
  simp only [State.takeTap]
  split
  · exact .of_rest
  · split
    · exact .of_rest
    · split
      · exact .trans .of_rest (settle_stays _)
      · exact .of_rest
  · split <;> exact .of_rest

theorem takePassed_stays (s : State) (l : Lane) : s.LinkStays (s.takePassed l) := by
  have late : s.LinkStays (if (s.lane l).expiredLast then
      ((s.setLane l { s.lane l with expiredLast := false }).send l (.passageAnswer .late)).raise .latePassage
        (numberSubject l.val) else s.send l (.passageAnswer .notExpected)) := by
    split <;> exact .of_rest
  simp only [State.takePassed]
  split
  · exact .trans .of_rest (settle_stays _)
  · exact late
  · exact late
  · exact .of_rest

theorem takeWalkaway_stays (s : State) (l : Lane) : s.LinkStays (s.takeWalkaway l) := by
  unfold State.takeWalkaway
  split <;> exact .of_rest

theorem takeCancel_stays (s : State) (l : Lane) : s.LinkStays (s.takeCancel l) := by
  simp only [State.takeCancel]
  split
  · exact .of_rest
  · exact .of_rest
  · exact .of_rest
  · exact .refl s

theorem takeFrame_stays (s : State) (l : Lane) (m : GateMessage) {take : State → State}
    (h : ∀ t : State, t.LinkStays (take t)) : s.LinkStays (s.takeFrame l m take) := by
  rcases s.takeFrame_cases l m take with ⟨_, e⟩ | ⟨_, e⟩ <;> rw [e]
  exact LinkStays.trans .of_rest (h _)

theorem tickLane_stays (s : State) (l : Lane) : s.LinkStays (s.tickLane l) := by
  have timer : s.LinkStays (s.tickTimer l) := by
    rcases s.tickTimer_cases l with ⟨_, e⟩ | ⟨_, _, e⟩ | ⟨_, _, e⟩ <;> rw [e]
    · exact .of_rest
    · exact .of_rest
  refine timer.trans ?_
  rcases (s.tickTimer l).tickFrame_cases l with ⟨_, e⟩ | ⟨_, e⟩ <;> rw [State.tickLane, e] <;> exact .of_rest

theorem minuteEvent_stays (s : State) : s.LinkStays s.minuteEvent := by
  rw [s.minuteEvent_eq]
  exact .of_rest rfl rfl

theorem secondEvent_stays (s : State) : s.LinkStays s.secondEvent := by
  have counted (t : State) : t.LinkStays t.countSecond := by
    rw [t.countSecond_eq]
    exact .of_rest rfl rfl
  have ticked (n : Nat) : s.LinkStays ((s.portOrder n).1.foldl State.tickLane (s.portOrder n).2) :=
    LinkStays.trans (t := (s.portOrder n).2) .of_rest (.foldl State.tickLane tickLane_stays _ _)
  exact (ticked _).trans (counted _)

end State

/-! ### The tap decision and the commit (R137 to R145, R150 to R152) -/

theorem stageWatch_link (d : Decision) (s : State) : (stageWatch d s).2.link = s.link := by
  unfold stageWatch
  split
  · rfl
  · simp only
    split <;> rfl

theorem stageLookup_link (d : Decision) (s : State) : (stageLookup d s).2.link = s.link := by
  unfold stageLookup
  split <;> next e => exact State.link_of_lookup e

theorem stageUnknown_link (d : Decision) (s : State) : (stageUnknown d s).2.link = s.link := by
  unfold stageUnknown
  split
  · rfl
  · split <;> rfl

theorem stageHold_link (d : Decision) (s : State) : (stageHold d s).2.link = s.link := by
  have held := s.holdRequest_link (s.lane d.lane).berth
  unfold stageHold
  split <;> next e => rwa [e] at held

theorem stageFare_link (d : Decision) (r : CardRecord) (h : Hold) (s : State) :
    (stageFare d r h s).2.link = s.link := by
  simp only [stageFare]
  split
  · rfl
  · exact s.release_link _

theorem stageWrite_link (d : Decision) (r : CardRecord) (s : State) : (stageWrite d r s).2.link = s.link := by
  unfold stageWrite
  split
  · exact s.writeRecord_link _ _
  · rfl

/-- The stages of a decision do not reach the link. -/
theorem decisionStage_link (d : Decision) (s : State) : (decisionStage d s).2.link = s.link := by
  have check (c : Prop) [Decidable c] (a b : Decision) : (if c then (a, s) else (b, s)).2.link = s.link := by
    split <;> rfl
  unfold decisionStage
  split
  · exact stageWatch_link d s
  · exact stageLookup_link d s
  · exact stageUnknown_link d s
  · exact check _ _ _
  · exact check _ _ _
  · exact check _ _ _
  · exact check _ _ _
  · exact stageHold_link d s
  · exact stageFare_link d _ _ s
  · exact stageWrite_link d _ s
  · rfl

theorem State.endDecision_stays (s : State) (d : Decision) : s.LinkStays (s.endDecision d) := by
  simp only [State.endDecision]
  refine .trans ?_ (State.engineDone_stays _)
  split <;> exact .of_rest

/-- The stages of a decision, by induction on how many are run: each leaves the engine with no host request. -/
theorem runDecision_stays (n : Nat) (d : Decision) (s : State) : s.LinkStays (runDecision n d s) := by
  induction n generalizing d s with
  | zero => exact .refl s
  | succ n ih =>
    unfold runDecision
    split
    · exact s.endDecision_stays d
    · have staged : s.LinkStays { (decisionStage d s).2 with engine := .deciding (decisionStage d s).1 } :=
        .of_engine (decisionStage_link d s) rfl
      exact staged.trans (ih _ _)

/-- The stages of a commit do not reach the link. -/
theorem commitStage_link (c : Commit) (s : State) : (commitStage c s).2.link = s.link := by
  unfold commitStage
  split
  · exact s.commitOfCount_link _ _
  · simp only [stageRead]
    split
    · next e =>
      split
      · exact State.link_of_portRead e
      · exact (State.raise_link _ _ _).trans (State.link_of_portRead e)
    · next e => exact (State.raise_link _ _ _).trans (State.link_of_portRead e)
    · next e => exact (State.raise_link _ _ _).trans (State.link_of_portRead e)
  · simp only [stageCharge]
    split <;> rfl
  · exact s.writeRecord_link _ _
  · rfl

theorem State.endCommit_stays (s : State) (c : Commit) : s.LinkStays (s.endCommit c) := by
  simp only [State.endCommit]
  refine .trans ?_ (State.engineDone_stays _)
  split <;> exact .of_rest

theorem runCommit_stays (n : Nat) (c : Commit) (s : State) : s.LinkStays (runCommit n c s) := by
  induction n generalizing c s with
  | zero => exact .refl s
  | succ n ih =>
    unfold runCommit
    split
    · exact s.endCommit_stays c
    · have staged : s.LinkStays { (commitStage c s).2 with engine := .committing (commitStage c s).1 } :=
        .of_engine (commitStage_link c s) rfl
      exact staged.trans (ih _ _)

end Sys2Proof.Machine
end

section
namespace Sys2Proof.Machine

/-! ### Every command keeps the link within its ranges -/

/-- Where a command leaves a state, its link is within its ranges. -/
def KeepsLinkLegal (r : Result) : Prop := ∀ t, r = .next t → t.LinkLegal

theorem KeepsLinkLegal.next {t : State} (h : t.LinkLegal) : KeepsLinkLegal (.next t) := fun u e => by
  cases e
  exact h

/-- A command that leaves the link alone. -/
theorem KeepsLinkLegal.stays {s t : State} (h : s.LinkLegal) (stays : s.LinkStays t) : KeepsLinkLegal (.next t) :=
  .next (stays.linkLegal h)

theorem KeepsLinkLegal.direct {s : State} (h : s.LinkLegal) (c : Cmd) (ws : List Word) :
    KeepsLinkLegal (.next (s.hostDirect c (owner c ws))) := .next (h.hostDirect c ws)

theorem KeepsLinkLegal.engine {s : State} (h : s.LinkLegal) (c : Cmd) (p : Progress) :
    KeepsLinkLegal (.next (s.runHost c (server c) p)) := .next (h.runHost c p)

section
variable {s : State} (h : s.LinkLegal)
include h

theorem execPassageTimerExpiry_linkLegal (l : Lane) : KeepsLinkLegal (execPassageTimerExpiry l s) := by
  unfold execPassageTimerExpiry
  split
  · exact .stays h .of_rest
  · exact .next h

theorem execFrameDiscard_linkLegal (l : Lane) (bytes : List RxByte) : KeepsLinkLegal (execFrameDiscard l bytes s) := by
  simp only [execFrameDiscard, State.raiseLaneFaults_eq]
  split
  · exact .stays h (.of_rest rfl rfl)
  · exact .next h

theorem execFrameTimeout_linkLegal (l : Lane) (bytes : List RxByte) : KeepsLinkLegal (execFrameTimeout l bytes s) := by
  simp only [execFrameTimeout]
  split
  · exact .stays h .of_rest
  · exact .next h

theorem execFrameSent_linkLegal (l : Lane) : KeepsLinkLegal (execFrameSent l s) := by
  unfold execFrameSent
  split
  · exact .next h
  · exact .stays h .of_rest

theorem execTransferBegin_linkLegal : KeepsLinkLegal (execTransferBegin s) := by
  unfold execTransferBegin
  split <;> exact .next h

theorem execTransferComplete_linkLegal (kind : Byte) (w : Word) : KeepsLinkLegal (execTransferComplete kind w s) := by
  obtain ⟨link, fits⟩ := s.linkLegal_iff.1 h
  unfold execTransferComplete
  split
  · exact .next h
  · next x _ =>
    refine .next (State.OutcomeFits.takeWord (s := s.withLink ⟨_, none⟩) fits ?_ _ w)
    split
    · exact link.dropCarried none
    · exact .inl link

theorem execTapDecision_linkLegal (p : Progress) : KeepsLinkLegal (execTapDecision p s) := by
  unfold execTapDecision
  split
  · exact .stays h (runDecision_stays _ _ s)
  · exact .next h

theorem execCommit_linkLegal (p : Progress) : KeepsLinkLegal (execCommit p s) := by
  unfold execCommit
  split
  · exact .stays h (runCommit_stays _ _ s)
  · exact .next h

theorem execClearing_linkLegal (p : Progress) : KeepsLinkLegal (execClearing p s) := by
  unfold execClearing
  split
  · exact .stays h (.of_engine rfl rfl)
  · exact .next h

theorem execClearingComplete_linkLegal : KeepsLinkLegal (execClearingComplete s) := by
  unfold execClearingComplete
  split
  · split
    · have serving : s.LinkStays { s with service := .serving } := .of_rest rfl rfl
      exact .stays h (serving.trans (State.engineDone_stays _))
    · exact .next h
  · exact .next h

theorem execWarmReset_linkLegal : KeepsLinkLegal (execWarmReset s) := by
  unfold execWarmReset
  split
  · exact .next h
  · exact .next (State.warmReset_linkLegal _)

theorem execSlotDecay_linkLegal (slot : Nat) (words : Vector Word 16) :
    KeepsLinkLegal (execSlotDecay slot words s) := by
  unfold execSlotDecay
  split
  · exact .stays h (.of_rest rfl rfl)
  · intro t e
    cases e

/-- A command takes a word of the host, serves an ENGINE command, resets the link or leaves it alone. -/
theorem exec_linkLegal (i : Instr) : KeepsLinkLegal (exec i s) := by
  cases i with
  | coldReset => exact .next (State.linkLegal_of_reset rfl rfl)
  | warmReset => exact execWarmReset_linkLegal h
  | resetLineRelease => exact .stays h (.of_rest rfl rfl)
  | slotDecay slot words => exact execSlotDecay_linkLegal h slot words
  | secondEvent => exact .stays h s.secondEvent_stays
  | minuteEvent => exact .stays h s.minuteEvent_stays
  | passageTimerExpiry l => exact execPassageTimerExpiry_linkLegal h l
  | tap l card => exact .stays h (s.takeFrame_stays l _ fun t => t.takeTap_stays l card)
  | passed l => exact .stays h (s.takeFrame_stays l _ fun t => t.takePassed_stays l)
  | walkaway l => exact .stays h (s.takeFrame_stays l _ fun t => t.takeWalkaway_stays l)
  | cancel l => exact .stays h (s.takeFrame_stays l _ fun t => t.takeCancel_stays l)
  | frameDiscard l bytes => exact execFrameDiscard_linkLegal h l bytes
  | frameTimeout l bytes => exact execFrameTimeout_linkLegal h l bytes
  | frameSent l => exact execFrameSent_linkLegal h l
  | transferBegin => exact execTransferBegin_linkLegal h
  | transferComplete kind w => exact execTransferComplete_linkLegal h kind w
  | transferVoid => exact .next h
  | tapDecision p => exact execTapDecision_linkLegal h p
  | commit p => exact execCommit_linkLegal h p
  | clearing p => exact execClearing_linkLegal h p
  | clearingComplete => exact execClearingComplete_linkLegal h
  | nop | identify | resume | halt | continueService | keep | restart | clockRead | berthRead | pollLanes
  | attentionRead => exact .direct h _ []
  | setTime a | newDay a | departureOpen a | departureClose a | departureRetire a | laneOpen a | laneClose a
  | laneRead a | arbiterMode a | setBottom a | attentionAck a | attentionMask a => exact .direct h _ [a]
  | start a b | setDay a b | departureLink a b | departureRead a b | berthSetCurrent a b =>
    exact .direct h _ [a, b]
  | departureSetCapacity d c m => exact .direct h _ [d, c, m]
  | laneSet l b k c t => exact .direct h _ [l, b, k, c, t]
  | departureDefine d b r t c m f a => exact .direct h _ [d, b, r, t, c, m, f, a]
  | cardAdd p | cardFind p | addValue p | setBalance p | settle p | setProduct p | deny p | allow p | cardRetire p
  | enforce p | tableSeek p | tableRead p | tableWrite p | fareSetBase p | fareSetBand p | fareSetClass p
  | fareSetPolicy p | fareRead p | watchSet p | watchClear p | watchRead p | sweepNext p => exact .engine h _ p

end

/-- Settles O58, command by command. -/
theorem stepKeepsLinkLegal : Obligations.StepKeepsLinkLegal := by
  unfold Obligations.StepKeepsLinkLegal
  intro s t h stepped
  unfold step at stepped
  split at stepped
  · cases stepped
    exact h
  · next c rest _ =>
    have fetched : State.LinkLegal { s with pending := rest } := h
    exact exec_linkLegal fetched c t stepped

end Sys2Proof.Machine
end

section
namespace Sys2Proof.Machine

/-! ### The attention unit's own law (R172 to R174) -/

/-- A cause as the unit keeps it: pending exactly when it counts, at most 255, and with a zero subject when clear. -/
def CauseRecord.Sound (r : CauseRecord) : Prop :=
  (r.pending = true ↔ 0 < r.count) ∧ r.count ≤ 255 ∧ (r.count = 0 → r.subject = (0, 0))

theorem CauseRecord.cleared_sound : CauseRecord.cleared.Sound := by simp [CauseRecord.Sound, CauseRecord.cleared]

/-- One occurrence more, its count held at 255 (R173). -/
theorem CauseRecord.occurred_sound (n : Nat) (x : Subject) : CauseRecord.Sound ⟨true, min (n + 1) 255, x⟩ := by
  refine ⟨by simp, by simp, fun none => ?_⟩
  simp at none

namespace Attention
variable {a : Attention}

/-- With the line judged, the law is one of its causes alone (R174). -/
theorem judged_consistent (h : ∀ n : Fin 11, (a.causes[n]).Sound) : a.judged.Consistent :=
  ⟨h, lineAsserted_iff _ _⟩

theorem reset_consistent : Attention.reset.Consistent := by
  unfold Attention.Consistent
  decide

theorem Consistent.occur (h : a.Consistent) (c : Cause) (x : Subject) : (a.occur c x).Consistent := by
  refine judged_consistent fun n => show ((a.occur c x).causes[n]).Sound from ?_
  rw [Attention.occur_cause]
  split
  · exact CauseRecord.occurred_sound _ x
  · exact h.1 n

theorem Consistent.occurs (h : a.Consistent) (c : Cause) (x : Subject) (n : Nat) : (a.occurs c x n).Consistent :=
  Function.Iterate.rec (motive := Attention.Consistent) h (fun _ kept => kept.occur c x) n

/-- What acknowledgement leaves of each cause: cleared where the set names it (R177). -/
theorem acknowledge_cause (a : Attention) (set : BitVec 11) (n : Fin 11) :
    (a.acknowledge set).causes[n] = if set.getLsbD n.val then CauseRecord.cleared else a.causes[n] := by
  simp [Attention.acknowledge]

theorem Consistent.acknowledge (h : a.Consistent) (set : BitVec 11) : (a.acknowledge set).Consistent := by
  refine judged_consistent fun n => show ((a.acknowledge set).causes[n]).Sound from ?_
  rw [Attention.acknowledge_cause]
  split
  · exact CauseRecord.cleared_sound
  · exact h.1 n

/-- The mask bears on the line alone (R178). -/
theorem Consistent.masked (h : a.Consistent) (mask : BitVec 11) :
    (Attention.judged { a with mask := mask }).Consistent := judged_consistent h.1

end Attention
end Sys2Proof.Machine
end

section
namespace Sys2Proof.Machine

/-! ### What keeps the attention unit's law (R172 to R174) -/

/-- A change that keeps the law of the attention unit. -/
def State.Attends (s t : State) : Prop := s.attention.Consistent → t.attention.Consistent

namespace State.Attends

@[refl] theorem refl (s : State) : s.Attends s := id

@[trans] theorem trans {s t u : State} (a : s.Attends t) (b : t.Attends u) : s.Attends u := b ∘ a

/-- A change of other blocks alone. -/
theorem of_same {s t : State} (h : t.attention = s.attention) : s.Attends t := fun c => h ▸ c

/-- A reset of the unit, or START (R186, R187, R189). -/
theorem of_reset {s t : State} (h : t.attention = Attention.reset) : s.Attends t :=
  fun _ => h ▸ Attention.reset_consistent

theorem foldl {α : Type} (f : State → α → State) (hf : ∀ (s : State) a, s.Attends (f s a)) (as : List α)
    (s : State) : s.Attends (as.foldl f s) := by
  induction as generalizing s with
  | nil => exact .refl s
  | cons a as ih => exact (hf s a).trans (ih _)

end State.Attends

namespace State

theorem raise_attends (s : State) (c : Cause) (x : Subject) : s.Attends (s.raise c x) := fun h => h.occur c x

theorem raiseLaneFaults_attends (s : State) (l : Lane) (n : Nat) : s.Attends (s.raiseLaneFaults l n) := fun h => by
  rw [s.raiseLaneFaults_attention]
  exact h.occurs _ _ n

theorem send_attends (s : State) (l : Lane) (m : Message) : s.Attends (s.send l m) := by
  rcases s.send_cases l m with ⟨_, e⟩ | ⟨_, e⟩ <;> rw [e]
  · exact .of_same (by simp)
  · exact s.raise_attends _ _

theorem changeDep_attends (s : State) (d : DepIx) (r : Departure) : s.Attends (s.changeDep d r) := fun h => by
  rw [s.changeDep_eq]
  exact (h.occurs _ _ _).occurs _ _ _

/-- A release raises no event (R88). -/
theorem release_attends (s : State) (d : DepIx) : s.Attends (s.release d) := by
  rw [s.release_eq]
  exact .of_same (by simp)

theorem checkHalted_attends (s : State) : s.Attends s.checkHalted := .of_same (by simp)

theorem laneRest_attends (s : State) (l : Lane) : s.Attends (s.laneRest l) := by
  rw [s.laneRest_eq]
  exact .trans (t := s.setLane l (s.lane l).rested) (.of_same (by simp))
    ((raiseLaneFaults_attends _ l _).trans (checkHalted_attends _))

theorem endUnpassed_attends (s : State) (l : Lane) (a : Answered) (e : Bool) : s.Attends (s.endUnpassed l a e) :=
  fun h => by
    obtain ⟨_, _, _, attention, _⟩ := s.endUnpassed_ended l a e
    exact attention ▸ h.occurs _ _ _

theorem withdrawTap_attends (s : State) (l : Lane) (r : Reason) (next : LaneState) :
    s.Attends (s.withdrawTap l r next) := .trans (.of_same (by simp)) (send_attends _ l _)

theorem endRefused_attends (s : State) (l : Lane) (r : Reason) (f : FareFields) : s.Attends (s.endRefused l r f) :=
  (s.send_attends l _).trans (laneRest_attends _ l)

theorem holdRequest_attends (s : State) (b : Berth) : s.Attends (s.holdRequest b).2 := by
  rw [s.holdRequest_eq]
  split
  · exact fun h => ((h.occurs _ _ _).occurs _ _ _).occurs _ _ _
  · exact .refl s
  · exact .refl s

theorem portRead_attends (s : State) (slot : Nat) : s.Attends (s.portRead slot).2 := by
  rcases s.portRead_cases slot with ⟨_, e⟩ | ⟨_, e⟩ <;> rw [e]
  exact s.raise_attends _ _

theorem lookup_attends (s : State) (card : CardNumber) : s.Attends (s.lookup card).2 := by
  rcases s.lookup_cases card with ⟨_, _, e⟩ | ⟨_, e⟩ <;> rw [e]
  exact s.raise_attends _ _

theorem attends_of_portRead {s t : State} {slot : Nat} {v : SlotVerdict} (h : s.portRead slot = (v, t)) :
    s.Attends t := by
  simpa [h] using s.portRead_attends slot

theorem attends_of_lookup {s t : State} {card : CardNumber} {result : LookupResult}
    (h : s.lookup card = (result, t)) : s.Attends t := by
  simpa [h] using s.lookup_attends card

theorem raiseStartFaults_attends (s before : State) : s.Attends (s.raiseStartFaults before) := by
  unfold State.raiseStartFaults
  split
  · exact .trans (t := { s with freeCount := s.freeCount + 1 }) (.of_same rfl)
      (.foldl _ (fun t l => t.raise_attends _ _) _ _)
  · exact .refl s

theorem haltNotice_attends (s : State) : s.Attends s.haltNotice := by
  refine .trans (t := (s.portOrder _).2) (.of_same (by simp)) (.foldl State.haltLane (fun t l => ?_) _ _)
  unfold State.haltLane
  split
  · exact t.withdrawTap_attends l _ _
  · exact .refl t

/-! ### The clock (R72 to R74) -/

theorem minuteEvent_attends (s : State) : s.Attends s.minuteEvent := fun h => by
  rw [s.minuteEvent_eq]
  exact h.occurs _ _ _

theorem countSecond_attends (s : State) : s.Attends s.countSecond := fun h => by
  rw [s.countSecond_eq]
  exact h.occurs _ _ _

theorem setClock_attends (s : State) (day minute : Nat) : s.Attends (s.setClock day minute) := by
  simp only [State.setClock]
  split
  · exact .trans (.of_same rfl) (raise_attends _ _ _)
  · exact .of_same rfl

end State
end Sys2Proof.Machine
end

section
namespace Sys2Proof.Machine

/-! ### ENGINE commands and the attention unit (R153) -/

/-- What a command does with the record that its lookup found raises nothing. -/
theorem onFound_attention (k : Cmd) (ws : List Word) (slot : Nat) (r : CardRecord) (s : State) :
    (onFound k ws slot r s).1.attention = s.attention := by
  simp only [onFound]
  split
  · rfl
  · split
    · rfl
    · exact s.writeRecord_attention slot _
  · exact s.writeRecord_attention slot _
  · split
    · rfl
    · exact s.writeRecord_attention slot _
  · exact s.writeRecord_attention slot _
  · exact s.writeRecord_attention slot _
  · exact s.writeRecord_attention slot _
  · split
    · rfl
    · exact s.portWrite_attention slot _
  · rfl

theorem State.onCard_attends (s : State) (card : CardNumber) {f : Nat → CardRecord → State → State × Answer}
    (h : ∀ slot r (t : State), t.Attends (f slot r t).1) : s.Attends (s.onCard card f).1 := by
  unfold State.onCard
  split
  · next e => exact State.attends_of_lookup e
  · next e => exact State.attends_of_lookup e
  · next e => exact (State.attends_of_lookup e).trans (h _ _ _)

theorem serveCardAdd_attends (ws : List Word) (s : State) : s.Attends (serveCardAdd ws s).1 := by
  unfold serveCardAdd
  split
  · exact .refl s
  · split
    · next e => exact State.attends_of_lookup e
    · next e => exact State.attends_of_lookup e
    · next e => exact (State.attends_of_lookup e).trans (State.raise_attends _ _ _)
    · next e => exact (State.attends_of_lookup e).trans (.of_same (State.writeRecord_attention _ _ _))

theorem serveTableRead_attends (ws : List Word) (s : State) : s.Attends (serveTableRead ws s).1 := by
  unfold serveTableRead
  split <;> next e => exact (State.attends_of_portRead e).trans (.of_same rfl)

theorem State.writeAtCursor_attends (s : State) (content : Vector Word 15) : s.Attends (s.writeAtCursor content).1 := by
  unfold State.writeAtCursor
  split <;> exact .of_same rfl

theorem serveTableWrite_attends (ws : List Word) (s : State) : s.Attends (serveTableWrite ws s).1 := by
  simp only [serveTableWrite]
  split
  · exact s.writeAtCursor_attends _
  · split
    · split
      · exact .refl s
      · split
        · split
          · exact .refl s
          · exact s.raise_attends _ _
          · exact s.writeAtCursor_attends _
        · exact .refl s
    · exact .refl s

theorem State.setSweepCursor_attends (s : State) (n : Nat) : s.Attends { s with sweepCursor := n } := .of_same rfl

theorem serveSweepNext_attends (ws : List Word) (s : State) : s.Attends (serveSweepNext ws s).1 := by
  unfold serveSweepNext
  split
  · next slot r _ =>
    have written : s.Attends (s.writeRecord slot { r with changed := false }) := .of_same (by simp)
    exact written.trans (State.setSweepCursor_attends _ _)
  · exact (s.raise_attends _ _).trans (State.setSweepCursor_attends _ _)
  · exact s.setSweepCursor_attends _

/-- Only a lookup, a slot read and a sweep raise events; the other commands write the settings or answer them. -/
theorem server_attends (c : Cmd) (ws : List Word) (s : State) : s.Attends (server c ws s).1 := by
  by_cases named : c ∈ cardCommands
  · rw [server_onCard named]
    split
    · exact s.onCard_attends _ fun slot r t => .of_same (onFound_attention c ws slot r t)
    · exact .refl s
  cases c with
  | cardFind | addValue | setBalance | settle | setProduct | deny | allow | cardRetire => exact absurd (by decide) named
  | cardAdd => exact serveCardAdd_attends ws s
  | tableRead => exact serveTableRead_attends ws s
  | tableWrite => exact serveTableWrite_attends ws s
  | sweepNext => exact serveSweepNext_attends ws s
  | enforce | tableSeek | fareRead | watchSet | watchClear | fareSetBase | fareSetBand | fareSetClass | fareSetPolicy =>
    simp only [server, serveEnforce, serveTableSeek, serveFareRead, serveWatchSet, serveWatchClear, serveFareSetBase,
      serveFareSetBand, serveFareSetClass, serveFareSetPolicy]
    repeat' split
    all_goals exact .of_same rfl
  | _ => exact .refl s

/-- The row of an ENGINE command. -/
theorem State.runHost_attends (s : State) (c : Cmd) (p : Progress) : s.Attends (s.runHost c (server c) p) := by
  unfold State.runHost
  split
  · next h _ =>
    split
    · have served := server_attends c h.words s
      rcases s.hostStages_cases h (server c) (stageCount 2 p) with
        ⟨_, e⟩ | ⟨a, _, _, e⟩ | ⟨_, _, e⟩ | ⟨_, _, e⟩ <;> rw [e]
      · exact .of_same (by simp)
      · exact served.trans (.of_same rfl)
      · exact served.trans (.of_same (State.handOver_attention _ _))
    · exact .refl s
  · exact .refl s

/-! ### Messages of the gates and second events (R72, R108 to R113, R126) -/

namespace State

theorem takeTap_attends (s : State) (l : Lane) (card : CardNumber) : s.Attends (s.takeTap l card) := by
  simp only [State.takeTap]
  split
  · exact s.send_attends l _
  · refine .trans (t := s.setLane l { s.lane l with expiredLast := false }) (.of_same (by simp)) ?_
    split
    · exact send_attends _ l _
    · split
      · exact .of_same (by simp [State.placeTap])
      · exact send_attends _ l _
  · split <;> exact s.send_attends l _

theorem takePassed_attends (s : State) (l : Lane) : s.Attends (s.takePassed l) := by
  have late : s.Attends (if (s.lane l).expiredLast then
      ((s.setLane l { s.lane l with expiredLast := false }).send l (.passageAnswer .late)).raise .latePassage
        (numberSubject l.val) else s.send l (.passageAnswer .notExpected)) := by
    split
    · exact .trans (.trans (.of_same (by simp)) (send_attends _ l _)) (raise_attends _ _ _)
    · exact s.send_attends l _
  simp only [State.takePassed]
  split
  · exact .of_same (by simp)
  · exact late
  · exact late
  · exact s.send_attends l _

theorem takeWalkaway_attends (s : State) (l : Lane) : s.Attends (s.takeWalkaway l) := by
  unfold State.takeWalkaway
  split
  · exact s.endUnpassed_attends l _ _
  · exact s.send_attends l _

theorem takeCancel_attends (s : State) (l : Lane) : s.Attends (s.takeCancel l) := by
  simp only [State.takeCancel]
  split
  · exact s.withdrawTap_attends l _ _
  · exact .of_same (by simp)
  · exact s.endUnpassed_attends l _ _
  · exact .refl s

theorem takeFrame_attends (s : State) (l : Lane) (m : GateMessage) {take : State → State}
    (h : ∀ t : State, t.Attends (take t)) : s.Attends (s.takeFrame l m take) := by
  rcases s.takeFrame_cases l m take with ⟨_, e⟩ | ⟨_, e⟩ <;> rw [e]
  exact .trans (t := s.endFrame l) (.of_same (by simp)) (h _)

theorem tickLane_attends (s : State) (l : Lane) : s.Attends (s.tickLane l) := by
  have timer : s.Attends (s.tickTimer l) := by
    rcases s.tickTimer_cases l with ⟨_, e⟩ | ⟨_, _, e⟩ | ⟨_, _, e⟩ <;> rw [e]
    · exact .trans (.of_same (by simp)) (endUnpassed_attends _ l _ _)
    · exact .of_same (by simp)
  refine timer.trans ?_
  rcases (s.tickTimer l).tickFrame_cases l with ⟨_, e⟩ | ⟨_, e⟩ <;> rw [State.tickLane, e]
  · exact .trans (t := (s.tickTimer l).endFrame l) (.of_same (by simp)) (raise_attends _ _ _)
  · exact .of_same (by simp)

theorem secondEvent_attends (s : State) : s.Attends s.secondEvent := by
  have ticked (n : Nat) : s.Attends ((s.portOrder n).1.foldl State.tickLane (s.portOrder n).2) :=
    .trans (t := (s.portOrder n).2) (.of_same (by simp)) (.foldl State.tickLane tickLane_attends _ _)
  exact (ticked _).trans (countSecond_attends _)

end State
end Sys2Proof.Machine
end

section
namespace Sys2Proof.Machine

/-! ### DIRECT commands and the attention unit (R165, R177, R178, R187, R189) -/

theorem State.warmReset_attends (s : State) : s.Attends s.warmReset := by
  unfold State.warmReset
  split <;> exact .of_reset rfl

theorem ownStart_attends (k p : Word) (s : State) : s.Attends (ownStart k p s).1 := by
  unfold ownStart
  split
  · exact .refl s
  · exact .refl s
  · exact .refl s
  · split
    · have cleared (g : Geometry) : s.Attends (s.started g) := .of_reset rfl
      exact (cleared _).trans ((State.raiseStartFaults_attends _ s).trans (.of_same (State.settle_attention _)))
    · exact .refl s

theorem ownHalt_attends (s : State) : s.Attends (ownHalt s).1 := by
  unfold ownHalt
  split
  case h_6 => exact s.haltNotice_attends.trans (.of_same rfl)
  all_goals exact .refl s

theorem ownDepartureSetCapacity_attends (d c m : Word) (s : State) :
    s.Attends (ownDepartureSetCapacity d c m s).1 := by
  simp only [ownDepartureSetCapacity]
  split
  · exact .refl s
  · split
    · split
      · split
        · exact s.changeDep_attends _ _
        · exact .refl s
      · exact .refl s
    · exact .refl s

theorem ownLaneOpen_attends (l : Word) (s : State) : s.Attends (ownLaneOpen l s).1 := by
  unfold ownLaneOpen
  split
  · exact .refl s
  · simp only
    split
    · exact .refl s
    · exact .trans (.of_same (by simp)) (State.send_attends _ _ _)

theorem ownLaneClose_attends (l : Word) (s : State) : s.Attends (ownLaneClose l s).1 := by
  unfold ownLaneClose
  split
  · exact .refl s
  · simp only
    split
    · exact .refl s
    · exact .trans (.of_same (by simp)) (State.send_attends _ _ _)
    · exact (s.withdrawTap_attends _ _ _).trans (State.send_attends _ _ _)
    · exact .of_same rfl

/-- The owners that queue messages or change remaining raise events, START and RESTART reset the unit, ACK and MASK
write it; the others leave it alone. -/
theorem owner_attends (c : Cmd) (ws : List Word) (s : State) : s.Attends (owner c ws s).1 := by
  cases c with
  | start => exact ownStart_attends _ _ s
  | restart => exact s.warmReset_attends
  | halt => exact ownHalt_attends s
  | departureSetCapacity => exact ownDepartureSetCapacity_attends _ _ _ s
  | laneOpen => exact ownLaneOpen_attends _ s
  | laneClose => exact ownLaneClose_attends _ s
  | setTime | newDay | setDay =>
    simp only [owner, ownSetTime, ownNewDay, ownSetDay]
    split
    · exact s.setClock_attends _ _
    · exact .refl s
  | attentionAck =>
    simp only [owner, ownAttentionAck]
    split
    · exact fun h => h.acknowledge _
    · exact .refl s
  | attentionMask =>
    simp only [owner, ownAttentionMask]
    split
    · exact fun h => h.masked _
    · exact .refl s
  | resume | continueService | keep | departureDefine | departureOpen | departureClose | departureLink | departureRead
  | departureRetire | berthSetCurrent | laneSet | laneRead | arbiterMode | setBottom =>
    simp only [owner, ownResume, ownContinue, ownKeep, ownDepartureDefine, ownDepartureOpen, ownDepartureClose,
      ownDepartureLink, ownDepartureRead, ownDepartureRetire, ownBerthSetCurrent, ownLaneSet, ownLaneRead,
      ownArbiterMode, ownSetBottom]
    repeat' split
    all_goals exact .of_same rfl
  | _ => exact .refl s

/-! ### The station link and the attention unit (R159 to R167) -/

namespace State

theorem direct_attends (s : State) (c : Cmd) (ws : List Word) : s.Attends (s.direct c (owner c ws)) := by
  have owned := owner_attends c ws s
  rcases s.direct_cases c (owner c ws) with ⟨code, _, e⟩ | ⟨_, ⟨t, a, ho, e⟩ | ⟨t, ho, e⟩⟩ <;> rw [e]
  · exact .of_same (by simp)
  · rw [ho] at owned
    exact owned.trans (.of_same (t.answerLink_attention a))
  · rwa [ho] at owned

/-- The row of a DIRECT command. -/
theorem hostDirect_attends (s : State) (c : Cmd) (ws : List Word) : s.Attends (s.hostDirect c (owner c ws)) := by
  rcases s.hostDirect_cases c (owner c ws) with ⟨_, e⟩ | ⟨_, e⟩ | ⟨_, e⟩ <;> rw [e]
  · exact .trans (t := s.withLink ⟨s.link.phase, none⟩) (.of_same rfl) (direct_attends _ c ws)
  · exact .of_same rfl
  · exact .of_same rfl

theorem dispatch_attends (s : State) (c : Cmd) (ws : List Word) : s.Attends (s.dispatch c ws) := by
  unfold State.dispatch
  split
  · unfold State.request
    split <;> exact .of_same (by simp)
  · exact s.direct_attends c ws

theorem beginCommand_attends (s : State) (w : Word) : s.Attends (s.beginCommand w) := by
  unfold State.beginCommand
  split
  · exact .of_same rfl
  · split
    · exact s.dispatch_attends _ _
    · exact .of_same rfl

theorem wordReady_attends (s : State) (k : Kind) (w : Word) : s.Attends (s.wordReady k w) := by
  unfold State.wordReady
  split
  · exact s.beginCommand_attends w
  · exact .of_same rfl
  · exact .of_same rfl

theorem wordCollecting_attends (s : State) (c : Cmd) (n : Nat) (ws : List Word) (k : Kind) (w : Word) :
    s.Attends (s.wordCollecting c n ws k w) := by
  cases k with
  | operand =>
    simp only [State.wordCollecting]
    split
    · exact s.dispatch_attends _ _
    · exact .of_same rfl
  | idle | command | abort | other => exact .of_same rfl

theorem wordExecuting_attends (s : State) (c : Cmd) (ws : List Word) (late : Bool) (k : Kind) :
    s.Attends (s.wordExecuting c ws late k) := by
  unfold State.wordExecuting
  split
  · split <;> exact .of_same rfl
  · exact .refl s

theorem wordResults_attends (s : State) (left : List Entry) (k : Kind) (w : Word) :
    s.Attends (s.wordResults left k w) := by
  unfold State.wordResults
  split
  · exact s.beginCommand_attends w
  · exact .of_same rfl
  · split
    · exact .trans (t := s.setPhase .ready) (.of_same (by simp)) (wordReady_attends _ _ w)
    · exact .refl s
  · split <;> exact .of_same rfl

theorem takeWord_attends (s : State) (k : Kind) (w : Word) : s.Attends (s.takeWord k w) := by
  unfold State.takeWord
  split
  · exact s.wordReady_attends k w
  · exact s.wordCollecting_attends _ _ _ k w
  · exact s.wordExecuting_attends _ _ _ k
  · exact s.wordResults_attends _ k w

end State
end Sys2Proof.Machine
end

section
namespace Sys2Proof.Machine

/-! ### Decisions and commits and the attention unit (R137 to R145, R150 to R152) -/

theorem stageWatch_attends (d : Decision) (s : State) : s.Attends (stageWatch d s).2 := by
  unfold stageWatch
  split
  · exact .refl s
  · simp only
    split <;> exact s.raise_attends _ _

theorem stageLookup_attends (d : Decision) (s : State) : s.Attends (stageLookup d s).2 := by
  unfold stageLookup
  split <;> next e => exact State.attends_of_lookup e

theorem stageUnknown_attends (d : Decision) (s : State) : s.Attends (stageUnknown d s).2 := by
  unfold stageUnknown
  split
  · exact .refl s
  · split
    · exact .refl s
    · exact s.raise_attends _ _

theorem stageHold_attends (d : Decision) (s : State) : s.Attends (stageHold d s).2 := by
  have held := s.holdRequest_attends (s.lane d.lane).berth
  unfold stageHold
  split <;> next e => rwa [e] at held

theorem stageFare_attends (d : Decision) (r : CardRecord) (h : Hold) (s : State) : s.Attends (stageFare d r h s).2 := by
  simp only [stageFare]
  split
  · exact .of_same (by simp)
  · exact s.release_attends _

theorem stageWrite_attends (d : Decision) (r : CardRecord) (s : State) : s.Attends (stageWrite d r s).2 := by
  unfold stageWrite
  split
  · exact .of_same (s.writeRecord_attention _ _)
  · exact .refl s

/-- A decision's stages raise the events of the watch, the lookup, the unknown card and the hold. -/
theorem decisionStage_attends (d : Decision) (s : State) : s.Attends (decisionStage d s).2 := by
  have check (c : Prop) [Decidable c] (a b : Decision) : s.Attends (if c then (a, s) else (b, s)).2 := by
    split <;> exact .refl s
  unfold decisionStage
  split
  · exact stageWatch_attends d s
  · exact stageLookup_attends d s
  · exact stageUnknown_attends d s
  · exact check _ _ _
  · exact check _ _ _
  · exact check _ _ _
  · exact check _ _ _
  · exact stageHold_attends d s
  · exact stageFare_attends d _ _ s
  · exact stageWrite_attends d _ s
  · exact .refl s

theorem State.endDecision_attends (s : State) (d : Decision) : s.Attends (s.endDecision d) := by
  have cleared : s.Attends (s.setLane d.lane { s.lane d.lane with tapped := none, cancelNoted := false }) :=
    .of_same (by simp)
  simp only [State.endDecision]
  refine .trans (cleared.trans ?_) (.of_same (State.engineDone_attention _))
  split
  · exact State.endRefused_attends _ _ _ _
  · exact State.endRefused_attends _ _ _ _
  · simp only [State.acceptOpen]
    split
    · exact .trans (.of_same (by simp)) (State.send_attends _ _ _)
    · exact .trans (.trans (.of_same (by simp)) (State.send_attends _ _ _))
        (.of_same (State.setCommitPending_attention _ _ _))
  · exact (State.endRefused_attends _ _ _ _).trans (State.release_attends _ _)
  · exact State.endRefused_attends _ _ _ _

theorem runDecision_attends (n : Nat) (d : Decision) (s : State) : s.Attends (runDecision n d s) := by
  induction n generalizing d s with
  | zero => exact .refl s
  | succ n ih =>
    unfold runDecision
    split
    · exact s.endDecision_attends d
    · have staged : s.Attends { (decisionStage d s).2 with engine := .deciding (decisionStage d s).1 } :=
        decisionStage_attends d s
      exact staged.trans (ih _ _)

/-- A commit's stages raise MEMORY FAULT, UNCHARGED PASSAGE and BALANCE CLAMPED. -/
theorem commitStage_attends (c : Commit) (s : State) : s.Attends (commitStage c s).2 := by
  unfold commitStage
  split
  · exact .of_same (s.commitOfCount_attention _ _)
  · simp only [stageRead]
    split
    · next e =>
      split
      · exact State.attends_of_portRead e
      · exact (State.attends_of_portRead e).trans (State.raise_attends _ _ _)
    · next e => exact (State.attends_of_portRead e).trans (State.raise_attends _ _ _)
    · next e => exact (State.attends_of_portRead e).trans (State.raise_attends _ _ _)
  · simp only [stageCharge]
    split
    · exact s.raise_attends _ _
    · exact .refl s
  · exact .of_same (s.writeRecord_attention _ _)
  · exact .refl s

theorem State.endCommit_attends (s : State) (c : Commit) : s.Attends (s.endCommit c) := by
  have cleared : s.Attends (s.setLane c.lane { s.lane c.lane with openVerdict := none }) := .of_same (by simp)
  simp only [State.endCommit]
  refine .trans (cleared.trans (.trans ?_ (State.laneRest_attends _ _))) (.of_same (State.engineDone_attention _))
  split
  · exact State.send_attends _ _ _
  · exact .refl _

theorem runCommit_attends (n : Nat) (c : Commit) (s : State) : s.Attends (runCommit n c s) := by
  induction n generalizing c s with
  | zero => exact .refl s
  | succ n ih =>
    unfold runCommit
    split
    · exact s.endCommit_attends c
    · have staged : s.Attends { (commitStage c s).2 with engine := .committing (commitStage c s).1 } :=
        commitStage_attends c s
      exact staged.trans (ih _ _)

end Sys2Proof.Machine
end

section
namespace Sys2Proof.Machine

/-! ### Every command keeps the attention unit's law -/

/-- What a command leaves, where it leaves a state, keeps the law of the attention unit. -/
def AttendsTo (s : State) (r : Result) : Prop := ∀ t, r = .next t → s.Attends t

theorem AttendsTo.next {s t : State} (h : s.Attends t) : AttendsTo s (.next t) := fun u e => by
  cases e
  exact h

theorem AttendsTo.direct (s : State) (c : Cmd) (ws : List Word) :
    AttendsTo s (.next (s.hostDirect c (owner c ws))) := .next (s.hostDirect_attends c ws)

theorem AttendsTo.engine (s : State) (c : Cmd) (p : Progress) : AttendsTo s (.next (s.runHost c (server c) p)) :=
  .next (s.runHost_attends c p)

section
variable (s : State)

theorem execPassageTimerExpiry_attends (l : Lane) : AttendsTo s (execPassageTimerExpiry l s) := by
  unfold execPassageTimerExpiry
  split
  · exact .next (s.endUnpassed_attends l _ _)
  · exact .next (.refl s)

theorem execFrameDiscard_attends (l : Lane) (bytes : List RxByte) : AttendsTo s (execFrameDiscard l bytes s) := by
  simp only [execFrameDiscard]
  split
  · exact .next (.trans (.of_same (by simp)) (State.raiseLaneFaults_attends _ l _))
  · exact .next (.refl s)

theorem execFrameTimeout_attends (l : Lane) (bytes : List RxByte) : AttendsTo s (execFrameTimeout l bytes s) := by
  simp only [execFrameTimeout]
  split
  · exact .next (.trans (t := s.endFrame l) (.of_same (by simp)) (State.raise_attends _ _ _))
  · exact .next (.refl s)

theorem execFrameSent_attends (l : Lane) : AttendsTo s (execFrameSent l s) := by
  unfold execFrameSent
  split
  · exact .next (.refl s)
  · exact .next (.of_same (by simp))

theorem execTransferBegin_attends : AttendsTo s (execTransferBegin s) := by
  unfold execTransferBegin
  split
  · exact .next (.refl s)
  · exact .next (.of_same rfl)

theorem execTransferComplete_attends (kind : Byte) (w : Word) : AttendsTo s (execTransferComplete kind w s) := by
  unfold execTransferComplete
  split
  · exact .next (.refl s)
  · exact .next (.trans (t := s.withLink ⟨_, none⟩) (.of_same rfl) (State.takeWord_attends _ _ w))

theorem execTapDecision_attends (p : Progress) : AttendsTo s (execTapDecision p s) := by
  unfold execTapDecision
  split
  · exact .next (runDecision_attends _ _ s)
  · exact .next (.refl s)

theorem execCommit_attends (p : Progress) : AttendsTo s (execCommit p s) := by
  unfold execCommit
  split
  · exact .next (runCommit_attends _ _ s)
  · exact .next (.refl s)

theorem execClearing_attends (p : Progress) : AttendsTo s (execClearing p s) := by
  unfold execClearing
  split
  · exact .next (.of_same rfl)
  · exact .next (.refl s)

theorem execClearingComplete_attends : AttendsTo s (execClearingComplete s) := by
  unfold execClearingComplete
  split
  · split
    · exact .next (.of_same (by simp))
    · exact .next (.refl s)
  · exact .next (.refl s)

theorem execWarmReset_attends : AttendsTo s (execWarmReset s) := by
  unfold execWarmReset
  split
  · exact .next (.refl s)
  · exact .next (State.warmReset_attends { s with resetLine := true })

theorem execSlotDecay_attends (slot : Nat) (words : Vector Word 16) : AttendsTo s (execSlotDecay slot words s) := by
  unfold execSlotDecay
  split
  · exact .next (.of_same rfl)
  · intro t e
    cases e

/-- A command raises events, resets the unit, acknowledges or masks causes, or leaves the unit alone. -/
theorem exec_attends (i : Instr) : AttendsTo s (exec i s) := by
  cases i with
  | coldReset => exact .next (.of_reset rfl)
  | warmReset => exact execWarmReset_attends s
  | resetLineRelease => exact .next (.of_same rfl)
  | slotDecay slot words => exact execSlotDecay_attends s slot words
  | secondEvent => exact .next s.secondEvent_attends
  | minuteEvent => exact .next s.minuteEvent_attends
  | passageTimerExpiry l => exact execPassageTimerExpiry_attends s l
  | tap l card => exact .next (s.takeFrame_attends l _ fun t => t.takeTap_attends l card)
  | passed l => exact .next (s.takeFrame_attends l _ fun t => t.takePassed_attends l)
  | walkaway l => exact .next (s.takeFrame_attends l _ fun t => t.takeWalkaway_attends l)
  | cancel l => exact .next (s.takeFrame_attends l _ fun t => t.takeCancel_attends l)
  | frameDiscard l bytes => exact execFrameDiscard_attends s l bytes
  | frameTimeout l bytes => exact execFrameTimeout_attends s l bytes
  | frameSent l => exact execFrameSent_attends s l
  | transferBegin => exact execTransferBegin_attends s
  | transferComplete kind w => exact execTransferComplete_attends s kind w
  | transferVoid => exact .next (.of_same rfl)
  | tapDecision p => exact execTapDecision_attends s p
  | commit p => exact execCommit_attends s p
  | clearing p => exact execClearing_attends s p
  | clearingComplete => exact execClearingComplete_attends s
  | nop | identify | resume | halt | continueService | keep | restart | clockRead | berthRead | pollLanes
  | attentionRead => exact .direct s _ []
  | setTime a | newDay a | departureOpen a | departureClose a | departureRetire a | laneOpen a | laneClose a
  | laneRead a | arbiterMode a | setBottom a | attentionAck a | attentionMask a => exact .direct s _ [a]
  | start a b | setDay a b | departureLink a b | departureRead a b | berthSetCurrent a b =>
    exact .direct s _ [a, b]
  | departureSetCapacity d c m => exact .direct s _ [d, c, m]
  | laneSet l b k c t => exact .direct s _ [l, b, k, c, t]
  | departureDefine d b r t c m f a => exact .direct s _ [d, b, r, t, c, m, f, a]
  | cardAdd p | cardFind p | addValue p | setBalance p | settle p | setProduct p | deny p | allow p | cardRetire p
  | enforce p | tableSeek p | tableRead p | tableWrite p | fareSetBase p | fareSetBand p | fareSetClass p
  | fareSetPolicy p | fareRead p | watchSet p | watchClear p | watchRead p | sweepNext p => exact .engine s _ p

end

/-- Settles O51, command by command. -/
theorem stepKeepsAttentionConsistent : Obligations.StepKeepsAttentionConsistent := by
  unfold Obligations.StepKeepsAttentionConsistent
  intro s t h stepped
  unfold step at stepped
  split at stepped
  · cases stepped
    exact h
  · next i rest _ => exact exec_attends { s with pending := rest } i t stepped h

end Sys2Proof.Machine
end

section
namespace Sys2Proof.Machine

/-! ### ATTENTION READ, ACK and MASK where they are taken (R175 to R178) -/

theorem pendingSetWord_bit (causes : Vector CauseRecord 11) (n : Fin 16) :
    (pendingSetWord causes).getLsbD n.val = true ↔ ∃ m : Fin 11, m.val = n.val ∧ (causes[m]).pending = true := by
  rw [pendingSetWord, word, BitVec.getLsbD_ofNat, ← (foldl_two_pow 11 fun m => (causes[m]).pending).2]
  simp [n.isLt]

/-- An operand word names the cause of each of its low eleven bits (11.2). -/
theorem causeSet_bit (w : Word) (n : Fin 11) : (w.setWidth 11).getLsbD n.val = w.getLsbD n.val := by
  simp

/-- The words of ATTENTION READ are two and three for each cause (R176). -/
theorem ownAttentionRead_counted (s : State) : ownAttentionRead s = (s, some (.done
    (pendingSetWord s.attention.causes :: s.attention.mask.setWidth 16 ::
      (List.finRange 11).flatMap fun n => causeWords s.attention.causes[n]) 35)) := by
  simp [ownAttentionRead, State.reply, Answer.counted, causeWords, List.length_flatMap, word]

/-- Settles O21: each command by its owner's check of the cause set, and what ACK leaves cause by cause. -/
theorem attentionCommanded : Obligations.AttentionCommanded := by
  unfold Obligations.AttentionCommanded
  intro s takes
  refine ⟨⟨pendingSetWord s.attention.causes, ?_, pendingSetWord_bit _⟩, fun w named => ⟨?_, ?_⟩,
    fun w beyond => ⟨?_, ?_⟩⟩
  · exact congrArg Host.Outcome.next (State.hostDirect_answering takes rfl (ownAttentionRead_counted _))
  · refine ⟨{ s with attention := s.attention.acknowledge (w.setWidth 11) },
      congrArg Host.Outcome.next (State.hostDirect_answering takes rfl (if_pos named)), rfl, fun n => ?_, rfl,
      lineAsserted_iff _ _⟩
    rw [Attention.acknowledge_cause, causeSet_bit]
    rfl
  · exact ⟨{ s with attention := Attention.judged { s.attention with mask := w.setWidth 11 } },
      congrArg Host.Outcome.next (State.hostDirect_answering takes rfl (if_pos named)), rfl, rfl, causeSet_bit w,
      lineAsserted_iff _ _⟩
  · exact congrArg Host.Outcome.next (State.hostDirect_refused takes rfl fun k => if_neg (by omega))
  · exact congrArg Host.Outcome.next (State.hostDirect_refused takes rfl fun k => if_neg (by omega))

end Sys2Proof.Machine
end

section
namespace Sys2Proof.Machine

/-! ### SWEEP NEXT (R179 to R181) -/

/-- The sweep passes a slot that is FREE or holds an unchanged record (R179). -/
def SweepPasses (m : List Host.Cell) (slot : Nat) : Prop :=
  Memory.verdict m slot = .free ∨ ∃ r, Memory.verdict m slot = .live r ∧ r.changed = false

theorem sweepFrom_passes {m : List Host.Cell} {slot : Nat} (h : SweepPasses m slot) (g : Geometry) (n : Nat) :
    sweepFrom m g (n + 1) slot = sweepFrom m g n (g.nextSlot slot) := by
  rcases h with free | ⟨r, live, unchanged⟩
  · rw [sweepFrom, free]
  · rw [sweepFrom, live]
    exact if_neg (by simp [unchanged])

theorem sweepFrom_record {m : List Host.Cell} {slot : Nat} {r : CardRecord} (live : Memory.verdict m slot = .live r)
    (changed : r.changed = true) (g : Geometry) (n : Nat) : sweepFrom m g (n + 1) slot = .record slot r := by
  rw [sweepFrom, live]
  exact if_pos changed

theorem sweepFrom_fault {m : List Host.Cell} {slot : Nat} (fault : Memory.verdict m slot = .fault) (g : Geometry)
    (n : Nat) : sweepFrom m g (n + 1) slot = .fault slot := by
  rw [sweepFrom, fault]

/-- The slot a number of slots on from another, wrapping past the last (R179). -/
def Geometry.slotOn (g : Geometry) (slot n : Nat) : Nat := (slot + n) % g.slots

theorem Geometry.nextSlot_slotOn (g : Geometry) (slot n : Nat) :
    g.nextSlot (g.slotOn slot n) = g.slotOn slot (n + 1) := by
  rw [Geometry.nextSlot, Geometry.slotOn, Nat.mod_add_mod, Nat.add_assoc, Geometry.slotOn]

/-- After slots that it passes the sweep stands behind them, with the slots left to it (R179). -/
theorem sweepFrom_passed {m : List Host.Cell} {g : Geometry} {slot n : Nat}
    (passed : ∀ i, i < n → SweepPasses m (g.slotOn slot i)) (left : Nat) :
    sweepFrom m g (left + n) (g.slotOn slot 0) = sweepFrom m g left (g.slotOn slot n) := by
  induction n generalizing left with
  | zero => rfl
  | succ n ih =>
    calc sweepFrom m g (left + (n + 1)) (g.slotOn slot 0)
        = sweepFrom m g (left + 1 + n) (g.slotOn slot 0) := by rw [Nat.add_assoc, Nat.add_comm n 1]
      _ = sweepFrom m g (left + 1) (g.slotOn slot n) := ih (fun i hi => passed i (Nat.lt_succ_of_lt hi)) _
      _ = sweepFrom m g left (g.slotOn slot (n + 1)) := by
        rw [sweepFrom_passes (passed n (Nat.lt_succ_self n)), g.nextSlot_slotOn]

/-- A mask of every group selects the whole table. -/
theorem selected_all {table : List (List Word)} {mask : Word} (h : ∀ g, g < table.length → mask.getLsbD g = true) :
    selected table mask = table.flatten := by
  have every : table.zipIdx.filter (fun g => mask.getLsbD g.2) = table.zipIdx :=
    List.filter_eq_self.2 fun g hg => h g.2 (List.snd_lt_of_mem_zipIdx hg)
  rw [selected, every, List.flatMap_def, List.zipIdx_map_fst]

/-- The twenty words of a record for the mask of all its groups (R180). -/
theorem counted_recordWords (r : CardRecord) (slot : Nat) :
    Answer.counted (recordWords r slot 1023) = .done (recordTable r slot).flatten 20 := by
  have length : (recordTable r slot).flatten.length = 20 := by
    simp [recordTable, cardWords, twoWords, twoWordsSigned]
  have every : ∀ g, g < 10 → (1023 : Word).getLsbD g = true := by decide
  rw [← selected_recordTable, selected_all (table := recordTable r slot) every, Answer.counted, length]
  rfl

section
variable {s : State} (inTable : s.sweepCursor < 4 * 2 ^ s.geometry.k) {n : Nat} (within : n < 256)
  (passed : ∀ i, i < n → SweepPasses s.mem (s.geometry.slotOn s.sweepCursor i))
include inTable within passed

/-- From the cursor on the sweep comes to the first slot that it does not pass, with that one left to it at least. -/
theorem sweepFrom_cursor : ∃ left, sweepFrom s.mem s.geometry 256 s.sweepCursor =
    sweepFrom s.mem s.geometry (left + 1) (s.geometry.slotOn s.sweepCursor n) := by
  have start : s.geometry.slotOn s.sweepCursor 0 = s.sweepCursor := Nat.mod_eq_of_lt inTable
  refine ⟨255 - n, ?_⟩
  rw [← sweepFrom_passed passed, start, show 255 - n + 1 + n = 256 by omega]

theorem serveSweepNext_record {r : CardRecord}
    (live : Memory.verdict s.mem (s.geometry.slotOn s.sweepCursor n) = .live r) (changed : r.changed = true) :
    serveSweepNext [] s =
      ({ s with
          mem := Memory.writeSlot s.mem (s.geometry.slotOn s.sweepCursor n) (encodeRecord { r with changed := false })
          sweepCursor := s.geometry.slotOn s.sweepCursor (n + 1) },
        .done (recordTable r (s.geometry.slotOn s.sweepCursor n)).flatten 20) := by
  obtain ⟨left, stops⟩ := sweepFrom_cursor inTable within passed
  simp only [serveSweepNext, stops, sweepFrom_record live changed, counted_recordWords, s.geometry.nextSlot_slotOn,
    State.writeRecord, State.portWrite]

theorem serveSweepNext_fault (fault : Memory.verdict s.mem (s.geometry.slotOn s.sweepCursor n) = .fault) :
    serveSweepNext [] s =
      State.refused { s.raise .memoryFault (wideSubject (s.geometry.slotOn s.sweepCursor n)) with
        sweepCursor := s.geometry.slotOn s.sweepCursor (n + 1) } .fault := by
  obtain ⟨left, stops⟩ := sweepFrom_cursor inTable within passed
  simp only [serveSweepNext, stops, sweepFrom_fault fault, s.geometry.nextSlot_slotOn]

end

theorem serveSweepNext_none {s : State} (inTable : s.sweepCursor < 4 * 2 ^ s.geometry.k)
    (passed : ∀ i, i < 256 → SweepPasses s.mem (s.geometry.slotOn s.sweepCursor i)) :
    serveSweepNext [] s = State.served { s with sweepCursor := s.geometry.slotOn s.sweepCursor 256 } := by
  have start : s.geometry.slotOn s.sweepCursor 0 = s.sweepCursor := Nat.mod_eq_of_lt inTable
  have through : sweepFrom s.mem s.geometry 256 s.sweepCursor = .none := by
    have walked := sweepFrom_passed passed 0
    rwa [start] at walked
  simp only [serveSweepNext, through]
  rfl

/-- Settles O46: the sweep walks to the first slot that it does not pass, and is served by what stands there. -/
theorem sweepTaken : Obligations.SweepTaken := by
  unfold Obligations.SweepTaken
  intro s h inTable _ wf
  refine ⟨fun n r within passed live changed => ?_, fun n within passed fault => ?_, fun passed => ?_⟩
  · exact ⟨_, Memory.writeSlot_stores s.mem _ _ wf,
      exec_whole rfl h (serveSweepNext_record inTable within passed live changed) rfl⟩
  · exact exec_whole rfl h (serveSweepNext_fault inTable within passed fault) rfl
  · exact exec_whole rfl h (serveSweepNext_none inTable passed) rfl

end Sys2Proof.Machine
end

section
namespace Sys2Proof.Machine

/-! ### Blocks at their reset values (R186, R187) -/

theorem LanePort.reset_atReset : LanePort.reset.AtReset := by simp [LanePort.AtReset, LanePort.reset]

theorem Departure.reset_empty : Departure.reset.Empty := by simp [Departure.Empty, Departure.reset]

theorem FareTables.reset_cleared : FareTables.reset.Cleared := by simp [FareTables.Cleared, FareTables.reset]

theorem Arbiter.reset_cleared : Arbiter.reset.Cleared := by simp [Arbiter.Cleared, Arbiter.reset]

theorem Attention.reset_cleared : Attention.reset.Cleared := by simp [Attention.Cleared, Attention.reset]

/-- The blocks that every reset takes to their reset values are at them where such a reset would change none. -/
theorem State.blocksReset_of_warmCommon {t : State} (h : t.warmCommon = t) : t.BlocksReset := by
  rw [← h]
  refine ⟨rfl, rfl, fun l => ?_, Arbiter.reset_cleared, rfl, fun e => ?_, rfl, Attention.reset_cleared⟩
  · simpa [State.lane, State.warmCommon] using LanePort.reset_atReset
  · simp [State.warmCommon]

/-- Every departure and every berth written with its reset value (R81, R103). -/
theorem State.pierEmpty_of_replicate {t : State} (departures : t.departures = Vector.replicate 16 Departure.reset)
    (berths : t.berths = Vector.replicate 4 none) : t.PierEmpty := by
  refine ⟨fun d => ?_, fun b => ?_⟩
  · simpa [State.dep, departures] using Departure.reset_empty
  · simp [State.berth, berths]

/-- Settles O2: the state written is the reset state but for the line, the count of free choices and the queue. -/
theorem coldResetLeaves : Obligations.ColdResetLeaves := by
  unfold Obligations.ColdResetLeaves
  intro s
  exact ⟨_, rfl, State.blocksReset_of_warmCommon rfl, State.pierEmpty_of_replicate rfl rfl, rfl, rfl, rfl, rfl,
    FareTables.reset_cleared, rfl, rfl, rfl, rfl, rfl, rfl⟩

/-! ### A warm reset (R103, R187) -/

/-- Held back at 0, near-full is armed where capacity less boarded lies above the margin (R103). -/
theorem Departure.warm_eq (d : Departure) :
    d.warm = { d with held := 0, armed := d.armed || decide (d.margin < d.capacity - d.boarded) } := by
  by_cases above : d.margin < d.capacity - d.boarded <;> simp [Departure.warm, Departure.remaining, above]

theorem State.warmReset_kept {s : State} (keep : s.keepValid = true) :
    s.warmReset = { s.warmCommon with
      service := .resumable
      geometry := s.kept
      departures := s.departures.map Departure.warm } := if_pos keep

theorem State.warmReset_unkept {s : State} (keep : s.keepValid = false) :
    s.warmReset = { s.warmCommon with
      service := .unstarted
      geometry := Geometry.reset
      fares := FareTables.reset
      enforce := false
      departures := Vector.replicate 16 Departure.reset
      berths := Vector.replicate 4 none } := if_neg (by simp [keep])

@[simp] theorem State.warmReset_resetLine (s : State) : s.warmReset.resetLine = s.resetLine := by
  unfold State.warmReset
  split <;> rfl

/-- R187, by the keep flag. -/
theorem State.warmReset_warmResetOf (s : State) : s.WarmResetOf s.warmReset := by
  cases keep : s.keepValid with
  | true =>
    rw [State.warmReset_kept keep]
    refine ⟨State.blocksReset_of_warmCommon rfl, rfl, rfl, rfl, rfl, rfl, rfl, fun _ => ?_,
      fun invalid => absurd (keep.symm.trans invalid) (by simp)⟩
    refine ⟨rfl, rfl, rfl, rfl, fun _ => rfl, fun d => ?_⟩
    rw [← Departure.warm_eq]
    exact Vector.getElem_map _ _
  | false =>
    rw [State.warmReset_unkept keep]
    exact ⟨State.blocksReset_of_warmCommon rfl, rfl, rfl, rfl, rfl, rfl, rfl,
      fun valid => absurd (keep.symm.trans valid) (by simp),
      fun _ => ⟨rfl, rfl, FareTables.reset_cleared, rfl, State.pierEmpty_of_replicate rfl rfl⟩⟩

/-- RESTART where it is taken is a warm reset, which leaves no answer on the link (R187). -/
theorem State.hostDirect_restart {s : State} (takes : s.takesCommand = true) :
    s.hostDirect .restart ownRestart = s.warmReset :=
  s.hostDirect_takes takes .restart [] .ready

/-- Settles O3: the line and RESTART bring the same warm reset, which does not look at the line or the link. -/
theorem warmResetTaken : Obligations.WarmResetTaken := by
  unfold Obligations.WarmResetTaken
  refine ⟨fun s released => ?_, fun s held => ?_, fun s takes => ?_, fun s => rfl⟩
  · have asserted : exec .warmReset s = .next { s with resetLine := true }.warmReset := by
      change execWarmReset s = _
      simp [execWarmReset, released]
    exact ⟨_, asserted, State.warmReset_resetLine _, State.warmReset_warmResetOf { s with resetLine := true }⟩
  · change execWarmReset s = _
    simp [execWarmReset, held]
  · exact ⟨_, congrArg Host.Outcome.next (State.hostDirect_restart takes), s.warmReset_resetLine,
      s.warmReset_warmResetOf⟩

/-! ### The laws right after a cold reset (R186) -/

theorem State.reset_lane (l : Lane) : State.reset.lane l = LanePort.reset := by simp [State.lane, State.reset]

theorem State.reset_dep (d : DepIx) : State.reset.dep d = Departure.reset := by simp [State.dep, State.reset]

theorem State.reset_settingsLegal : State.reset.SettingsLegal :=
  ⟨Geometry.reset_legal, Geometry.reset_legal, Geometry.slots_pos _, Geometry.slots_pos _, nofun,
    by simp [Clock.Legal, State.reset], FareTables.reset_legal, watchLegal_replicate_none⟩

theorem State.reset_holdsCounted : State.reset.HoldsCounted :=
  State.holdsCounted_of_none (fun d => State.reset_dep d ▸ Departure.reset_legal)
    (fun d => by rw [State.reset_dep]; rfl) (fun l => by rw [State.reset_lane]; rfl) rfl

theorem State.reset_berthsLegal : State.reset.BerthsLegal :=
  State.berthsLegal_of_none (fun b => by simp [State.berth, State.reset]) fun d => by rw [State.reset_dep]; rfl

theorem State.reset_oneVerdictPerSlot : State.reset.OneVerdictPerSlot :=
  State.oneVerdictPerSlot_of_none fun l slot => LanePort.holdsSlot_of_none (by rw [State.reset_lane]; rfl) slot

/-- An UNSTARTED part with the engine idle claims nothing of its table (R7, R10). -/
theorem State.tableSound_of_unstarted {s : State} (service : s.service = .unstarted) (engine : s.engine = .idle) :
    s.TableSound := by
  unfold State.TableSound
  rw [engine]
  refine ⟨fun started => absurd service started, fun _ clearing => ?_, fun _ deciding => ?_,
    fun _ _ _ committing => ?_⟩
  · cases clearing
  · cases deciding
  · cases committing

/-- Settles O60: each law of the reset state, by what the resets of the blocks meet. -/
theorem resetMeetsTheLaws : Obligations.ResetMeetsTheLaws := by
  unfold Obligations.ResetMeetsTheLaws
  exact ⟨Attention.reset_consistent, State.reset_settingsLegal, State.coherent_of_reset rfl rfl rfl rfl (.inl rfl),
    State.reset_holdsCounted, State.reset_berthsLegal, State.reset_oneVerdictPerSlot,
    State.tableSound_of_unstarted rfl rfl, State.linkLegal_of_reset rfl rfl, rfl⟩

end Sys2Proof.Machine
end

section
namespace Sys2Proof.Machine

/-! ### Service control where the host's COMMAND word begins a command (R165, R185) -/

/-- A command of service control meets its owner in every service state, and ends with its owner's outcome. -/
theorem State.hostDirect_control {s t : State} {c : Cmd} {ws : List Word} {a : Answer} (takes : s.takesCommand = true)
    (control : c.group = .control) (answers : c ≠ .restart) (owned : owner c ws s = (t, some a)) :
    s.hostDirect c (owner c ws) = t.answering a :=
  State.hostDirect_answering takes (by rw [control]; rfl) <| by
    have stays := owner_withLink answers ws s ⟨s.link.phase, none⟩
    rw [owned] at stays
    exact stays

/-- The code of the table of R185 for a command that a service state does not take: NOT STARTED in UNSTARTED and
RESUMABLE, WRONG STATE in the others. -/
def Service.refusal : Service → RejectCode
  | .unstarted | .resumable => .notStarted
  | .clearing | .serving | .halting | .halted => .wrongState

theorem ownResume_refused {s : State} (h : s.service ≠ .resumable) : ownResume s = s.refuse s.service.refusal := by
  unfold ownResume
  cases service : s.service with
  | resumable => exact absurd service h
  | _ => rfl

theorem ownContinue_refused {s : State} (h : s.service ≠ .halted) : ownContinue s = s.refuse s.service.refusal := by
  unfold ownContinue
  cases service : s.service with
  | halted => exact absurd service h
  | _ => rfl

theorem ownKeep_refused {s : State} (serving : s.service ≠ .serving) (halted : s.service ≠ .halted) :
    ownKeep s = s.refuse s.service.refusal := by
  unfold ownKeep
  cases service : s.service with
  | serving => exact absurd service serving
  | halted => exact absurd service halted
  | _ => rfl

theorem ownHalt_refused {s : State} (h : s.service = .unstarted ∨ s.service = .resumable ∨ s.service = .clearing) :
    ownHalt s = s.refuse s.service.refusal := by
  rcases h with service | service | service <;> simp [ownHalt, service, Service.refusal]

/-- KEEP stores the geometry in force, with the keep valid (R188). -/
theorem ownKeep_taken {s : State} (h : s.service = .serving ∨ s.service = .halted) :
    ownKeep s = State.ok { s with kept := s.geometry, keepValid := true } := by
  rcases h with service | service <;> simp [ownKeep, service]

section
variable {s : State} (takes : s.takesCommand = true)
include takes

theorem exec_resume_taken (h : s.service = .resumable) :
    exec .resume s = .next (State.answering { s with keepValid := false, service := .serving } .ok) :=
  congrArg Host.Outcome.next <|
    State.hostDirect_control (ws := []) takes rfl nofun (by simp [owner, ownResume, h, State.ok])

theorem exec_resume_refused (h : s.service ≠ .resumable) :
    exec .resume s = .next (s.answering (.reject s.service.refusal)) :=
  congrArg Host.Outcome.next (State.hostDirect_control (ws := []) takes rfl nofun (ownResume_refused h))

theorem exec_continueService_taken (h : s.service = .halted) :
    exec .continueService s = .next (State.answering { s with service := .serving } .ok) :=
  congrArg Host.Outcome.next <|
    State.hostDirect_control (ws := []) takes rfl nofun (by simp [owner, ownContinue, h, State.ok])

theorem exec_continueService_refused (h : s.service ≠ .halted) :
    exec .continueService s = .next (s.answering (.reject s.service.refusal)) :=
  congrArg Host.Outcome.next (State.hostDirect_control (ws := []) takes rfl nofun (ownContinue_refused h))

theorem exec_keep_taken (h : s.service = .serving ∨ s.service = .halted) :
    exec .keep s = .next (State.answering { s with kept := s.geometry, keepValid := true } .ok) :=
  congrArg Host.Outcome.next (State.hostDirect_control (ws := []) takes rfl nofun (ownKeep_taken h))

theorem exec_keep_refused (serving : s.service ≠ .serving) (halted : s.service ≠ .halted) :
    exec .keep s = .next (s.answering (.reject s.service.refusal)) :=
  congrArg Host.Outcome.next (State.hostDirect_control (ws := []) takes rfl nofun (ownKeep_refused serving halted))

theorem exec_halt_refused (h : s.service = .unstarted ∨ s.service = .resumable ∨ s.service = .clearing) :
    exec .halt s = .next (s.answering (.reject s.service.refusal)) :=
  congrArg Host.Outcome.next (State.hostDirect_control (ws := []) takes rfl nofun (ownHalt_refused h))

end

/-- Settles O23: the table of R185 state by state, each command where it is taken or by `Service.refusal`. -/
theorem serviceCommanded : Obligations.ServiceCommanded := by
  unfold Obligations.ServiceCommanded
  intro s takes
  have resume := exec_resume_refused takes
  have halt := exec_halt_refused takes
  have continued := exec_continueService_refused takes
  have keep := exec_keep_refused takes
  refine ⟨fun service => ?resumable, fun service => ?unstarted, fun service => ?clearing, fun service => ?serving,
    fun service => ?halting, fun service => ?halted⟩ <;> simp only [service] at resume halt continued keep
  case resumable =>
    exact ⟨exec_resume_taken takes service, halt (by simp), continued nofun, keep nofun nofun⟩
  case unstarted => exact ⟨resume nofun, halt (by simp), continued nofun, keep nofun nofun⟩
  case clearing => exact ⟨resume nofun, halt (by simp), continued nofun, keep nofun nofun⟩
  case serving => exact ⟨resume nofun, continued nofun, exec_keep_taken takes (.inl service)⟩
  case halting => exact ⟨resume nofun, continued nofun, keep nofun nofun⟩
  case halted =>
    exact ⟨resume nofun, exec_continueService_taken takes service, exec_keep_taken takes (.inr service)⟩

end Sys2Proof.Machine
end

section
namespace Sys2Proof.Machine

/-! ### The halt notice at the lane ports (R120, R192) -/

/-- A lane port after the halt notice: a PENDING lane has given its tap back (R120). -/
def LanePort.noticed (p : LanePort) : LanePort :=
  if p.state = .pending then
    { p with
      tapped := none
      state := .idle
      queue := offered p.queue [.refuse .notInService FareFields.zero] }
  else p

/-- How many messages a lane port finds no room for at the halt notice (R127). -/
def LanePort.noticeFaults (p : LanePort) : Nat := if p.state = .pending then dropped p.queue 1 else 0

/-- A PENDING lane is in hand neither before the halt notice nor after it (R192). -/
theorem LanePort.noticed_inHand (p : LanePort) : p.noticed.inHand = p.inHand := by
  unfold LanePort.noticed
  split
  · next pending =>
    simp only [LanePort.inHand, pending]
    rfl
  · rfl

/-- `t` is `s` after the lane ports `ls` have taken the halt notice, in that order: the lanes, the tap pending set,
LANE FAULT, and nothing else. -/
structure State.Noticed (s : State) (ls : List Lane) (t : State) : Prop where
  lane : ∀ l, t.lane l = if l ∈ ls then (s.lane l).noticed else s.lane l
  tapPending : ∀ l : Lane, t.arbiter.tapPending[l] =
    if l ∈ ls ∧ (s.lane l).state = .pending then false else s.arbiter.tapPending[l]
  attention : t.attention =
    ls.foldl (fun a l => a.occurs .laneFault (numberSubject l.val) (s.lane l).noticeFaults) s.attention
  rest : t = { s with
    lanes := t.lanes, arbiter := { s.arbiter with tapPending := t.arbiter.tapPending }, attention := t.attention }

@[simp] theorem State.raiseLaneFaults_arbiter (s : State) (l : Lane) (n : Nat) :
    (s.raiseLaneFaults l n).arbiter = s.arbiter := by
  rw [s.raiseLaneFaults_eq]

/-- A tap withdrawn by the halt notice, in one (R106, R120, R127). -/
theorem State.haltLane_eq (s : State) (l : Lane) (pending : (s.lane l).state = .pending) :
    s.haltLane l = ((s.setTapPending l false).setLane l (s.lane l).noticed).raiseLaneFaults l
      (s.lane l).noticeFaults := by
  simp [State.haltLane, State.withdrawTap, State.send_eq, LanePort.noticed, LanePort.noticeFaults, pending]

/-- One lane port takes the halt notice. -/
theorem State.haltLane_noticed (s : State) (l : Lane) : s.Noticed [l] (s.haltLane l) := by
  by_cases pending : (s.lane l).state = .pending
  · rw [s.haltLane_eq l pending]
    refine ⟨fun k => ?_, fun k => ?_, by simp, ?_⟩
    · by_cases h : k = l <;> simp [h]
    · rw [State.raiseLaneFaults_arbiter, State.setLane_arbiter, State.setTapPending_get]
      by_cases h : k = l <;> simp [h, pending]
    · rw [State.raiseLaneFaults_eq]
      rfl
  · have still : s.haltLane l = s := by
      unfold State.haltLane
      split
      · next found => exact absurd found pending
      · rfl
    rw [still]
    refine ⟨fun k => ?_, fun k => ?_, by simp [LanePort.noticeFaults, pending], rfl⟩
    · by_cases h : k = l <;> simp [h, LanePort.noticed, pending]
    · by_cases h : k = l <;> simp [h, pending]

/-- Lane ports one after the other. -/
theorem State.Noticed.cons {s t u : State} {l : Lane} {ls : List Lane} (first : s.Noticed [l] t)
    (more : t.Noticed ls u) (fresh : l ∉ ls) : s.Noticed (l :: ls) u := by
  have same : ∀ k ∈ ls, t.lane k = s.lane k := fun k hk => by
    rw [first.lane, if_neg (by simpa using fun e : k = l => fresh (e ▸ hk))]
  refine ⟨fun k => ?_, fun k => ?_, ?_, more.rest.trans (by rw [first.rest])⟩
  · by_cases h : k ∈ ls
    · simp [more.lane, h, same k h]
    · simp [more.lane, h, first.lane]
  · by_cases h : k ∈ ls
    · have other : k ≠ l := fun e => fresh (e ▸ h)
      simp [more.tapPending, h, same k h, first.tapPending, other]
    · simp [more.tapPending, h, first.tapPending]
  · rw [more.attention, first.attention]
    exact List.foldl_ext _ _ _ fun a k hk => by rw [same k hk]

/-- Lane ports that take the halt notice, each once. -/
theorem State.foldl_haltLane_noticed (ls : List Lane) (nodup : ls.Nodup) (s : State) :
    s.Noticed ls (ls.foldl State.haltLane s) := by
  induction ls generalizing s with
  | nil => exact ⟨fun _ => by simp, fun _ => by simp, rfl, rfl⟩
  | cons l ls ih =>
    obtain ⟨fresh, nodup⟩ := List.nodup_cons.1 nodup
    exact (s.haltLane_noticed l).cons (ih nodup _) fresh

/-- The halt notice is taken by the twelve ports in some order, a choice of which may be counted (R120, log 8). -/
theorem State.haltNotice_noticed (s : State) : ∃ (order : List Lane) (n : Nat),
    order.Perm (List.finRange 12) ∧ State.Noticed { s with freeCount := n } order s.haltNotice := by
  let raising := (List.finRange 12).countP fun l => (s.lane l).faultsAtHalt
  have perm := s.portOrder_perm raising
  refine ⟨_, (s.portOrder raising).2.freeCount, perm, ?_⟩
  rw [← s.portOrder_eq raising]
  exact State.foldl_haltLane_noticed _ (perm.nodup_iff.2 (List.nodup_finRange 12)) _

/-- The halt notice takes no lane out of hand and brings none in (R192). -/
theorem State.Noticed.lanesInHand {s t : State} {ls : List Lane} (h : s.Noticed ls t) :
    t.lanesInHand = s.lanesInHand := State.lanesInHand_congr fun l => by
  rw [h.lane]
  split
  · exact (s.lane l).noticed_inHand
  · rfl

/-! ### HALT (R192) -/

/-- HALT taken in SERVING: the service state follows the lanes in hand after the halt notice, and DONE carries their
number. -/
theorem ownHalt_serving {s : State} (h : s.service = .serving) : ownHalt s =
    ({ s.haltNotice with service := if s.haltNotice.lanesInHand = 0 then .halted else .halting },
      some (.done [] (word s.haltNotice.lanesInHand))) := by
  unfold ownHalt
  rw [h]
  rfl

/-- HALT taken after another only counts. -/
theorem ownHalt_counts {s : State} (h : s.service = .halting ∨ s.service = .halted) :
    ownHalt s = (s, some (.done [] (word s.lanesInHand))) := by
  rcases h with service | service <;> simp [ownHalt, service, State.haltCount]

/-- Settles O24: the twelve ports take the halt notice each once, in an order that the free choice may turn, and no
lane in hand is touched by it. -/
theorem haltTaken : Obligations.HaltTaken := by
  unfold Obligations.HaltTaken
  refine ⟨fun s takes serving => ?_, fun s takes service =>
    congrArg Host.Outcome.next (State.hostDirect_control (ws := []) takes rfl nofun (ownHalt_counts service))⟩
  obtain ⟨order, n, perm, noticed⟩ := s.haltNotice_noticed
  have inHand : s.haltNotice.lanesInHand = s.lanesInHand := noticed.lanesInHand
  obtain ⟨lane, tapPending, attention, rest⟩ := noticed
  have all : ∀ l, l ∈ order := fun l => perm.mem_iff.2 (List.mem_finRange l)
  have owned := ownHalt_serving serving
  rw [inHand] at owned
  refine ⟨_, order, congrArg Host.Outcome.next (State.hostDirect_control (ws := []) takes rfl nofun owned),
    fun l => (lane l).trans (if_pos (all l)), fun l => ?_, rfl, inHand, perm, attention, ?_⟩
  · simp only [all, true_and] at tapPending
    exact tapPending l
  · rw [rest]

end Sys2Proof.Machine
end

section
namespace Sys2Proof.Machine

/-! ### LANE FAULT of START's own messages (R127, R172, log 9) -/

/-- An attention unit after one LANE FAULT of each of these lanes, in that order. -/
def Attention.laneFaults (a : Attention) (ls : List Lane) : Attention :=
  ls.foldl (fun a l => a.occur .laneFault (numberSubject l.val)) a

@[simp] theorem Attention.laneFaults_nil (a : Attention) : a.laneFaults [] = a := rfl

@[simp] theorem Attention.laneFaults_cons (a : Attention) (l : Lane) (ls : List Lane) :
    a.laneFaults (l :: ls) = (a.occur .laneFault (numberSubject l.val)).laneFaults ls := rfl

@[simp] theorem Attention.laneFaults_mask (a : Attention) (ls : List Lane) : (a.laneFaults ls).mask = a.mask := by
  induction ls generalizing a with
  | nil => rfl
  | cons l ls ih => exact ih _

theorem Attention.laneFaults_other (a : Attention) (ls : List Lane) {n : Fin 11} (other : n ≠ Cause.laneFault.index) :
    (a.laneFaults ls).causes[n] = a.causes[n] := by
  induction ls generalizing a with
  | nil => rfl
  | cons l ls ih => rw [Attention.laneFaults_cons, ih, Attention.occur_cause, if_neg other]

/-- Each lane counts once at most: the count holds at 255 (R173). -/
theorem Attention.laneFaults_count_le (a : Attention) (ls : List Lane) :
    ((a.laneFaults ls).causes[Cause.laneFault.index]).count
      ≤ (a.causes[Cause.laneFault.index]).count + ls.length := by
  induction ls generalizing a with
  | nil => exact Nat.le_refl _
  | cons l ls ih =>
    have more := ih (a.occur .laneFault (numberSubject l.val))
    rw [Attention.occur_cause, if_pos rfl] at more
    dsimp only at more
    rw [Attention.laneFaults_cons, List.length_cons]
    omega

theorem Attention.Consistent.laneFaults {a : Attention} (h : a.Consistent) (ls : List Lane) :
    (a.laneFaults ls).Consistent := by
  induction ls generalizing a with
  | nil => exact h
  | cons l ls ih => exact ih (h.occur _ _)

theorem State.foldl_raise_laneFault (s : State) (ls : List Lane) :
    ls.foldl (fun t l => t.raise .laneFault (numberSubject l.val)) s
      = { s with attention := s.attention.laneFaults ls } := by
  induction ls generalizing s with
  | nil => rfl
  | cons l ls ih => exact ih _

/-- Whatever the free choice, the lanes whose LANE FAULT stands after START are among those that raise one. -/
theorem startFaults_length_le (before : State) (choice : Nat) :
    (startFaults before choice).length ≤ (List.finRange 12).countP fun l => (before.lane l).faultsAtStart := by
  have turned := Equiv.Perm.map_finRange_perm (Equiv.addLeft (Fin.ofNat 12 (choice / 4096)))
  rw [← turned.countP_eq, List.countP_eq_length_filter]
  exact (List.monotone_filter_right _ fun l hl => (Bool.and_eq_true_iff.1 hl).1).length_le

theorem State.raiseStartFaults_eq (s before : State) : ∃ (ls : List Lane) (n : Nat),
    ls.length ≤ ((List.finRange 12).countP fun l => (before.lane l).faultsAtStart)
    ∧ s.raiseStartFaults before = { s with attention := s.attention.laneFaults ls, freeCount := n } := by
  unfold State.raiseStartFaults
  split
  · exact ⟨_, s.freeCount + 1, startFaults_length_le before _, State.foldl_raise_laneFault _ _⟩
  · exact ⟨[], s.freeCount, Nat.zero_le _, rfl⟩

/-! ### START (R17, R128, R189) -/

/-- What START leaves, with its clearing granted, where LANE FAULT of the lanes `ls` stands afterwards and `n` choices
have been counted. -/
def State.afterStart (s : State) (g : Geometry) (ls : List Lane) (n : Nat) : State :=
  { s.started g with
    arbiter := Arbiter.reset
    engine := .clearing 0
    attention := Attention.reset.laneFaults ls
    freeCount := n }

/-- A clearing request is granted before every other (R132). -/
theorem State.settle_clearingRequest {s : State} (idle : s.engine = .idle)
    (request : s.arbiter.clearingRequest = true) :
    s.settle = { s.setClearingRequest false with engine := .clearing 0 } := by
  have next : s.nextGrant = some .clearing := if_pos request
  simp only [State.settle, idle, next]
  rfl

/-- A lane at START: what R128 keeps of it, and LANE STATE CLOSED offered to its queue where it was not DOWN. -/
theorem LanePort.atStart_eq (p : LanePort) : p.atStart = { p with
    state := .down, closeRequested := false, cancelNoted := false, expiredLast := false
    tapped := none, openVerdict := none, secondsLeft := 0
    queue := if p.state = .down then p.queue else offered p.queue [.laneState false] } := by
  unfold LanePort.atStart
  by_cases down : p.state = .down <;> simp [down, offered_singleton]

/-- START taken in range with the engine free: its clearing begins at the same event (R189). -/
theorem ownStart_taken {s : State} {k p : Word}
    (service : s.service = .unstarted ∨ s.service = .halted ∨ s.service = .resumable)
    (inRange : 10 ≤ k.toNat ∧ k.toNat ≤ 18 ∧ 1 ≤ p.toNat ∧ p.toNat ≤ 8) (idle : s.engine = .idle) :
    ∃ (ls : List Lane) (n : Nat), ls.length ≤ ((List.finRange 12).countP fun l => (s.lane l).faultsAtStart)
      ∧ ownStart k p s = (s.afterStart ⟨k.toNat, p.toNat⟩ ls n).ok := by
  obtain ⟨ls, n, few, raised⟩ := (s.started ⟨k.toNat, p.toNat⟩).raiseStartFaults_eq s
  have granted : ((s.started ⟨k.toNat, p.toNat⟩).raiseStartFaults s).settle =
      s.afterStart ⟨k.toNat, p.toNat⟩ ls n := by
    rw [raised]
    exact State.settle_clearingRequest idle rfl
  refine ⟨ls, n, few, ?_⟩
  rcases service with e | e | e <;> simp only [ownStart, e, inRange, and_self, if_true, granted]

theorem ownStart_outOfRange {s : State} {k p : Word}
    (service : s.service = .unstarted ∨ s.service = .halted ∨ s.service = .resumable)
    (out : k.toNat < 10 ∨ 18 < k.toNat ∨ p.toNat = 0 ∨ 8 < p.toNat) : ownStart k p s = s.refuse .badOperand := by
  have range : ¬(10 ≤ k.toNat ∧ k.toNat ≤ 18 ∧ 1 ≤ p.toNat ∧ p.toNat ≤ 8) := by omega
  rcases service with e | e | e <;> simp only [ownStart, e, if_neg range]

theorem ownStart_refused {s : State} (k p : Word)
    (service : s.service = .clearing ∨ s.service = .serving ∨ s.service = .halting) :
    ownStart k p s = s.refuse .wrongState := by
  rcases service with e | e | e <;> simp only [ownStart, e]

/-- Settles O22: what `State.afterStart` holds field by field, and the refusals by the service state and the ranges. -/
theorem startTaken : Obligations.StartTaken := by
  unfold Obligations.StartTaken
  intro s k p takes
  have answered : ∀ {t : State} {a : Answer}, ownStart k p s = (t, some a) →
      exec (.start k p) s = .next (t.answering a) := fun owned =>
    congrArg Host.Outcome.next (State.hostDirect_control (c := .start) (ws := [k, p]) takes rfl nofun owned)
  refine ⟨fun service kMin kMax pMin pMax idle => ?_, fun service out => answered (ownStart_outOfRange service out),
    fun service => answered (ownStart_refused k p service)⟩
  obtain ⟨ls, n, few, owned⟩ := ownStart_taken service ⟨kMin, kMax, pMin, pMax⟩ idle
  refine ⟨_, answered owned, rfl, rfl, rfl, rfl, rfl, State.pierEmpty_of_replicate rfl rfl, fun l => ?lane,
    Arbiter.reset_cleared, rfl, fun e => ?watch, rfl, fun c other => ?cause, ?count, ?mask,
    Attention.reset_consistent.laneFaults ls, rfl, rfl, rfl, rfl, rfl, rfl, rfl⟩
  case lane =>
    rw [← LanePort.atStart_eq]
    exact Vector.getElem_map _ _
  case watch => exact Vector.getElem_replicate _
  case cause => exact (Attention.reset.laneFaults_other ls other).trans (Vector.getElem_replicate _)
  case count =>
    have most := Attention.reset.laneFaults_count_le ls
    rw [show (Attention.reset.causes[Cause.laneFault.index]).count = 0 from rfl, Nat.zero_add] at most
    exact most.trans few
  case mask => exact Attention.reset.laneFaults_mask ls

end Sys2Proof.Machine
end

section
namespace Sys2Proof.Machine

/-! ### Sixteen words and their check word (R3, R4) -/

/-- Sixteen words are content with its check word where they hold that content and sum to 65,535. -/
theorem eq_withCheck_iff {v : Vector Word 16} {c : Vector Word 15} :
    v = withCheck c ↔ wordSum v.toList = 65535#16 ∧ contentOf v = c := by
  have sum_push : ∀ (c : Vector Word 15) (w : Word), wordSum (c.push w).toList = wordSum c.toList + w := by
    simp [wordSum]
  have split : (contentOf v).push v.back = v := v.push_pop_back
  constructor
  · rintro rfl
    exact ⟨by rw [withCheck, sum_push, checkWord, add_sub_cancel], Vector.pop_push⟩
  · rintro ⟨sum, rfl⟩
    rw [← split, sum_push] at sum
    rw [withCheck, checkWord, ← sum, add_sub_cancel_left, split]

/-- What R4 asks of sixteen words that read LIVE with a record. -/
theorem slotVerdict_eq_live_iff {v : Vector Word 16} {r : CardRecord} :
    slotVerdict v = .live r ↔ wordSum v.toList = 65535#16 ∧ stateIndication v[0] = 1
      ∧ decodeRecord (contentOf v) = some r ∧ r.latchConsistent = true := by
  unfold slotVerdict
  by_cases sum : wordSum v.toList = 65535#16
  · by_cases live : stateIndication v[0] = 1
    · cases content : decodeRecord (contentOf v) with
      | none => simp [sum, live]
      | some q =>
        cases latch : q.latchConsistent with
        | true => simpa [sum, live, latch] using fun same : q = r => same ▸ latch
        | false => simpa [sum, live, latch] using fun same : q = r => same ▸ latch
    · simp only [sum, live, ne_eq, not_true_eq_false, if_false, false_and, and_false, iff_false]
      split_ifs <;> simp
  · simp [sum]

/-- What R4 asks of sixteen words that read FREE. -/
theorem slotVerdict_eq_free_iff {v : Vector Word 16} : slotVerdict v = .free ↔
    wordSum v.toList = 65535#16 ∧ stateIndication v[0] = 0 ∧ contentOf v = freeContent := by
  unfold slotVerdict
  by_cases sum : wordSum v.toList = 65535#16
  · by_cases free : stateIndication v[0] = 0
    · simp [sum, free]
    · simp only [sum, free, ne_eq, not_true_eq_false, if_false, false_and, and_false, iff_false]
      split_ifs
      · split
        · simp
        · split_ifs <;> simp
      · simp
  · simp [sum]

/-- Word 0 of a slot is word 0 of its content. -/
theorem contentOf_word0 (v : Vector Word 16) : (contentOf v)[0] = v[0] := Vector.getElem_pop (by decide)

/-! ### A record's words read back (11.5, R25, R26, R197) -/

theorem Product.ofCode_code (p : Product) : Product.ofCode p.code = some p := by cases p <;> rfl

theorem Product.code_le (p : Product) : p.code ≤ 2 := by cases p <;> decide

/-- A flag written as a number and read as a bit. -/
theorem decide_flag (b : Bool) : decide ((if b then 1 else 0) = 1) = b := by cases b <;> rfl

theorem flag_le (b : Bool) : (if b then 1 else 0) ≤ 1 := by cases b <;> decide

/-- The bit fields of the number that word 0 of a LIVE slot is made as (11.5). -/
theorem fields_of_word {product fare provisional deny latch changed present n : Nat} (hProduct : product ≤ 2)
    (hFare : fare < 4) (hProvisional : provisional ≤ 1) (hDeny : deny ≤ 1) (hLatch : latch ≤ 1)
    (hChanged : changed ≤ 1) (hPresent : present ≤ 1)
    (made : n = (1 + 4 * product + 16 * fare + 64 * provisional + 128 * deny + 256 * latch + 512 * changed
      + 1024 * present) % 65536) :
    (n % 4 = 1 ∧ n < 2048 ∧ n / 4 % 4 = product ∧ n / 16 % 4 = fare)
    ∧ n / 2 ^ 6 % 2 = provisional ∧ n / 2 ^ 7 % 2 = deny ∧ n / 2 ^ 8 % 2 = latch ∧ n / 2 ^ 9 % 2 = changed
    ∧ n / 2 ^ 10 % 2 = present := by
  norm_num
  omega

/-- Word 0 of a record's words, bit field by bit field (11.5). -/
theorem encodeRecord_word0 (r : CardRecord) :
    (((encodeRecord r)[0]).toNat % 4 = 1 ∧ ((encodeRecord r)[0]).toNat < 2048
      ∧ ((encodeRecord r)[0]).toNat / 4 % 4 = r.product.code
      ∧ ((encodeRecord r)[0]).toNat / 16 % 4 = r.fareClass.val)
    ∧ ((encodeRecord r)[0]).toNat / 2 ^ 6 % 2 = (if r.provisional then 1 else 0)
    ∧ ((encodeRecord r)[0]).toNat / 2 ^ 7 % 2 = (if r.deny then 1 else 0)
    ∧ ((encodeRecord r)[0]).toNat / 2 ^ 8 % 2 = (if r.latch then 1 else 0)
    ∧ ((encodeRecord r)[0]).toNat / 2 ^ 9 % 2 = (if r.changed then 1 else 0)
    ∧ ((encodeRecord r)[0]).toNat / 2 ^ 10 % 2 = (if r.journey.isSome then 1 else 0) :=
  fields_of_word r.product.code_le r.fareClass.isLt (flag_le _) (flag_le _) (flag_le _) (flag_le _) (flag_le _)
    (word_toNat _)

/-- Word 10 of a record's words: the upper bytes of the day spend and of the paid so far (11.5). -/
theorem encodeRecord_word10 {r : CardRecord} (inRange : r.inRange = true) :
    ((encodeRecord r)[10]).toNat / 256 = r.daySpend / 65536
    ∧ ((encodeRecord r)[10]).toNat % 256 = (r.journey.getD ⟨0, 0, 0, 0⟩).paid / 65536 := by
  obtain ⟨_, _, ⟨_, spend, _⟩, present⟩ := r.inRange_iff.1 inRange
  have paid : (r.journey.getD ⟨0, 0, 0, 0⟩).paid ≤ 16777215 := by
    cases e : r.journey with
    | none => exact Nat.zero_le _
    | some j => exact (present j e).2.2
  have made : ((encodeRecord r)[10]).toNat = _ := word_toNat _
  omega

/-- The journey, present or absent, is read back from a record's words. -/
theorem journeyIn_encodeRecord {r : CardRecord} (inRange : r.inRange = true) :
    journeyIn (encodeRecord r) = r.journey := by
  obtain ⟨_, _, _, _, _, bit⟩ := encodeRecord_word0 r
  obtain ⟨_, high⟩ := encodeRecord_word10 inRange
  obtain ⟨_, _, _, present⟩ := r.inRange_iff.1 inRange
  have w12 : ((encodeRecord r)[12]).toNat = _ := word_toNat _
  have w13 : ((encodeRecord r)[13]).toNat = _ := word_toNat _
  have w14 : ((encodeRecord r)[14]).toNat = _ := word_toNat _
  rw [journeyIn, bit, w12, w13, w14, high]
  cases e : r.journey with
  | none => rfl
  | some j =>
    obtain ⟨day, minute, paid⟩ := present j e
    have startDay : j.startDay % 65536 = j.startDay := by omega
    have startMinute : (j.startMinute + 2048 * j.route.val) % 65536 % 2048 = j.startMinute := by omega
    have route : Fin.ofNat 8 ((j.startMinute + 2048 * j.route.val) % 65536 / 2048) = j.route :=
      Fin.ext (by simp only [Fin.ofNat]; omega)
    have paidBack : j.paid / 65536 * 65536 + j.paid % 65536 = j.paid := Nat.div_add_mod' _ _
    simp only [Option.isSome_some, if_true, Option.getD_some, startDay, startMinute, route, paidBack]

/-- A record's words leave the words of an absent journey clear. -/
theorem absentClear_encodeRecord {r : CardRecord} (inRange : r.inRange = true) : AbsentClear (encodeRecord r) := by
  obtain ⟨_, _, _, _, _, bit⟩ := encodeRecord_word0 r
  obtain ⟨_, high⟩ := encodeRecord_word10 inRange
  cases e : r.journey with
  | some j => exact .inl (by rw [bit, e]; rfl)
  | none =>
    refine .inr ⟨⟨⟨?_, ?_⟩, ?_⟩, by rw [high, e]; rfl⟩ <;> simp [encodeRecord, e]

/-- Bits 13 to 0 of word 13 alone are used by a start minute and a route class (11.5). -/
theorem encodeRecord_word13_lt {r : CardRecord} (inRange : r.inRange = true) :
    ((encodeRecord r)[13]).toNat < 16384 := by
  obtain ⟨_, _, _, present⟩ := r.inRange_iff.1 inRange
  have w13 : ((encodeRecord r)[13]).toNat = _ := word_toNat _
  rw [w13]
  cases e : r.journey with
  | none => decide
  | some j =>
    have minute := (present j e).2.1
    simp only [Option.getD_some]
    omega

/-- The record in a record's own words is that record. -/
theorem recordIn_encodeRecord {r : CardRecord} (inRange : r.inRange = true) :
    recordIn (encodeRecord r) r.product = r := by
  obtain ⟨⟨_, _, _, fare⟩, provisional, deny, latch, changed, _⟩ := encodeRecord_word0 r
  obtain ⟨spendHigh, _⟩ := encodeRecord_word10 inRange
  obtain ⟨⟨_, low, high⟩, ⟨first, last, _, _⟩, ⟨cap, _, boardings⟩, _⟩ := r.inRange_iff.1 inRange
  have card : ofCardWords (encodeRecord r)[2] (encodeRecord r)[3] (encodeRecord r)[4] = r.card :=
    ofCardWords_cardWords r.card []
  have balance : ofTwoWordsSigned (encodeRecord r)[5] (encodeRecord r)[6] = r.balance :=
    ofTwoWordsSigned_twoWordsSigned r.balance (by omega) (by omega)
  have fareClass : Fin.ofNat 4 (((encodeRecord r)[0]).toNat / 16) = r.fareClass := Fin.ext fare
  have number : ∀ {n : Nat}, n ≤ 65535 → (word n).toNat = n := fun le => by rw [word_toNat]; omega
  have passFirst : ((encodeRecord r)[7]).toNat = r.passFirst := number first
  have passLast : ((encodeRecord r)[8]).toNat = r.passLast := number last
  have capDay : ((encodeRecord r)[9]).toNat = r.capDay := number cap
  have boarded : ((encodeRecord r)[1]).toNat = r.boardings := number boardings
  have daySpend : ((encodeRecord r)[10]).toNat / 256 * 65536 + ((encodeRecord r)[11]).toNat = r.daySpend := by
    have spendLow : ((encodeRecord r)[11]).toNat = _ := word_toNat _
    rw [spendHigh, spendLow, Nat.div_add_mod']
  rw [recordIn, card, fareClass, provisional, deny, latch, changed, balance, passFirst, passLast, capDay, daySpend,
    journeyIn_encodeRecord inRange, boarded]
  simp only [decide_flag]

/-- Words whose product decodes, whose unused bits are clear and whose record is in range are that record's. -/
theorem decodeRecord_of_fields {ws : Vector Word 15} {product : Product}
    (code : Product.ofCode ((ws[0]).toNat / 4 % 4) = some product) (spare0 : (ws[0]).toNat < 2048)
    (spare13 : (ws[13]).toNat < 16384) (absent : AbsentClear ws) (inRange : (recordIn ws product).inRange = true) :
    decodeRecord ws = some (recordIn ws product) := by
  unfold decodeRecord
  simp only
  split
  · next none => cases none.symm.trans code
  · next found =>
    cases found.symm.trans code
    refine if_pos ?_
    simp only [Bool.and_eq_true, decide_eq_true_eq, Bool.or_eq_true]
    exact ⟨⟨⟨spare0, spare13⟩, absent⟩, inRange⟩

/-- A record in range is read back from its words. -/
theorem decodeRecord_encodeRecord {r : CardRecord} (inRange : r.inRange = true) :
    decodeRecord (encodeRecord r) = some r := by
  obtain ⟨⟨_, spare0, product, _⟩, _⟩ := encodeRecord_word0 r
  have same := recordIn_encodeRecord inRange
  have read := decodeRecord_of_fields (ws := encodeRecord r) (product := r.product)
    (by rw [product, Product.ofCode_code]) spare0 (encodeRecord_word13_lt inRange) (absentClear_encodeRecord inRange)
    (by rw [same]; exact inRange)
  rwa [same] at read

/-- No words are read as a record out of range (R197). -/
theorem inRange_of_decodeRecord {ws : Vector Word 15} {r : CardRecord} (h : decodeRecord ws = some r) :
    r.inRange = true := by
  unfold decodeRecord at h
  simp only at h
  split at h
  · cases h
  · obtain ⟨ok, same⟩ := Option.ite_none_right_eq_some.1 h
    cases same
    exact (Bool.and_eq_true_iff.1 ok).2

/-! ### Slots and records (11.5, R2, R4) -/

/-- Settles O50: the sixteen words by their content and their sum, and the content by the fields of a record. -/
theorem slotsAgree : Obligations.SlotsAgree := by
  unfold Obligations.SlotsAgree
  refine ⟨fun r inRange latch => ?_, fun v r read => ?_, fun v => ?_⟩
  · obtain ⟨sum, content⟩ := eq_withCheck_iff.1 (rfl : withCheck (encodeRecord r) = _)
    obtain ⟨⟨live, _⟩, _⟩ := encodeRecord_word0 r
    refine slotVerdict_eq_live_iff.2 ⟨sum, ?_, ?_, latch⟩
    · rwa [← contentOf_word0, content]
    · rw [content, decodeRecord_encodeRecord inRange]
  · obtain ⟨sum, live, content, latch⟩ := slotVerdict_eq_live_iff.1 read
    rw [← contentOf_word0] at live
    exact ⟨eq_withCheck_iff.2 ⟨sum, (encodeRecord_of_decodeRecord live content).symm⟩,
      inRange_of_decodeRecord content, latch⟩
  · rw [slotVerdict_eq_free_iff, eq_withCheck_iff]
    refine and_congr_right fun _ => and_iff_right_of_imp fun content => ?_
    rw [← contentOf_word0, content]
    rfl

end Sys2Proof.Machine
end

section
namespace Sys2Proof.Machine

/-! ### A gate's whole frame (R126, R196) -/

/-- The check byte of a frame whose kind and payload are a gate's message completes it. -/
theorem judgeFrame_complete {kind length : Byte} {payload : List Byte} {m : GateMessage}
    (known : gateLength kind = some payload.length) (message : gateMessage kind payload = some m) :
    judgeFrame (kind :: length :: (payload ++ [frameCheck kind payload])) = .complete m := by
  have last : (payload ++ [frameCheck kind payload]).getLastD 0 =
      frameCheck kind ((payload ++ [frameCheck kind payload]).take payload.length) := by simp
  have long : ¬(payload ++ [frameCheck kind payload]).length ≤ payload.length := by simp
  have body : (payload ++ [frameCheck kind payload]).take payload.length = payload := by simp
  obtain ⟨v, rest, cons⟩ := List.exists_cons_of_ne_nil (l := payload ++ [frameCheck kind payload]) (by simp)
  rw [cons] at last long body ⊢
  simp only [judgeFrame, known, Option.getD_some, if_neg long, last, body, message, ne_eq, not_true_eq_false, if_false]

/-- A field of a bit vector and the byte below it are the field that spans both. -/
theorem extractLsb'_append_byte {w len : Nat} (x : BitVec w) (start : Nat) :
    x.extractLsb' (start + 8) len ++ x.extractLsb' start 8 = x.extractLsb' start (len + 8) :=
  BitVec.extractLsb'_append_extractLsb'_eq_extractLsb' rfl

/-- A gate's message is read back from its kind and payload: the six bytes of a TAP are its card number (11.4). -/
theorem GateMessage.gateMessage_payload (m : GateMessage) : gateMessage m.kind m.payload = some m := by
  cases m with
  | tap card =>
    refine congrArg (fun c => some (GateMessage.tap c)) ?_
    rw [extractLsb'_append_byte card 32, extractLsb'_append_byte card 24, extractLsb'_append_byte card 16,
      extractLsb'_append_byte card 8, extractLsb'_append_byte card 0]
    exact BitVec.extractLsb'_eq_self
  | passed | walkaway | cancel => rfl

/-- A byte that completes a frame ends it with its message heard. -/
theorem hear_complete {r : Reception} {v : Byte} {m : GateMessage}
    (h : judgeFrame (r.bytes ++ [v]) = .complete m) : hear (some r) (framed [v]) = ⟨none, 0, [m]⟩ := by
  simp [hear, framed, hearByte, h]

/-- A gate's whole frame is its start byte and the rest of it but the check byte, then the check byte. -/
theorem GateMessage.received_eq (m : GateMessage) : m.received =
    framed (frameStart :: m.afterStart.take (m.payload.length + 2)) ++ framed [frameCheck m.kind m.payload] := by
  simp [GateMessage.received, framed, frameBytes, m.afterStart_eq]

/-- Every message of a gate is heard from its frame, alone and with nothing discarded (R126). -/
theorem GateMessage.hear_received (m : GateMessage) : hear none m.received = ⟨none, 0, [m]⟩ := by
  have begun := m.hear_take (n := m.payload.length + 2) (by rw [m.afterStart_length]; omega)
  have before : m.afterStart.take (m.payload.length + 2) ++ [frameCheck m.kind m.payload] =
      m.kind :: BitVec.ofNat 8 m.payload.length :: (m.payload ++ [frameCheck m.kind m.payload]) := by
    simp [m.afterStart_eq]
  have last : hear (some ⟨m.afterStart.take (m.payload.length + 2), 0⟩) (framed [frameCheck m.kind m.payload]) =
      ⟨none, 0, [m]⟩ :=
    hear_complete (before ▸ judgeFrame_complete m.gateLength_kind m.gateMessage_payload)
  rw [m.received_eq, hear_append, begun]
  simp [last]

/-! ### Messages of the part by their frames (11.3, 11.4) -/

/-- Frames of the same bytes have the same kind and the same payload (11.3). -/
theorem frameBytes_inj {kind kind' : Byte} {payload payload' : List Byte}
    (h : frameBytes kind payload = frameBytes kind' payload') : kind = kind' ∧ payload = payload' := by
  simp only [frameBytes, List.cons_append, List.nil_append, List.cons.injEq, true_and] at h
  obtain ⟨kinds, _, rest⟩ := h
  exact ⟨kinds, (List.append_inj' rest rfl).1⟩

/-- Numbers that fit the width are equal where their bit vectors are. -/
theorem ofNat_inj_of_lt {w a b : Nat} (ha : a < 2 ^ w) (hb : b < 2 ^ w) (h : BitVec.ofNat w a = BitVec.ofNat w b) :
    a = b := by
  have numbers := congrArg BitVec.toNat h
  rwa [BitVec.toNat_ofNat, BitVec.toNat_ofNat, Nat.mod_eq_of_lt ha, Nat.mod_eq_of_lt hb] at numbers

/-- Two words of the same two bytes are one. -/
theorem word_eq_of_halves {v w : Word} (high : v.extractLsb' 8 8 = w.extractLsb' 8 8)
    (low : v.extractLsb' 0 8 = w.extractLsb' 0 8) : v = w := by
  rw [← word_halves v, ← word_halves w, high, low]

/-- Charges of the same three bytes are one (11.4). -/
theorem charge_eq_of_bytes {v w : BitVec 24} (high : v.extractLsb' 16 8 = w.extractLsb' 16 8)
    (middle : v.extractLsb' 8 8 = w.extractLsb' 8 8) (low : v.extractLsb' 0 8 = w.extractLsb' 0 8) : v = w := by
  have bytes : ∀ x : BitVec 24, x.extractLsb' 16 8 ++ x.extractLsb' 8 8 ++ x.extractLsb' 0 8 = x := fun x => by
    rw [extractLsb'_append_byte x 8, extractLsb'_append_byte x 0]
    exact BitVec.extractLsb'_eq_self
  rw [← bytes v, ← bytes w, high, middle, low]

/-- Display balances that the payload can show are equal where their words are (11.4). -/
theorem display_inj {a b : Int} (ha : -32768 ≤ a ∧ a ≤ 32767) (hb : -32768 ≤ b ∧ b ≤ 32767)
    (h : BitVec.ofInt 16 a = BitVec.ofInt 16 b) : a = b := by
  have shown : ∀ {i : Int}, -32768 ≤ i ∧ i ≤ 32767 → (BitVec.ofInt 16 i).toInt = i := fun range => by
    rw [BitVec.toInt_ofInt]
    exact Int.bmod_eq_of_le_mul_two (by norm_num; omega) (by norm_num; omega)
  rw [← shown ha, ← shown hb, h]

/-- The codes of the reasons follow the order in which they are declared (11.4). -/
theorem Reason.code_eq_ctorIdx (r : Reason) : r.code = r.ctorIdx + 1 := by cases r <;> rfl

theorem Reason.code_le (r : Reason) : r.code ≤ 15 := by cases r <;> decide

/-- No two reasons have one code, and none has the 0 that goes with OPEN (11.4). -/
theorem reasonCode_inj {a b : Option Reason} (h : a.elim 0 Reason.code = b.elim 0 Reason.code) : a = b := by
  cases a <;> cases b <;> simp only [Option.elim_none, Option.elim_some, Reason.code_eq_ctorIdx] at h
  case none.none => rfl
  case some.some a b =>
    exact congrArg some (Function.LeftInverse.injective Reason.ofNat_ctorIdx (Nat.succ.inj h))
  all_goals omega

theorem reasonCode_lt (a : Option Reason) : a.elim 0 Reason.code < 2 ^ 8 := by
  cases a with
  | none => decide
  | some r => exact Nat.lt_of_le_of_lt r.code_le (by decide)

/-- The byte of CLAMPED and LOW holds both (11.4). -/
theorem flagsByte_inj : ∀ {clamped low clamped' low' : Bool},
    BitVec.ofNat 8 ((if clamped then 1 else 0) + 2 * (if low then 1 else 0)) =
      BitVec.ofNat 8 ((if clamped' then 1 else 0) + 2 * (if low' then 1 else 0)) →
    clamped = clamped' ∧ low = low' := by decide

/-- Verdicts whose fields the payload can show are equal where their payloads are (11.4). -/
theorem verdict_payload_inj {v w : Verdict} (hv : (Message.verdict v).Sendable) (hw : (Message.verdict w).Sendable)
    (h : (Message.verdict v).payload = (Message.verdict w).payload) : v = w := by
  obtain ⟨chargeV, lowV, highV, remainingV⟩ := hv
  obtain ⟨chargeW, lowW, highW, remainingW⟩ := hw
  simp only [Message.payload, List.cons.injEq, and_true] at h
  obtain ⟨_, reasons, charge2, charge1, charge0, display1, display0, flags, tag1, tag0, remaining1, remaining0⟩ := h
  have reason : v.reason = w.reason :=
    reasonCode_inj (ofNat_inj_of_lt (reasonCode_lt _) (reasonCode_lt _) reasons)
  have charge : v.fare.charge = w.fare.charge :=
    ofNat_inj_of_lt chargeV chargeW (charge_eq_of_bytes charge2 charge1 charge0)
  have display : v.fare.display = w.fare.display :=
    display_inj ⟨lowV, highV⟩ ⟨lowW, highW⟩ (word_eq_of_halves display1 display0)
  have tag : v.tag = w.tag := word_eq_of_halves tag1 tag0
  have remaining : v.remaining = w.remaining :=
    ofNat_inj_of_lt remainingV remainingW (word_eq_of_halves remaining1 remaining0)
  obtain ⟨clamped, low⟩ := flagsByte_inj flags
  obtain ⟨_, ⟨_, _, _, _⟩, _, _⟩ := v
  obtain ⟨_, ⟨_, _, _, _⟩, _, _⟩ := w
  simp only at reason charge display tag remaining clamped low
  rw [reason, charge, display, tag, remaining, clamped, low]

/-- The codes of the passage answers follow the order in which they are declared (11.4). -/
theorem Answered.code_eq_ctorIdx (a : Answered) : a.code = a.ctorIdx + 1 := by cases a <;> rfl

theorem Answered.code_lt (a : Answered) : a.code < 2 ^ 8 := by cases a <;> decide

/-- Passage answers are equal where their payloads are (11.4). -/
theorem passageAnswer_payload_inj {a b : Answered}
    (h : (Message.passageAnswer a).payload = (Message.passageAnswer b).payload) : a = b := by
  have codes : a.code = b.code := ofNat_inj_of_lt a.code_lt b.code_lt (List.cons.inj h).1
  rw [Answered.code_eq_ctorIdx, Answered.code_eq_ctorIdx] at codes
  exact Function.LeftInverse.injective Answered.ofNat_ctorIdx (Nat.succ.inj codes)

/-- Lane states are equal where their payloads are (11.4). -/
theorem laneState_payload_inj : ∀ {a b : Bool},
    (Message.laneState a).payload = (Message.laneState b).payload → a = b := by decide

/-- No two messages of the part whose fields the payload can show make one frame: the kind byte tells the message,
and the payload its fields (11.3, 11.4). -/
theorem Message.frame_inj {m n : Message} (hm : m.Sendable) (hn : n.Sendable) (h : m.frame = n.frame) : m = n := by
  obtain ⟨kinds, payloads⟩ := frameBytes_inj h
  cases m <;> cases n
  case verdict.verdict => exact congrArg Message.verdict (verdict_payload_inj hm hn payloads)
  case passageAnswer.passageAnswer => exact congrArg Message.passageAnswer (passageAnswer_payload_inj payloads)
  case laneState.laneState => exact congrArg Message.laneState (laneState_payload_inj payloads)
  all_goals exact absurd kinds (by simp [Message.kind])

/-- Settles O11: a gate's frame up to its check byte is in reception, and the check byte completes it; what the part
sends is told by kind and payload. -/
theorem framesAgree : Obligations.FramesAgree := by
  unfold Obligations.FramesAgree
  exact ⟨GateMessage.hear_received, fun _ _ => Message.frame_inj⟩

end Sys2Proof.Machine
end

section
namespace Sys2Proof.Machine

/-! ### The queue and the step (log 14) -/

/-- A step takes the front command off the queue and runs it. -/
theorem step_of_pending_cons {s : State} {i : Instr} {rest : List Instr} (h : s.pending = i :: rest) :
    step s = exec i { s with pending := rest } := by
  unfold step
  rw [h]

/-- A step on an empty queue changes nothing: the part idles, as the model chooses (log 14). -/
theorem step_of_pending_nil {s : State} (h : s.pending = []) : step s = .next s := by
  unfold step
  rw [h]

/-- Settles O1, by the two forms of the queue: a command in front, and none. -/
theorem stepRunsFrontCommand : Obligations.StepRunsFrontCommand := by
  unfold Obligations.StepRunsFrontCommand
  constructor
  · intro i rest s
    exact step_of_pending_cons (s := { s with pending := i :: rest }) rfl
  · intro s idle
    exact step_of_pending_nil idle

end Sys2Proof.Machine
end
